-- ==== Sys2Proof/Word.lean ====
section
/-! DEFINITION. The byte and the 16-bit word of the rings and the field link (R192). -/

namespace Sys2Proof

/-- One byte of a ring slot or a field frame. -/
abbrev Byte := BitVec 8

/-- A 16-bit field: a tag, a handle, a ring index, a window count. -/
abbrev Half := BitVec 16

/-- A set of zones: zone `z` is present when bit `z - 1` is one (R192). -/
abbrev ZoneSet := BitVec 32

end Sys2Proof
end

