-- ==== Sys2Proof/Config.lean ====
section
/-! DEFINITION. The fixed figures of the part, and the values the spec leaves open (free values: no body, so no
proof can know them; assumption log 13). -/

namespace Sys2Proof

/-- Why a service day ended (R18). -/
inductive RolloverCause where
  | endDay
  | clockEnd
deriving DecidableEq, Repr

/-- The breaker order a confirm timer awaits (R114). -/
inductive BreakerOrder where
  | openOrder
  | closeOrder
deriving DecidableEq, Repr

namespace Config

/-- The last second of the service day; the clock never stands at it in service (R18, R27). -/
def dayEnd : Nat := 107999

/-- Slots of each ring (R173). -/
def ringSlots : Nat := 32

/-- Bytes of a ring slot (R173). -/
def slotBytes : Nat := 256

/-- Bytes of a request body, 6 to 255 (R194). -/
def bodyBytes : Nat := 250

/-- Bytes of an answer body, 8 to 255 (R194). -/
def answerBodyBytes : Nat := 248

/-- The most runs a segment queue or a merge order list holds (R55, R56). -/
def queueBound : Nat := 8

/-- The 3-byte value that means an absent clock value (R192). -/
def absentClock : Nat := 16777215

/-- The frame start code (R193). -/
def startCode : Byte := 126

/-- The byte that stands for an absent watched desk in DEFINE_CLIENT and its lookup. DESIGN CHOICE: the spec gives
no code for it, and 0 is a desk (log 12). -/
def absentDesk : Nat := 255

/-- FREE VALUE: the code of the last rollover's cause in LINE_STATUS; R198 lists none (log 13). -/
opaque rolloverCode : RolloverCause → Byte

/-- FREE VALUE: the code of an absent last rollover in LINE_STATUS (log 13). -/
opaque noRolloverCode : Byte

/-- FREE VALUE: the code by which an answer shows the Line Engine as source or owner (log 13). -/
opaque lineEngineCode : Byte

/-- FREE VALUE: the code of the order a confirm timer awaits, in answers (log 13). -/
opaque awaitedCode : BreakerOrder → Byte

/-- FREE VALUE: the code shown for the awaited order of a stopped confirm timer (log 13). -/
opaque noAwaitedCode : Byte

/-- FREE VALUE: the coded value shown for an absent auto cause or an unreported channel status (log 13). -/
opaque absentCode : Byte

end Config
end Sys2Proof
end

