-- ==== Sys2Proof/Syntax.lean ====
section
/-! DEFINITION. The commands: one constructor of `Instr` for each row of spec/opcode_table.json. -/

namespace Sys2Proof

/-- A request as it stands in the slot that the request consumer names (R194), without its kind byte, which the
command's row gives. `body` holds bytes 6 onward; bytes it does not list are zero. -/
structure Req where
  tag    : Half
  client : Byte
  handle : Half
  body   : List Byte
deriving DecidableEq, Repr

/-- A breaker position in a BREAKER report (R116). -/
inductive BreakerPos where
  | isOpen
  | isClosed
deriving DecidableEq, Repr

/-- The supply state of a substation (R100, R102). -/
inductive SupplyState where
  | online
  | degraded
  | offline
deriving DecidableEq, Repr

/-- The status of a public-address controller (R157). -/
inductive PaStatus where
  | ready
  | notReady
deriving DecidableEq, Repr

/-- The register writes that the port discards (R174, R183). -/
inductive DiscardedWrite where
  | requestConsumer (value : Half)
  | answerProducer (value : Half)
  | portControlOther (value : Half)
deriving DecidableEq, Repr

/-- The commands of the LK-240: the rows of spec/opcode_table.json in the table's order. -/
inductive Instr where
  -- requests to the Line Description Store
  | defineTimingPoint (r : Req)
  | defineSegment (r : Req)
  | defineRoute (r : Req)
  | defineMerge (r : Req)
  | defineSubstation (r : Req)
  | defineSection (r : Req)
  | defineTrainClass (r : Req)
  | defineZoneGroup (r : Req)
  | defineDeskClass (r : Req)
  | mapIncidentKind (r : Req)
  | defineClient (r : Req)
  | setLineParameter (r : Req)
  | defineHeadwayBands (r : Req)
  | enterService (r : Req)
  | returnToSetup (r : Req)
  | lookupLine (r : Req)
  -- requests to the Line Clock
  | setClock (r : Req)
  | endDay (r : Req)
  -- requests to the Run Table
  | loadRun (r : Req)
  | amendRun (r : Req)
  | cancelRun (r : Req)
  | retireRun (r : Req)
  | lookupRun (r : Req)
  | findRun (r : Req)
  | lookupCounters (r : Req)
  | clearCounters (r : Req)
  -- requests to the Movement Tracker
  | lookupPoint (r : Req)
  | lookupSegment (r : Req)
  -- requests to the Departure Regulator
  | holdRun (r : Req)
  | unholdRun (r : Req)
  | releaseRun (r : Req)
  | setRegulation (r : Req)
  | lookupRegulation (r : Req)
  -- requests to the Traction Power Controller
  | setWithhold (r : Req)
  | isolateSection (r : Req)
  | energiseSection (r : Req)
  | lookupSubstation (r : Req)
  | lookupSection (r : Req)
  -- requests to the Incident Table
  | raiseIncident (r : Req)
  | ackIncident (r : Req)
  | addRestriction (r : Req)
  | liftRestriction (r : Req)
  | linkRun (r : Req)
  | linkAnnouncement (r : Req)
  | clearIncident (r : Req)
  | retireIncident (r : Req)
  | lookupIncident (r : Req)
  | lookupDesk (r : Req)
  -- requests to the Passenger Information Unit
  | postAnnouncement (r : Req)
  | withdrawAnnouncement (r : Req)
  | setClassMap (r : Req)
  | enableChannel (r : Req)
  | disableChannel (r : Req)
  | setChannelPolicy (r : Req)
  | setZoneBlock (r : Req)
  | lookupAnnouncement (r : Req)
  | lookupChannel (r : Req)
  | lookupZones (r : Req)
  | lookupBoard (r : Req)
  -- the port's own requests
  | lineStatus (r : Req)
  | malformedRequest (kind : Byte) (r : Req)
  -- field reports
  | arrived (run : Half) (point : Byte)
  | departed (run : Half) (point : Byte)
  | passed (run : Half) (point : Byte)
  | breaker (section_ : Byte) (pos : BreakerPos)
  | substation (sub : Byte) (st : SupplyState)
  | paStatus (channel : Byte) (st : PaStatus)
  | paDone (channel : Byte) (token : Byte)
  | paTaken (channel : Byte) (count : Half)
  | badFrame (bytes : List Byte)
  -- the port's registers
  | requestProducerWrite (value : Half)
  | answerConsumerWrite (value : Half)
  | portReset
  | discardedRegisterWrite (w : DiscardedWrite)
  -- power and time
  | powerOn
  | minuteBoundary
  | clockEnd
  -- due events of the blocks
  | placementTimerExpiry (slot : Nat)
  | releaseEvent (slot : Nat)
  | retry (slot : Nat)
  | departureTimeout (slot : Nat)
  | mergeFreeTimerExpiry (merge : Nat)
  | describerStaleTimerExpiry
  | claimTimerExpiry (slot : Nat)
  | drainTimerExpiry (section_ : Nat)
  | confirmTimerExpiry (section_ : Nat)
  | escalationTimerExpiry (slot : Nat)
  | startTimerExpiry (slot : Nat)
  | repeatTimerExpiry (slot : Nat)
  | announcementExpiry (slot : Nat)
  | noticeWrite
  | frameTransmitEnd
  | skipMarkingOnLoad (slot : Nat)
  | clockAdvance
deriving DecidableEq, Repr

end Sys2Proof
end

