-- ==== Sys2Proof/Machine/State.lean ====
section
/-! DEFINITION. The state of the LK-240: the records of its ten blocks and the queue of waiting commands, as plain
data, and its value after power-on. Identifiers are numbers from 1 unless the spec counts from 0; a table of n
records with identifiers 1..n holds identifier i at index i - 1. -/

namespace Sys2Proof.Machine

/-! ## Names used by several blocks (code sets of R198) -/

/-- The line mode (R1). -/
inductive LineMode where
  | setup
  | service
deriving DecidableEq, Repr

/-- The direction of a timing point (R3). -/
inductive Direction where
  | up
  | down
deriving DecidableEq, Repr

/-- The direction filter of a restriction (R129). -/
inductive DirFilter where
  | up
  | down
  | both
deriving DecidableEq, Repr

/-- The role of a client (R11). -/
inductive Role where
  | dispatch
  | power
  | information
  | supervisor
  | view
deriving DecidableEq, Repr

/-- A desk class (R10). -/
inductive DeskClass where
  | dispatch
  | power
  | information
  | supervisor
deriving DecidableEq, Repr

/-- The kind of an incident (R10, R128). -/
inductive IncidentKind where
  | trainFault
  | platform
  | power
  | passengerAlarm
  | signalData
  | other
deriving DecidableEq, Repr

/-- Who owns an announcement or raised an incident: a client or the Line Engine (R128, R150). -/
inductive Owner where
  | client (n : Nat)
  | engine
deriving DecidableEq, Repr

/-! ## Line Description Store -/

/-- A timing point record (R3). -/
structure TimingPoint where
  dir      : Direction
  chainage : Nat
  zone     : Nat
  dMin     : Nat
  hMin     : Nat
  hMax     : Nat
  board    : Bool
deriving DecidableEq, Repr

/-- A segment record (R4). -/
structure Segment where
  fromTp   : Nat
  toTp     : Nat
  lo       : Nat
  hi       : Nat
  sec      : Nat
  rNom     : Nat
  capacity : Nat
deriving DecidableEq, Repr

/-- A merge record (R6). -/
structure MergeDef where
  tp     : Nat
  main   : Nat
  branch : Nat
  hJ     : Nat
deriving DecidableEq, Repr

/-- A section record (R7). -/
structure SectionDef where
  lo        : Nat
  hi        : Nat
  primary   : Nat
  secondary : Option Nat
  drain     : Nat
deriving DecidableEq, Repr

/-- An entry of the train class table (R8). -/
structure TrainClass where
  cost   : Nat
  tStart : Nat
deriving DecidableEq, Repr

/-- The desks of a desk class: `base` to `base + size - 1` (R10). -/
structure DeskDef where
  base : Nat
  size : Nat
deriving DecidableEq, Repr

/-- An entry of the client table (R11). -/
structure Client where
  configured : Bool
  role       : Role
  desk       : Option Nat
deriving DecidableEq, Repr

/-- The line parameters (R12). -/
structure Params where
  w        : Nat
  tDep     : Nat
  tStale   : Nat
  tConf    : Nat
  hPlan    : Nat
  lwm      : Nat
  delay    : Nat
  template : Option (List Nat)
deriving DecidableEq, Repr

/-- One headway band (R25). -/
structure Band where
  start  : Nat
  target : Nat
deriving DecidableEq, Repr

/-- The four headway bands (R12, R25). -/
structure Bands where
  band1 : Band
  band2 : Band
  band3 : Band
  band4 : Band
deriving DecidableEq, Repr

/-- The Line Description Store (R1 to R12), with the headway band table that R12 writes. -/
structure Lds where
  mode        : LineMode
  points      : Vector (Option TimingPoint) 32
  segments    : Vector (Option Segment) 48
  routes      : Vector (Option (List Nat)) 4
  merges      : Vector (Option MergeDef) 2
  substations : Vector (Option Nat) 8
  sections    : Vector (Option SectionDef) 16
  classes     : Vector (Option TrainClass) 4
  zoneGroups  : Vector ZoneSet 16
  deskClasses : Vector (Option DeskDef) 4
  kindMap     : Vector (Option DeskClass) 6
  clients     : Vector Client 8
  params      : Params
  bands       : Option Bands
deriving DecidableEq, Repr

/-! ## Line Clock -/

/-- The Line Clock (R18). `minuteDue` is the model's own mark of a minute boundary event not yet taken (R19,
log 9). -/
structure Lck where
  clock        : Nat
  day          : Nat
  lastRollover : Option (RolloverCause × Nat)
  minuteDue    : Bool
deriving DecidableEq, Repr

/-! ## Run Table -/

/-- Whether a run halts at a stop (R33). -/
inductive StopKind where
  | stop
  | pass
deriving DecidableEq, Repr

/-- One entry of a run's stop list (R33). -/
structure Stop where
  tp       : Nat
  kind     : StopKind
  schedArr : Option Nat
  schedDep : Option Nat
  actArr   : Option Nat
  actDep   : Option Nat
  release  : Option Nat
  skipped  : Bool
deriving DecidableEq, Repr

/-- The seven states of a run (R34). -/
inductive RunState where
  | planned
  | dwelling
  | held
  | released
  | running
  | terminated
  | cancelled
deriving DecidableEq, Repr

/-- A set of hold causes (R32, R82). -/
structure Causes where
  restriction     : Bool
  section_        : Bool
  capacity        : Bool
  merge           : Bool
  power           : Bool
  dispatcher      : Bool
  manual          : Bool
  departureFailed : Bool
deriving DecidableEq, Repr

/-- The empty hold-cause set. -/
def Causes.none : Causes := ⟨false, false, false, false, false, false, false, false⟩

/-- A live run record (R32). -/
structure Run where
  number       : Nat
  route        : Nat
  cls          : Nat
  state        : RunState
  stops        : List Stop
  cur          : Nat
  causes       : Causes
  claimPresent : Bool
  incidents    : List Nat
  autoDelay    : Option Nat
  lateness     : Option Int
  placeTimer   : Option Nat
  placeWaiting : Bool
deriving DecidableEq, Repr

/-- A run slot: its generation and its live record, if any (R30). -/
structure RunSlot where
  gen : Nat
  run : Option Run
deriving DecidableEq, Repr

/-- The punctuality counters of one route (R51). -/
structure Counters where
  onTime    : Nat
  late      : Nat
  veryLate  : Nat
  cancelled : Nat
deriving DecidableEq, Repr

/-- The Run Table (R30, R49, R51). -/
structure Rtb where
  slots        : Vector RunSlot 128
  horizonCount : Nat
  armed        : Bool
  counters     : Vector Counters 4
deriving DecidableEq, Repr

/-! ## Movement Tracker -/

/-- A slow restriction in force over a segment (R67). -/
structure SlowEntry where
  incident : Nat
  number   : Nat
  percent  : Nat
deriving DecidableEq, Repr

/-- A segment's queue and restriction view (R55, R67). -/
structure SegLive where
  queue     : List Nat
  holdCount : Nat
  slow      : List SlowEntry
deriving DecidableEq, Repr

/-- A timing point's live record (R57). -/
structure TpLive where
  occupant     : Option Nat
  lr           : Option Nat
  ld           : Option Nat
  lastDeparted : Option Nat
deriving DecidableEq, Repr

/-- The Movement Tracker (R55 to R57, R67, R71). -/
structure Mvt where
  segs       : Vector SegLive 48
  mergeLists : Vector (List Nat) 2
  points     : Vector TpLive 32
  stale      : Bool
  staleTimer : Option Nat
deriving DecidableEq, Repr

/-! ## Departure Regulator -/

/-- The regulation record of a run slot (R74). -/
structure RegRec where
  releaseTimer   : Option Nat
  departureTimer : Option Nat
  dispatcherHold : Bool
  releaseSegment : Option Nat
  grantedMerge   : Option Nat
deriving DecidableEq, Repr

/-- The regulator mode (R75). -/
inductive RegMode where
  | automatic
  | halting
  | manual
deriving DecidableEq, Repr

/-- A merge's arbiter (R95). -/
structure Arbiter where
  lastGrant : Option Nat
  freeTimer : Option Nat
  holder    : Option Nat
deriving DecidableEq, Repr

/-- The Departure Regulator (R74, R75, R95). -/
structure Drg where
  recs          : Vector RegRec 128
  mode          : RegMode
  releasedCount : Nat
  arbiters      : Vector Arbiter 2
deriving DecidableEq, Repr

/-! ## Traction Power Controller -/

/-- An entry of a substation's wait queue (R111). `seq` is the run's joining order (log 30). -/
structure WaitEntry where
  run  : Nat
  sec  : Nat
  cost : Nat
  tRel : Nat
  seq  : Nat
deriving DecidableEq, Repr

/-- A substation's live record; the nominal capacity stands in the description (R100). -/
structure SubLive where
  state    : SupplyState
  withheld : Nat
  inUse    : Nat
  queue    : List WaitEntry
deriving DecidableEq, Repr

/-- A live start claim (R105). -/
structure Claim where
  sub       : Nat
  sec       : Nat
  cost      : Nat
  grantTime : Nat
  expiry    : Option Nat
deriving DecidableEq, Repr

/-- The state of a section (R114). -/
inductive SecState where
  | unknown
  | energised
  | draining
  | opening
  | isolated
  | closing
  | tripped
deriving DecidableEq, Repr

/-- A section's live record (R114). -/
structure SecLive where
  state        : SecState
  manual       : Bool
  refs         : Nat
  drainTimer   : Option Nat
  confirmTimer : Option (Nat × BreakerOrder)
  unconfirmed  : Bool
deriving DecidableEq, Repr

/-- The Traction Power Controller (R100, R105, R114). `joinSeq` is the model's joining-order counter (log 30). -/
structure Tpc where
  subs    : Vector (Option SubLive) 8
  claims  : Vector (Option Claim) 128
  secs    : Vector (Option SecLive) 16
  joinSeq : Nat
deriving DecidableEq, Repr

/-! ## Incident Table -/

/-- The kind of a restriction (R129). -/
inductive RestrictionKind where
  | hold
  | slow
  | isolate
  | skip
deriving DecidableEq, Repr

/-- A restriction as a request carries it (R129). -/
structure RestrictionSpec where
  kind    : RestrictionKind
  lo      : Nat
  hi      : Nat
  dir     : DirFilter
  percent : Nat
deriving DecidableEq, Repr

/-- A restriction in force, under its number 1..4 (R129). -/
structure Restriction where
  number : Nat
  spec   : RestrictionSpec
deriving DecidableEq, Repr

/-- The reason for an automatic incident (R143). -/
inductive AutoCause where
  | trip
  | orderUnconfirmed
  | unexpectedEnergisation
  | reportConflict
  | describerStale
deriving DecidableEq, Repr

/-- The kind of a report conflict, in the order of R59's table. -/
inductive ConflictKind where
  | platformOccupied
  | queueFull
  | unexpectedPoint
  | missedSteps
  | outOfOrder
  | mergeOrder
  | stoppedAtPass
  | passedStop
  | unreleasedDeparture
  | departedAfterCancel
deriving DecidableEq, Repr

/-- The object an automatic incident concerns (R143). -/
inductive AutoDetail where
  | ofSection (sec : Nat)
  | ofOrder (sec : Nat) (awaited : BreakerOrder)
  | ofReferences (sec count : Nat)
  | ofConflict (run tp : Nat) (kind : ConflictKind)
  | nothing
deriving DecidableEq, Repr

/-- The state of an incident (R128). -/
inductive IncidentState where
  | raised
  | acknowledged
  | cleared
deriving DecidableEq, Repr

/-- A live incident record (R128). -/
structure Incident where
  number       : Nat
  kind         : IncidentKind
  auto         : Option AutoCause
  detail       : Option AutoDetail
  count        : Nat
  severity     : Nat
  state        : IncidentState
  source       : Owner
  raisedAt     : Nat
  ackBy        : Option Nat
  cls          : DeskClass
  desk         : Nat
  escalation   : Option Nat
  overdue      : Bool
  restrictions : List Restriction
  runs         : List Nat
  anns         : List Nat
deriving DecidableEq, Repr

/-- An incident slot (R126). -/
structure IncSlot where
  gen : Nat
  inc : Option Incident
deriving DecidableEq, Repr

/-- An entry of the pending set (R144). -/
structure PendingRaise where
  detail : AutoDetail
  count  : Nat
deriving DecidableEq, Repr

/-- The Incident Table (R126, R132, R144). The pending set has one place for each auto cause, in R145's order. -/
structure Itb where
  slots      : Vector IncSlot 48
  nextNumber : Nat
  desks      : Vector (List Nat) 8
  pendingSet : Vector (Option PendingRaise) 5
deriving DecidableEq, Repr

/-! ## Passenger Information Unit -/

/-- The target of an announcement (R150). -/
inductive Target where
  | groups (gs : List Nat)
  | followRun (run : Nat)
deriving DecidableEq, Repr

/-- The state of an announcement (R151). -/
inductive AnnState where
  | scheduled
  | queued
  | onAir
  | suspended
  | resting
deriving DecidableEq, Repr

/-- Why an announcement ends (R151). -/
inductive EndReason where
  | complete
  | expired
  | withdrawn
  | dropped
deriving DecidableEq, Repr

/-- What a post carries (R150, R152). -/
structure AnnSpec where
  phrases     : List Nat
  cls         : Nat
  target      : Target
  repeatCount : Nat
  interval    : Nat
  start       : Option Nat
  expiry      : Option Nat
deriving DecidableEq, Repr

/-- A live announcement record (R150). `nextDue` is also the expiry value of the start or repeat timer;
`expiryTimer` is the timer that R150 keeps while an expiry time is present (log 24). -/
structure Announcement where
  spec        : AnnSpec
  channel     : Nat
  owner       : Owner
  linkedInc   : Option Nat
  linkedRun   : Option Nat
  state       : AnnState
  remaining   : Nat
  due         : Option Nat
  nextDue     : Option Nat
  expiryTimer : Option Nat
  token       : Option Nat
deriving DecidableEq, Repr

/-- An announcement slot (R149). -/
structure AnnSlot where
  gen : Nat
  ann : Option Announcement
deriving DecidableEq, Repr

/-- The state of an output channel (R155). -/
inductive ChanState where
  | disabled
  | pending
  | ready
  | halting
deriving DecidableEq, Repr

/-- What a full window does to a candidate (R163). -/
inductive WindowPolicy where
  | wait
  | redirect
  | drop
deriving DecidableEq, Repr

/-- An output channel record (R155). `stack` is listed from top to bottom. -/
structure Channel where
  state      : ChanState
  lastStatus : Option PaStatus
  queue      : List Nat
  onAir      : Option Nat
  stack      : List Nat
  producer   : Half
  consumer   : Half
  nextToken  : Nat
  policy     : WindowPolicy
  deferred   : Bool
deriving DecidableEq, Repr

/-- A zone block level (R160). -/
inductive BlockLevel where
  | none
  | routine
  | all
deriving DecidableEq, Repr

/-- The two stored block levels of a zone (R160). -/
structure ZoneLevels where
  set     : BlockLevel
  derived : BlockLevel
deriving DecidableEq, Repr

/-- One line of a platform board (R169). -/
structure BoardLine where
  run         : Option Nat
  minutes     : Option Nat
  delay       : Bool
  notStopping : Bool
deriving DecidableEq, Repr

/-- A platform board (R169). -/
structure Board where
  line1 : BoardLine
  line2 : BoardLine
deriving DecidableEq, Repr

/-- The Passenger Information Unit (R149, R154, R155, R160, R169). `dirty` lists the timing points whose boards the
event in hand must re-evaluate before it ends; it is empty between events (log 6). -/
structure Piu where
  slots    : Vector AnnSlot 96
  classMap : Vector Nat 8
  channels : Vector Channel 4
  zones    : Vector ZoneLevels 32
  boards   : Vector (Option Board) 32
  dirty    : List Nat
deriving DecidableEq, Repr

/-! ## Control Room Port -/

/-- The register that a ring fault names (R173). -/
inductive RingFault where
  | requestProducer
  | answerConsumer
deriving DecidableEq, Repr

/-- The cause of the last reset of the port (R173). -/
inductive ResetCause where
  | powerOn
  | port
deriving DecidableEq, Repr

/-- The kind of a notice (R179). -/
inductive NoticeKind where
  | timetableLow
  | desk
  | ended
  | halted
  | lineEvent
deriving DecidableEq, Repr

/-- A pending notice: a pair of kind and handle with its latest detail (R180). -/
structure Notice where
  kind   : NoticeKind
  handle : Nat
  detail : Nat
deriving DecidableEq, Repr

/-- A client's pending list and notice-lost mark (R180). -/
structure ClientNotices where
  list : List Notice
  lost : Bool
deriving DecidableEq, Repr

/-- The Control Room Port (R173, R180, R181). The rings are memories of cells with rising addresses; an address that
is not listed reads zero (log 4). -/
structure Crp where
  reqProd     : Half
  reqCons     : Half
  ansProd     : Half
  ansCons     : Half
  ringFault   : Option RingFault
  lastReset   : ResetCause
  notices     : Vector ClientNotices 8
  rotation    : Nat
  requestRing : List Host.Cell
  answerRing  : List Host.Cell
deriving DecidableEq, Repr

/-! ## Field Link Interface -/

/-- The state of the receiver (R185): hunting, or inside a frame with the bytes taken since the start code. -/
inductive RxState where
  | hunt
  | frame (taken : List Byte)
deriving DecidableEq, Repr

/-- An order to the field (R188). -/
inductive Order where
  | release (run tp seg : Nat)
  | revoke (run tp seg : Nat)
  | openBreaker (sec : Nat)
  | closeBreaker (sec : Nat)
  | play (channel token : Nat) (zones : ZoneSet) (phrases : List Nat)
  | cut (channel token : Nat)
  | boardUpdate (tp : Nat) (line1 line2 : BoardLine)
deriving DecidableEq, Repr

/-- The four order streams (R188). -/
inductive Stream where
  | release
  | breaker
  | output
  | board
deriving DecidableEq, Repr

/-- The Field Link Interface (R185, R186, R189). `sending` holds the bytes of the frame on the line, if any. -/
structure Fli where
  rx        : RxState
  badFrames : Nat
  unmatched : Nat
  releaseQ  : List Order
  breakerQ  : List Order
  outputQ   : List Order
  boardQ    : List Order
  sending   : Option (List Byte)
  rotation  : Stream
deriving DecidableEq, Repr

/-! ## The whole part -/

/-- The state of the LK-240: one record for each of the ten blocks, and the commands that are waiting. -/
structure State where
  lds     : Lds
  lck     : Lck
  rtb     : Rtb
  mvt     : Mvt
  drg     : Drg
  tpc     : Tpc
  itb     : Itb
  piu     : Piu
  crp     : Crp
  fli     : Fli
  pending : List Instr
deriving DecidableEq, Repr

/-- Why a step stops with a fault. The spec gives the part no fault that stops it: bad input is answered, counted,
marked or discarded. -/
inductive Fault where
  /-- An access to the port's window outside the two rings. Raised by no command: every slot address is formed
  modulo 32 (R173). Safe. -/
  | outsideWindow
deriving DecidableEq, Repr

/-- Why a command is refused. -/
inductive Refusal where
  /-- Raised by `exec`'s arm of a command that has no meaning yet; no arm is such an arm now. Safe. -/
  | notModelled (mnemonic : String)
deriving DecidableEq, Repr

/-! ## After power-on -/

/-- The Line Description Store after power-on (R1, R3 to R12). -/
def Lds.reset : Lds where
  mode        := .setup
  points      := Vector.replicate 32 none
  segments    := Vector.replicate 48 none
  routes      := Vector.replicate 4 none
  merges      := Vector.replicate 2 none
  substations := Vector.replicate 8 none
  sections    := Vector.replicate 16 none
  classes     := Vector.replicate 4 none
  zoneGroups  := Vector.replicate 16 0
  deskClasses := Vector.replicate 4 none
  kindMap     := Vector.replicate 6 none
  clients     := Vector.replicate 8 ⟨false, .view, none⟩
  params      := ⟨4, 120, 30, 20, 3600, 4, 300, none⟩
  bands       := none

/-- The Line Clock after power-on (R18). -/
def Lck.reset : Lck := ⟨0, 0, none, false⟩

/-- The Run Table after power-on (R30, R49, R51). -/
def Rtb.reset : Rtb := ⟨Vector.replicate 128 ⟨0, none⟩, 0, true, Vector.replicate 4 ⟨0, 0, 0, 0⟩⟩

/-- A timing point's live record with nothing in it (R57). -/
def TpLive.empty : TpLive := ⟨none, none, none, none⟩

/-- The Movement Tracker after power-on (R55 to R57, R67, R71). -/
def Mvt.reset : Mvt :=
  ⟨Vector.replicate 48 ⟨[], 0, []⟩, Vector.replicate 2 [], Vector.replicate 32 TpLive.empty, false, none⟩

/-- A clear regulation record (R74). -/
def RegRec.clear : RegRec := ⟨none, none, false, none, none⟩

/-- A clear merge arbiter (R95). -/
def Arbiter.clear : Arbiter := ⟨none, none, none⟩

/-- The Departure Regulator after power-on (R74, R75). -/
def Drg.reset : Drg := ⟨Vector.replicate 128 RegRec.clear, .automatic, 0, Vector.replicate 2 Arbiter.clear⟩

/-- The Traction Power Controller after power-on (R100, R105, R114). -/
def Tpc.reset : Tpc := ⟨Vector.replicate 8 none, Vector.replicate 128 none, Vector.replicate 16 none, 0⟩

/-- The Incident Table after power-on (R126, R132, R144). -/
def Itb.reset : Itb := ⟨Vector.replicate 48 ⟨0, none⟩, 1, Vector.replicate 8 [], Vector.replicate 5 none⟩

/-- A channel record after power-on (R155). -/
def Channel.reset : Channel := ⟨.disabled, none, [], none, [], 0, 0, 1, .wait, false⟩

/-- The Passenger Information Unit after power-on (R149, R154, R155, R160). -/
def Piu.reset : Piu :=
  ⟨Vector.replicate 96 ⟨0, none⟩, #v[0, 0, 0, 0, 1, 1, 2, 3], Vector.replicate 4 Channel.reset,
    Vector.replicate 32 ⟨.none, .none⟩, Vector.replicate 32 none, []⟩

/-- The Control Room Port after power-on (R173, R180, R181). -/
def Crp.reset : Crp := ⟨0, 0, 0, 0, none, .powerOn, Vector.replicate 8 ⟨[], false⟩, 7, [], []⟩

/-- The Field Link Interface after power-on (R191). -/
def Fli.reset : Fli := ⟨.hunt, 0, 0, [], [], [], [], none, .board⟩

/-- The part right after power-on, with no command waiting. -/
def State.reset : State where
  lds     := Lds.reset
  lck     := Lck.reset
  rtb     := Rtb.reset
  mvt     := Mvt.reset
  drg     := Drg.reset
  tpc     := Tpc.reset
  itb     := Itb.reset
  piu     := Piu.reset
  crp     := Crp.reset
  fli     := Fli.reset
  pending := []

end Sys2Proof.Machine
end

