-- ==== Sys2Proof/Machine/Ops.lean ====
section
/-! DEFINITION. The operations shared by every block: tables, updates of one block's record, clock arithmetic, handles,
the rings' memory, posting notices and creating orders. -/

namespace Sys2Proof.Machine

/-! ## Tables -/

/-- The entry with identifier `i` of a table numbered from 1. -/
def get1 {α : Type} {n : Nat} (v : Vector α n) (i : Nat) : Option α := if i = 0 then none else v.toList[i - 1]?

/-- The entry with number `i` of a table numbered from 0. -/
def get0 {α : Type} {n : Nat} (v : Vector α n) (i : Nat) : Option α := v.toList[i]?

/-- Changes the entry with number `i` of a table numbered from 0; a number outside the table changes nothing. -/
def mod0 {α : Type} {n : Nat} (v : Vector α n) (i : Nat) (f : α → α) : Vector α n :=
  match v.toList[i]? with
  | some a => v.setIfInBounds i (f a)
  | none => v

/-- Changes the entry with identifier `i` of a table numbered from 1; an identifier outside the table changes nothing.
-/
def mod1 {α : Type} {n : Nat} (v : Vector α n) (i : Nat) (f : α → α) : Vector α n :=
  if i = 0 then v else mod0 v (i - 1) f

/-- The record with identifier `i` of a table of records that may be undefined. -/
def look {α : Type} {n : Nat} (v : Vector (Option α) n) (i : Nat) : Option α := (get1 v i).join

/-- Writes or clears the record with identifier `i`. -/
def put {α : Type} {n : Nat} (v : Vector (Option α) n) (i : Nat) (a : Option α) : Vector (Option α) n :=
  mod1 v i fun _ => a

/-- Changes the record with identifier `i` where there is one. -/
def modLook {α : Type} {n : Nat} (v : Vector (Option α) n) (i : Nat) (f : α → α) : Vector (Option α) n :=
  mod1 v i (Option.map f)

/-- The identifiers 1 to `n`. -/
def ids (n : Nat) : List Nat := (List.range n).map (· + 1)

/-! ## Ordered lists -/

/-- Inserts an entry behind every entry that comes at or before it. -/
def insertBy {α : Type} (le : α → α → Bool) (a : α) : List α → List α
  | [] => [a]
  | b :: rest => if le b a then b :: insertBy le a rest else a :: b :: rest

/-- Sorts a list, entries of equal key kept in their order. -/
def sortBy {α : Type} (le : α → α → Bool) (l : List α) : List α := l.foldl (fun t a => insertBy le a t) []

/-! ## Updates of one block -/

/-- Changes the Line Description Store. -/
def State.onLds (s : State) (f : Lds → Lds) : State := { s with lds := f s.lds }

/-- Changes the Line Clock. -/
def State.onLck (s : State) (f : Lck → Lck) : State := { s with lck := f s.lck }

/-- Changes the Run Table. -/
def State.onRtb (s : State) (f : Rtb → Rtb) : State := { s with rtb := f s.rtb }

/-- Changes the Movement Tracker. -/
def State.onMvt (s : State) (f : Mvt → Mvt) : State := { s with mvt := f s.mvt }

/-- Changes the Departure Regulator. -/
def State.onDrg (s : State) (f : Drg → Drg) : State := { s with drg := f s.drg }

/-- Changes the Traction Power Controller. -/
def State.onTpc (s : State) (f : Tpc → Tpc) : State := { s with tpc := f s.tpc }

/-- Changes the Incident Table. -/
def State.onItb (s : State) (f : Itb → Itb) : State := { s with itb := f s.itb }

/-- Changes the Passenger Information Unit. -/
def State.onPiu (s : State) (f : Piu → Piu) : State := { s with piu := f s.piu }

/-- Changes the Control Room Port. -/
def State.onCrp (s : State) (f : Crp → Crp) : State := { s with crp := f s.crp }

/-- Changes the Field Link Interface. -/
def State.onFli (s : State) (f : Fli → Fli) : State := { s with fli := f s.fli }

/-! ## The line clock and timers (R20, R21) -/

/-- The present second of the service day. -/
def State.now (s : State) : Nat := s.lck.clock

/-- A time formed by adding, clamped to the end of the service day (R21). -/
def clampDay (t : Nat) : Nat := min t Config.dayEnd

/-- The clock value `d` seconds from now, clamped (R21). -/
def State.after (s : State) (d : Nat) : Nat := clampDay (s.now + d)

/-- Whether the clock has reached a timer's expiry value (R20); a stopped timer is never reached. -/
def State.reached (s : State) (timer : Option Nat) : Bool :=
  match timer with
  | some e => decide (e ≤ s.now)
  | none => false

/-- The expiry value in the new day of a timer carried over a rollover taken at clock value `t` (R21). -/
def carryTimer (t : Nat) (timer : Option Nat) : Option Nat := timer.map (· - t)

/-- An event counter of at most 65,535 that saturates (R51, R186). -/
def satInc (n : Nat) : Nat := if n < 65535 then n + 1 else n

/-- A lateness: signed seconds, saturated at -999 and +3599. -/
def lateness (actual scheduled : Nat) : Int := max (-999) (min 3599 ((actual : Int) - (scheduled : Int)))

/-! ## The line description in force -/

/-- Whether the description is in force (R1). -/
def State.inService (s : State) : Bool := s.lds.mode == .service

/-- A timing point of the locked description; unknown in SETUP (R1). -/
def State.point (s : State) (i : Nat) : Option TimingPoint := if s.inService then look s.lds.points i else none

/-- A segment of the locked description. -/
def State.segment (s : State) (i : Nat) : Option Segment := if s.inService then look s.lds.segments i else none

/-- A section of the locked description. -/
def State.sectionDef (s : State) (i : Nat) : Option SectionDef := if s.inService then look s.lds.sections i else none

/-- A substation of the locked description, as its nominal capacity. -/
def State.substationDef (s : State) (i : Nat) : Option Nat := if s.inService then look s.lds.substations i else none

/-- A merge of the locked description. -/
def State.mergeDef (s : State) (i : Nat) : Option MergeDef := if s.inService then look s.lds.merges i else none

/-- A route of the locked description. -/
def State.routeDef (s : State) (i : Nat) : Option (List Nat) := if s.inService then look s.lds.routes i else none

/-- The incoming segments of a timing point, ascending (R3). -/
def Lds.incoming (d : Lds) (p : Nat) : List Nat :=
  (ids 48).filter fun i => (look d.segments i).any fun g => g.toTp == p

/-- The outgoing segments of a timing point, ascending (R3). -/
def Lds.outgoing (d : Lds) (p : Nat) : List Nat :=
  (ids 48).filter fun i => (look d.segments i).any fun g => g.fromTp == p

/-- The segment that joins two timing points in this order (R5); a locked description has at most one (R14). -/
def Lds.joining (d : Lds) (a b : Nat) : Option Nat :=
  (ids 48).find? fun i => (look d.segments i).any fun g => g.fromTp == a && g.toTp == b

/-- The joining segments of a list of timing points, in order (R5). A locked description has exactly one for each pair
(R14). DESIGN CHOICE for a description that is not locked: a pair without one adds nothing, and of several the lowest
identifier is given (log 17). -/
def Lds.joiningList (d : Lds) : List Nat → List Nat
  | a :: b :: rest => (d.joining a b).toList ++ d.joiningList (b :: rest)
  | _ => []

/-- The merge that stands at a timing point, if any (R6). -/
def State.mergeAt (s : State) (p : Nat) : Option Nat :=
  (ids 2).find? fun i => (s.mergeDef i).any fun m => m.tp == p

/-- The number by which the desk map holds a desk class (the codes of R198). -/
def DeskClass.index : DeskClass → Nat
  | .dispatch => 1
  | .power => 2
  | .information => 3
  | .supervisor => 4

/-- The number by which the desk map holds an incident kind (the codes of R198). -/
def IncidentKind.index : IncidentKind → Nat
  | .trainFault => 1
  | .platform => 2
  | .power => 3
  | .passengerAlarm => 4
  | .signalData => 5
  | .other => 6

/-- Whether two chainage ranges overlap: each starts before the other ends (R4). -/
def overlaps (lo hi lo' hi' : Nat) : Bool := decide (lo < hi') && decide (lo' < hi)

/-- Whether a direction filter takes in a direction (R67). -/
def DirFilter.admits : DirFilter → Direction → Bool
  | .both, _ => true
  | .up, .up => true
  | .down, .down => true
  | _, _ => false

/-- The headway band in force at a clock value, 1 to 4: the one with the greatest start at or below it (R25). -/
def Bands.inForce (b : Bands) (t : Nat) : Nat :=
  if b.band4.start ≤ t then 4 else if b.band3.start ≤ t then 3 else if b.band2.start ≤ t then 2 else 1

/-- The headway target of the band in force at a clock value (R25). -/
def Bands.target (b : Bands) (t : Nat) : Nat :=
  match b.inForce t with
  | 4 => b.band4.target
  | 3 => b.band3.target
  | 2 => b.band2.target
  | _ => b.band1.target

/-! ## Handles (R30, R126, R149) -/

/-- The handle of a slot under a generation. -/
def mkHandle (gen slot : Nat) : Nat := gen * 256 + slot

/-- The generation after a retirement: one more, wrapping from 255 to 0. -/
def nextGen (g : Nat) : Nat := (g + 1) % 256

/-- What a handle resolves to. -/
inductive Resolved where
  | zero
  | notFound
  | stale
  | live (slot : Nat)
deriving DecidableEq, Repr

/-- Resolves a handle against a table of `n` slots, given each slot's generation when it is live (R31, R127, R149). -/
def resolveIn (n : Nat) (liveGen : Nat → Option Nat) (h : Nat) : Resolved :=
  if h = 0 then .zero
  else if h % 256 = 0 ∨ n < h % 256 then .notFound
  else match liveGen (h % 256) with
    | none => .notFound
    | some g => if g = h / 256 then .live (h % 256) else .stale

/-- The slot of a handle that resolves to a live record. -/
def Resolved.slot? : Resolved → Option Nat
  | .live i => some i
  | _ => none

/-! ### Runs -/

/-- The live run in a slot. -/
def State.runAt (s : State) (slot : Nat) : Option Run := (get1 s.rtb.slots slot).bind (·.run)

/-- The handle of a run slot under its present generation (R30). -/
def State.runHandle (s : State) (slot : Nat) : Nat :=
  mkHandle ((get1 s.rtb.slots slot).elim 0 (·.gen)) slot

/-- Resolves a run handle (R31). -/
def State.resolveRun (s : State) (h : Nat) : Resolved :=
  resolveIn 128 (fun i => (get1 s.rtb.slots i).bind fun x => x.run.map fun _ => x.gen) h

/-- The live run that a handle names. -/
def State.runOf (s : State) (h : Nat) : Option Run := ((s.resolveRun h).slot?).bind s.runAt

/-- The live runs with their slots, in ascending slot order. -/
def State.liveRuns (s : State) : List (Nat × Run) :=
  s.rtb.slots.toList.zipIdx.filterMap fun p => p.1.run.map fun r => (p.2 + 1, r)

/-- The slots of the live runs that satisfy a test, in ascending order. -/
def State.runSlots (s : State) (p : Run → Bool) : List Nat :=
  (s.liveRuns.filter fun x => p x.2).map (·.1)

/-- Changes the live run in a slot. -/
def State.modRun (s : State) (slot : Nat) (f : Run → Run) : State :=
  s.onRtb fun r => { r with slots := mod1 r.slots slot fun x => { x with run := x.run.map f } }

/-- The stop with index `k` of a run (R33). -/
def Run.stopAt (r : Run) (k : Nat) : Option Stop := if k = 0 then none else r.stops[k - 1]?

/-- The current stop of a run (R32). -/
def Run.curStop (r : Run) : Option Stop := r.stopAt r.cur

/-- The timing point of the stop with index `k`, or 0 for none. -/
def Run.tpAt (r : Run) (k : Nat) : Nat := (r.stopAt k).elim 0 (·.tp)

/-- Changes the stop with index `k` of a run. -/
def Run.modStop (r : Run) (k : Nat) (f : Stop → Stop) : Run :=
  if k = 0 then r else { r with stops := r.stops.modify (k - 1) f }

/-- Whether a run halts at a stop: of kind STOP and not skipped (R33). -/
def Stop.halts (st : Stop) : Bool := st.kind == .stop && !st.skipped

/-- The number of stops of a run. -/
def Run.count (r : Run) : Nat := r.stops.length

/-- Whether a hold-cause set is empty. -/
def Causes.isEmpty (c : Causes) : Bool := c == Causes.none

/-- The hold-cause set with every cause of either set. -/
def Causes.union (a b : Causes) : Causes :=
  ⟨a.restriction || b.restriction, a.section_ || b.section_, a.capacity || b.capacity, a.merge || b.merge,
    a.power || b.power, a.dispatcher || b.dispatcher, a.manual || b.manual, a.departureFailed || b.departureFailed⟩

/-- The set {MERGE}. -/
def Causes.onlyMerge : Causes := { Causes.none with merge := true }

/-- The set {POWER}. -/
def Causes.onlyPower : Causes := { Causes.none with power := true }

/-- Whether a run stands DWELLING or HELD at a stop. -/
def Run.waitsAtStop (r : Run) : Bool := r.state == .dwelling || r.state == .held

/-- The regulation record of a run slot (R74). -/
def State.reg (s : State) (slot : Nat) : RegRec := (get1 s.drg.recs slot).getD RegRec.clear

/-- Changes the regulation record of a run slot. -/
def State.modReg (s : State) (slot : Nat) (f : RegRec → RegRec) : State :=
  s.onDrg fun d => { d with recs := mod1 d.recs slot f }

/-! ### Track -/

/-- A segment's live record (R55, R67). -/
def State.seg (s : State) (i : Nat) : SegLive := (get1 s.mvt.segs i).getD ⟨[], 0, []⟩

/-- Changes a segment's live record. -/
def State.modSeg (s : State) (i : Nat) (f : SegLive → SegLive) : State :=
  s.onMvt fun m => { m with segs := mod1 m.segs i f }

/-- A timing point's live record (R57). -/
def State.tp (s : State) (i : Nat) : TpLive := (get1 s.mvt.points i).getD TpLive.empty

/-- Changes a timing point's live record. -/
def State.modTp (s : State) (i : Nat) (f : TpLive → TpLive) : State :=
  s.onMvt fun m => { m with points := mod1 m.points i f }

/-- A merge's order list (R56). -/
def State.mergeList (s : State) (i : Nat) : List Nat := (get1 s.mvt.mergeLists i).getD []

/-- Changes a merge's order list. -/
def State.modMergeList (s : State) (i : Nat) (f : List Nat → List Nat) : State :=
  s.onMvt fun m => { m with mergeLists := mod1 m.mergeLists i f }

/-- The segment in whose queue a run stands (R55). -/
def State.queueOf (s : State) (h : Nat) : Option Nat := (ids 48).find? fun i => (s.seg i).queue.contains h

/-- A merge's arbiter (R95). -/
def State.arbiter (s : State) (i : Nat) : Arbiter := (get1 s.drg.arbiters i).getD Arbiter.clear

/-- Changes a merge's arbiter. -/
def State.modArbiter (s : State) (i : Nat) (f : Arbiter → Arbiter) : State :=
  s.onDrg fun d => { d with arbiters := mod1 d.arbiters i f }

/-! ### Power -/

/-- A substation's live record (R100). -/
def State.sub (s : State) (i : Nat) : Option SubLive := look s.tpc.subs i

/-- Changes a substation's live record. -/
def State.modSub (s : State) (i : Nat) (f : SubLive → SubLive) : State :=
  s.onTpc fun t => { t with subs := modLook t.subs i f }

/-- A section's live record (R114). -/
def State.sec (s : State) (i : Nat) : Option SecLive := look s.tpc.secs i

/-- Changes a section's live record. -/
def State.modSec (s : State) (i : Nat) (f : SecLive → SecLive) : State :=
  s.onTpc fun t => { t with secs := modLook t.secs i f }

/-- A run slot's live claim (R105). -/
def State.claim (s : State) (slot : Nat) : Option Claim := look s.tpc.claims slot

/-- Writes or empties a run slot's claim entry. -/
def State.putClaim (s : State) (slot : Nat) (c : Option Claim) : State :=
  s.onTpc fun t => { t with claims := put t.claims slot c }

/-! ### Incidents -/

/-- The live incident in a slot. -/
def State.incAt (s : State) (slot : Nat) : Option Incident := (get1 s.itb.slots slot).bind (·.inc)

/-- The handle of an incident slot under its present generation (R126). -/
def State.incHandle (s : State) (slot : Nat) : Nat :=
  mkHandle ((get1 s.itb.slots slot).elim 0 (·.gen)) slot

/-- Resolves an incident handle (R127). -/
def State.resolveInc (s : State) (h : Nat) : Resolved :=
  resolveIn 48 (fun i => (get1 s.itb.slots i).bind fun x => x.inc.map fun _ => x.gen) h

/-- The live incidents with their slots, in ascending slot order. -/
def State.liveIncs (s : State) : List (Nat × Incident) :=
  s.itb.slots.toList.zipIdx.filterMap fun p => p.1.inc.map fun r => (p.2 + 1, r)

/-- Changes the live incident in a slot. -/
def State.modInc (s : State) (slot : Nat) (f : Incident → Incident) : State :=
  s.onItb fun t => { t with slots := mod1 t.slots slot fun x => { x with inc := x.inc.map f } }

/-- Changes the live incident that a handle names; any other handle changes nothing. -/
def State.modIncOf (s : State) (h : Nat) (f : Incident → Incident) : State :=
  match (s.resolveInc h).slot? with
  | some i => s.modInc i f
  | none => s

/-! ### Announcements -/

/-- The live announcement in a slot. -/
def State.annAt (s : State) (slot : Nat) : Option Announcement := (get1 s.piu.slots slot).bind (·.ann)

/-- The handle of an announcement slot under its present generation (R149). -/
def State.annHandle (s : State) (slot : Nat) : Nat :=
  mkHandle ((get1 s.piu.slots slot).elim 0 (·.gen)) slot

/-- Resolves an announcement handle (R149). -/
def State.resolveAnn (s : State) (h : Nat) : Resolved :=
  resolveIn 96 (fun i => (get1 s.piu.slots i).bind fun x => x.ann.map fun _ => x.gen) h

/-- The live announcement that a handle names. -/
def State.annOf (s : State) (h : Nat) : Option Announcement := ((s.resolveAnn h).slot?).bind s.annAt

/-- The live announcements with their slots, in ascending slot order. -/
def State.liveAnns (s : State) : List (Nat × Announcement) :=
  s.piu.slots.toList.zipIdx.filterMap fun p => p.1.ann.map fun r => (p.2 + 1, r)

/-- Changes the live announcement in a slot. -/
def State.modAnn (s : State) (slot : Nat) (f : Announcement → Announcement) : State :=
  s.onPiu fun t => { t with slots := mod1 t.slots slot fun x => { x with ann := x.ann.map f } }

/-- A channel record (R155). -/
def State.chan (s : State) (c : Nat) : Channel := (get0 s.piu.channels c).getD Channel.reset

/-- Changes a channel record. -/
def State.modChan (s : State) (c : Nat) (f : Channel → Channel) : State :=
  s.onPiu fun t => { t with channels := mod0 t.channels c f }

/-- Marks the board of a timing point for re-evaluation within the event (R170, log 6). -/
def State.markBoard (s : State) (p : Nat) : State := s.onPiu fun t => { t with dirty := p :: t.dirty }

/-- Marks every board for re-evaluation. -/
def State.markAllBoards (s : State) : State := s.onPiu fun t => { t with dirty := ids 32 ++ t.dirty }

/-! ## The rings' memory (R173, R194) -/

/-- The byte at an address of a ring; an address that is not listed reads zero (log 4). -/
def Memory.read (m : List Host.Cell) (a : Nat) : Byte := ((m.find? fun c => c.1 == a).map (·.2)).getD 0

/-- The canonical form: addresses strictly rising and no zero byte listed. -/
def Memory.wf : List Host.Cell → Bool
  | [] => true
  | [c] => c.2 != 0
  | c :: d :: rest => c.2 != 0 && decide (c.1 < d.1) && Memory.wf (d :: rest)

/-- The cells of a run of bytes from an address on, zero bytes left out. -/
def Memory.cells (base : Nat) : List Byte → List Host.Cell
  | [] => []
  | b :: rest => if b = 0 then Memory.cells (base + 1) rest else (base, b) :: Memory.cells (base + 1) rest

/-- Writes a whole slot of 256 bytes: the given bytes, then zeros (R192). -/
def Memory.writeSlot (m : List Host.Cell) (slot : Nat) (bytes : List Byte) : List Host.Cell :=
  (m.filter fun c => decide (c.1 < slot * Config.slotBytes)) ++
    Memory.cells (slot * Config.slotBytes) (bytes.take Config.slotBytes) ++
    (m.filter fun c => decide ((slot + 1) * Config.slotBytes ≤ c.1))

/-! ## Notices (R179, R180) -/

/-- Joins a notice to a pending list: coalesces with its pair, or joins at the tail, pushing out the head of a full
list and setting the notice-lost mark (R180). -/
def ClientNotices.join (c : ClientNotices) (n : Notice) : ClientNotices :=
  if c.list.any fun x => x.kind == n.kind && x.handle == n.handle then
    { c with list := c.list.map fun x => if x.kind == n.kind && x.handle == n.handle then n else x }
  else if c.list.length < 16 then { c with list := c.list ++ [n] }
  else ⟨c.list.drop 1 ++ [n], true⟩

/-- Posts a notice to one client. A client that is not configured receives none (R179). -/
def State.postTo (s : State) (n : Notice) (client : Nat) : State :=
  if (get0 s.lds.clients client).any (·.configured) then
    s.onCrp fun c => { c with notices := mod0 c.notices client fun x => x.join n }
  else s

/-- Posts a notice to every configured client that satisfies a test (R179). -/
def State.postWhere (s : State) (n : Notice) (p : Client → Bool) : State :=
  (List.range 8).foldl (fun t c => if (get0 s.lds.clients c).any p then t.postTo n c else t) s

/-- A DESK notice to the clients watching a desk (R132, R179). -/
def State.postDesk (s : State) (desk h : Nat) : State :=
  s.postWhere ⟨.desk, h, desk⟩ fun c => c.desk == some desk

/-- The details of a LINE_EVENT notice (R179, codes of R198). -/
inductive LineEvent where
  | rollover
  | staleSet
  | staleCleared
deriving DecidableEq, Repr

/-- The notice detail of a line event (R198). -/
def LineEvent.detail : LineEvent → Nat
  | .rollover => 1
  | .staleSet => 2
  | .staleCleared => 3

/-- A LINE_EVENT notice to every configured client (R179). -/
def State.postLineEvent (s : State) (e : LineEvent) : State := s.postWhere ⟨.lineEvent, 0, e.detail⟩ fun _ => true

/-! ## Orders (R188, R189) -/

/-- The stream an order belongs to (R188). -/
def Order.stream : Order → Stream
  | .release .. => .release
  | .revoke .. => .release
  | .openBreaker _ => .breaker
  | .closeBreaker _ => .breaker
  | .play .. => .output
  | .cut .. => .output
  | .boardUpdate .. => .board

/-- The transmit queue of a stream (R189). -/
def Fli.queue (f : Fli) : Stream → List Order
  | .release => f.releaseQ
  | .breaker => f.breakerQ
  | .output => f.outputQ
  | .board => f.boardQ

/-- Replaces the transmit queue of a stream. -/
def Fli.setQueue (f : Fli) (st : Stream) (q : List Order) : Fli :=
  match st with
  | .release => { f with releaseQ := q }
  | .breaker => { f with breakerQ := q }
  | .output => { f with outputQ := q }
  | .board => { f with boardQ := q }

/-- Creates an order: it joins the tail of its stream's transmit queue (R189). -/
def State.order (s : State) (o : Order) : State :=
  s.onFli fun f => f.setQueue o.stream (f.queue o.stream ++ [o])

/-- Counts a report that does not match the part's records (R186). -/
def State.countUnmatched (s : State) : State := s.onFli fun f => { f with unmatched := satInc f.unmatched }

end Sys2Proof.Machine
end

