-- ==== Sys2Proof/Machine/Codes.lean ====
section
/-! DEFINITION. The code sets of R198, and the kinds of request with their codes (R194) and permissions (R177). -/

namespace Sys2Proof.Machine

/-- The answer codes (R178). -/
inductive AnswerCode where
  | ok
  | noEffect
  | notFound
  | stale
  | duplicate
  | full
  | badState
  | notPermitted
  | outOfRange
  | locked
  | tooSoon
  | tooLate
  | malformed
deriving DecidableEq, Repr

/-- The code of an answer (R198). -/
def AnswerCode.code : AnswerCode → Nat
  | .ok => 0
  | .noEffect => 1
  | .notFound => 2
  | .stale => 3
  | .duplicate => 4
  | .full => 5
  | .badState => 6
  | .notPermitted => 7
  | .outOfRange => 8
  | .locked => 9
  | .tooSoon => 10
  | .tooLate => 11
  | .malformed => 12

/-- The code of a notice kind (R198). -/
def NoticeKind.code : NoticeKind → Nat
  | .timetableLow => 32
  | .desk => 33
  | .ended => 34
  | .halted => 35
  | .lineEvent => 36

/-- The code of a run state (R198). -/
def RunState.code : RunState → Nat
  | .planned => 1
  | .dwelling => 2
  | .held => 3
  | .released => 4
  | .running => 5
  | .terminated => 6
  | .cancelled => 7

/-- The code of a stop kind (R198). -/
def StopKind.code : StopKind → Nat
  | .stop => 1
  | .pass => 2

/-- The stop kind with a code (R198). -/
def StopKind.ofCode : Nat → Option StopKind
  | 1 => some .stop
  | 2 => some .pass
  | _ => none

/-- The byte of a set of hold causes: a cause is present when its bit is one (R192, R198). -/
def Causes.byte (c : Causes) : Nat :=
  c.restriction.toNat + 2 * c.section_.toNat + 4 * c.capacity.toNat + 8 * c.merge.toNat + 16 * c.power.toNat +
    32 * c.dispatcher.toNat + 64 * c.manual.toNat + 128 * c.departureFailed.toNat

/-- The code of a regulator mode (R198). -/
def RegMode.code : RegMode → Nat
  | .automatic => 1
  | .halting => 2
  | .manual => 3

/-- The incident kind with a code (R198). -/
def IncidentKind.ofCode : Nat → Option IncidentKind
  | 1 => some .trainFault
  | 2 => some .platform
  | 3 => some .power
  | 4 => some .passengerAlarm
  | 5 => some .signalData
  | 6 => some .other
  | _ => none

/-- The code of an incident state (R198). -/
def IncidentState.code : IncidentState → Nat
  | .raised => 1
  | .acknowledged => 2
  | .cleared => 3

/-- The code of an auto cause (R198); also its place in the pending set, which is R145's order. -/
def AutoCause.code : AutoCause → Nat
  | .trip => 1
  | .orderUnconfirmed => 2
  | .unexpectedEnergisation => 3
  | .reportConflict => 4
  | .describerStale => 5

/-- The auto causes in the order in which the pending set is raised (R145). -/
def AutoCause.all : List AutoCause :=
  [.trip, .orderUnconfirmed, .unexpectedEnergisation, .reportConflict, .describerStale]

/-- The code of a conflict kind (R198). -/
def ConflictKind.code : ConflictKind → Nat
  | .platformOccupied => 1
  | .queueFull => 2
  | .unexpectedPoint => 3
  | .missedSteps => 4
  | .outOfOrder => 5
  | .mergeOrder => 6
  | .stoppedAtPass => 7
  | .passedStop => 8
  | .unreleasedDeparture => 9
  | .departedAfterCancel => 10

/-- The code of a restriction kind (R198). -/
def RestrictionKind.code : RestrictionKind → Nat
  | .hold => 1
  | .slow => 2
  | .isolate => 3
  | .skip => 4

/-- The restriction kind with a code (R198). -/
def RestrictionKind.ofCode : Nat → Option RestrictionKind
  | 1 => some .hold
  | 2 => some .slow
  | 3 => some .isolate
  | 4 => some .skip
  | _ => none

/-- The code of a direction (R198). -/
def Direction.code : Direction → Nat
  | .up => 1
  | .down => 2

/-- The direction with a code (R198); BOTH is no direction of a timing point (R3). -/
def Direction.ofCode : Nat → Option Direction
  | 1 => some .up
  | 2 => some .down
  | _ => none

/-- The code of a direction filter (R198). -/
def DirFilter.code : DirFilter → Nat
  | .up => 1
  | .down => 2
  | .both => 3

/-- The direction filter with a code (R198). -/
def DirFilter.ofCode : Nat → Option DirFilter
  | 1 => some .up
  | 2 => some .down
  | 3 => some .both
  | _ => none

/-- The code of a desk class is the number by which the desk map holds it (R198). -/
def DeskClass.code (c : DeskClass) : Nat := c.index

/-- The desk class with a code (R198); VIEW is a role only. -/
def DeskClass.ofCode : Nat → Option DeskClass
  | 1 => some .dispatch
  | 2 => some .power
  | 3 => some .information
  | 4 => some .supervisor
  | _ => none

/-- The desk classes in the order of their codes. -/
def DeskClass.all : List DeskClass := [.dispatch, .power, .information, .supervisor]

/-- The role that works at the desks of a class. -/
def DeskClass.role : DeskClass → Role
  | .dispatch => .dispatch
  | .power => .power
  | .information => .information
  | .supervisor => .supervisor

/-- The code of a role (R198). -/
def Role.code : Role → Nat
  | .dispatch => 1
  | .power => 2
  | .information => 3
  | .supervisor => 4
  | .view => 5

/-- The role with a code (R198). -/
def Role.ofCode : Nat → Option Role
  | 1 => some .dispatch
  | 2 => some .power
  | 3 => some .information
  | 4 => some .supervisor
  | 5 => some .view
  | _ => none

/-- The code of a section state (R198). -/
def SecState.code : SecState → Nat
  | .unknown => 0
  | .energised => 1
  | .draining => 2
  | .opening => 3
  | .isolated => 4
  | .closing => 5
  | .tripped => 6

/-- The code of a substation's supply state (R198). -/
def supplyCode : SupplyState → Nat
  | .online => 1
  | .degraded => 2
  | .offline => 3

/-- The supply state with a code (R198). -/
def supplyOfCode : Nat → Option SupplyState
  | 1 => some .online
  | 2 => some .degraded
  | 3 => some .offline
  | _ => none

/-- The code of a breaker position (R198). -/
def breakerCode : BreakerPos → Nat
  | .isOpen => 1
  | .isClosed => 2

/-- The breaker position with a code (R198). -/
def breakerOfCode : Nat → Option BreakerPos
  | 1 => some .isOpen
  | 2 => some .isClosed
  | _ => none

/-- The code of a public-address status (R198). -/
def paStatusCode : PaStatus → Nat
  | .ready => 1
  | .notReady => 2

/-- The public-address status with a code (R198). -/
def paStatusOfCode : Nat → Option PaStatus
  | 1 => some .ready
  | 2 => some .notReady
  | _ => none

/-- The code of an announcement state (R198). -/
def AnnState.code : AnnState → Nat
  | .scheduled => 1
  | .queued => 2
  | .onAir => 3
  | .suspended => 4
  | .resting => 5

/-- The code of an end reason (R198). -/
def EndReason.code : EndReason → Nat
  | .complete => 1
  | .expired => 2
  | .withdrawn => 3
  | .dropped => 4

/-- The code of a channel state (R198). -/
def ChanState.code : ChanState → Nat
  | .disabled => 0
  | .pending => 1
  | .ready => 2
  | .halting => 3

/-- The code of a full-window policy (R198). -/
def WindowPolicy.code : WindowPolicy → Nat
  | .wait => 1
  | .redirect => 2
  | .drop => 3

/-- The full-window policy with a code (R198). -/
def WindowPolicy.ofCode : Nat → Option WindowPolicy
  | 1 => some .wait
  | 2 => some .redirect
  | 3 => some .drop
  | _ => none

/-- The code of a zone block level (R198). -/
def BlockLevel.code : BlockLevel → Nat
  | .none => 0
  | .routine => 1
  | .all => 2

/-- The zone block level with a code (R198). -/
def BlockLevel.ofCode : Nat → Option BlockLevel
  | 0 => some .none
  | 1 => some .routine
  | 2 => some .all
  | _ => Option.none

/-- The code of a line mode (R198). -/
def LineMode.code : LineMode → Nat
  | .setup => 1
  | .service => 2

/-- The code of a reset cause (R198). -/
def ResetCause.code : ResetCause → Nat
  | .powerOn => 1
  | .port => 2

/-- The code of a ring fault cause (R198); 0 for none. -/
def ringFaultCode : Option RingFault → Nat
  | none => 0
  | some .requestProducer => 1
  | some .answerConsumer => 2

/-- The kinds of configured item (R14, R17, R198). -/
inductive ItemKind where
  | timingPoint
  | segment
  | route
  | merge
  | substation
  | section_
  | trainClass
  | zoneGroup
  | deskClass
  | incidentKind
  | client
  | parameter
deriving DecidableEq, Repr

/-- The code of an item kind (R198). -/
def ItemKind.code : ItemKind → Nat
  | .timingPoint => 1
  | .segment => 2
  | .route => 3
  | .merge => 4
  | .substation => 5
  | .section_ => 6
  | .trainClass => 7
  | .zoneGroup => 8
  | .deskClass => 9
  | .incidentKind => 10
  | .client => 11
  | .parameter => 12

/-- The item kind with a code (R198). -/
def ItemKind.ofCode : Nat → Option ItemKind
  | 1 => some .timingPoint
  | 2 => some .segment
  | 3 => some .route
  | 4 => some .merge
  | 5 => some .substation
  | 6 => some .section_
  | 7 => some .trainClass
  | 8 => some .zoneGroup
  | 9 => some .deskClass
  | 10 => some .incidentKind
  | 11 => some .client
  | 12 => some .parameter
  | _ => none

/-- The faults a validation reports (R14). -/
inductive ValidationFault where
  | missing
  | undefinedReference
  | sameFeeder
  | isolatedPoint
  | tooManySegments
  | incomingNotMerge
  | loop
  | directionMismatch
  | duplicatePair
  | outsideSection
  | mergeRepeated
  | mergeMismatch
  | repeatedPoint
  | notJoined
  | deskOutside
  | deskOverlap
  | noSupervisor
deriving DecidableEq, Repr

/-- The code of a validation fault (R198). -/
def ValidationFault.code : ValidationFault → Nat
  | .missing => 1
  | .undefinedReference => 2
  | .sameFeeder => 3
  | .isolatedPoint => 4
  | .tooManySegments => 5
  | .incomingNotMerge => 6
  | .loop => 7
  | .directionMismatch => 8
  | .duplicatePair => 9
  | .outsideSection => 10
  | .mergeRepeated => 11
  | .mergeMismatch => 12
  | .repeatedPoint => 13
  | .notJoined => 14
  | .deskOutside => 15
  | .deskOverlap => 16
  | .noSupervisor => 17

/-- The line parameters (R12, R198). -/
inductive ParamKind where
  | weight
  | departureTimeout
  | staleTime
  | confirmTimeout
  | horizon
  | lowWater
  | delayThreshold
  | template
deriving DecidableEq, Repr

/-- The line parameter with a code (R198). -/
def ParamKind.ofCode : Nat → Option ParamKind
  | 1 => some .weight
  | 2 => some .departureTimeout
  | 3 => some .staleTime
  | 4 => some .confirmTimeout
  | 5 => some .horizon
  | 6 => some .lowWater
  | 7 => some .delayThreshold
  | 8 => some .template
  | _ => none

/-- Whether a line parameter may be set in SERVICE (R12, R13). -/
def ParamKind.adjustable : ParamKind → Bool
  | .weight => true
  | .departureTimeout => true
  | .delayThreshold => true
  | .template => true
  | _ => false

/-! ## Request kinds -/

/-- The kinds of request, in the order of their codes (R194). -/
inductive ReqKind where
  | defineTimingPoint
  | defineSegment
  | defineRoute
  | defineMerge
  | defineSubstation
  | defineSection
  | defineTrainClass
  | defineZoneGroup
  | defineDeskClass
  | mapIncidentKind
  | defineClient
  | setLineParameter
  | defineHeadwayBands
  | enterService
  | returnToSetup
  | lookupLine
  | setClock
  | endDay
  | loadRun
  | amendRun
  | cancelRun
  | retireRun
  | lookupRun
  | findRun
  | lookupCounters
  | clearCounters
  | lookupPoint
  | lookupSegment
  | holdRun
  | unholdRun
  | releaseRun
  | setRegulation
  | lookupRegulation
  | setWithhold
  | isolateSection
  | energiseSection
  | lookupSubstation
  | lookupSection
  | raiseIncident
  | ackIncident
  | addRestriction
  | liftRestriction
  | linkRun
  | linkAnnouncement
  | clearIncident
  | retireIncident
  | lookupIncident
  | lookupDesk
  | postAnnouncement
  | withdrawAnnouncement
  | setClassMap
  | enableChannel
  | disableChannel
  | setChannelPolicy
  | setZoneBlock
  | lookupAnnouncement
  | lookupChannel
  | lookupZones
  | lookupBoard
  | lineStatus
deriving DecidableEq, Repr

/-- The code of a request kind in byte 3 of a request slot, 1 to 60 (R194). -/
def ReqKind.code : ReqKind → Nat
  | .defineTimingPoint => 1
  | .defineSegment => 2
  | .defineRoute => 3
  | .defineMerge => 4
  | .defineSubstation => 5
  | .defineSection => 6
  | .defineTrainClass => 7
  | .defineZoneGroup => 8
  | .defineDeskClass => 9
  | .mapIncidentKind => 10
  | .defineClient => 11
  | .setLineParameter => 12
  | .defineHeadwayBands => 13
  | .enterService => 14
  | .returnToSetup => 15
  | .lookupLine => 16
  | .setClock => 17
  | .endDay => 18
  | .loadRun => 19
  | .amendRun => 20
  | .cancelRun => 21
  | .retireRun => 22
  | .lookupRun => 23
  | .findRun => 24
  | .lookupCounters => 25
  | .clearCounters => 26
  | .lookupPoint => 27
  | .lookupSegment => 28
  | .holdRun => 29
  | .unholdRun => 30
  | .releaseRun => 31
  | .setRegulation => 32
  | .lookupRegulation => 33
  | .setWithhold => 34
  | .isolateSection => 35
  | .energiseSection => 36
  | .lookupSubstation => 37
  | .lookupSection => 38
  | .raiseIncident => 39
  | .ackIncident => 40
  | .addRestriction => 41
  | .liftRestriction => 42
  | .linkRun => 43
  | .linkAnnouncement => 44
  | .clearIncident => 45
  | .retireIncident => 46
  | .lookupIncident => 47
  | .lookupDesk => 48
  | .postAnnouncement => 49
  | .withdrawAnnouncement => 50
  | .setClassMap => 51
  | .enableChannel => 52
  | .disableChannel => 53
  | .setChannelPolicy => 54
  | .setZoneBlock => 55
  | .lookupAnnouncement => 56
  | .lookupChannel => 57
  | .lookupZones => 58
  | .lookupBoard => 59
  | .lineStatus => 60

/-- The greatest request code (R194). -/
def lastRequestCode : Nat := 60

/-- Whether a request kind names a run, incident or announcement in its header (R176). -/
def ReqKind.namesHandle : ReqKind → Bool
  | .amendRun | .cancelRun | .retireRun | .lookupRun | .holdRun | .unholdRun | .releaseRun => true
  | .ackIncident | .addRestriction | .liftRestriction | .linkRun | .linkAnnouncement => true
  | .clearIncident | .retireIncident | .lookupIncident => true
  | .withdrawAnnouncement | .lookupAnnouncement => true
  | _ => false

/-- Whether a request is taken in SETUP from every client number (R2, R176). -/
def ReqKind.setupAccess : ReqKind → Bool
  | .defineTimingPoint | .defineSegment | .defineRoute | .defineMerge | .defineSubstation | .defineSection => true
  | .defineTrainClass | .defineZoneGroup | .defineDeskClass | .mapIncidentKind | .defineClient => true
  | .setLineParameter | .defineHeadwayBands | .enterService | .setClock | .lookupLine | .lineStatus => true
  | _ => false

/-- The permission table (R177): whether a configured client of a role passes the port's role check for a kind. -/
def ReqKind.permits : ReqKind → Role → Bool
  | .defineTimingPoint, r | .defineSegment, r | .defineRoute, r | .defineMerge, r => r == .supervisor
  | .defineSubstation, r | .defineSection, r | .defineTrainClass, r | .defineZoneGroup, r => r == .supervisor
  | .defineDeskClass, r | .mapIncidentKind, r | .defineClient, r | .defineHeadwayBands, r => r == .supervisor
  | .enterService, r | .returnToSetup, r | .setClock, r | .setLineParameter, r => r == .supervisor
  | .endDay, r | .clearCounters, r | .setRegulation, r => r == .dispatch || r == .supervisor
  | .loadRun, r | .amendRun, r | .cancelRun, r | .retireRun, r => r == .dispatch
  | .holdRun, r | .unholdRun, r | .releaseRun, r => r == .dispatch
  | .setWithhold, r => r == .power
  | .isolateSection, r | .energiseSection, r => r == .power || r == .supervisor
  | .raiseIncident, r | .ackIncident, r | .clearIncident, r | .retireIncident, r => r != .view
  | .linkRun, r | .linkAnnouncement, r | .withdrawAnnouncement, r => r != .view
  | .addRestriction, r | .liftRestriction, r => r == .dispatch || r == .power || r == .supervisor
  | .postAnnouncement, r => r == .dispatch || r == .information || r == .supervisor
  | .setClassMap, r | .enableChannel, r | .disableChannel, r => r == .information || r == .supervisor
  | .setChannelPolicy, r | .setZoneBlock, r => r == .information || r == .supervisor
  | .lookupLine, _ | .lookupRun, _ | .findRun, _ | .lookupCounters, _ | .lookupPoint, _ => true
  | .lookupSegment, _ | .lookupRegulation, _ | .lookupSubstation, _ | .lookupSection, _ => true
  | .lookupIncident, _ | .lookupDesk, _ | .lookupAnnouncement, _ | .lookupChannel, _ => true
  | .lookupZones, _ | .lookupBoard, _ | .lineStatus, _ => true

end Sys2Proof.Machine
end

