-- ==== Sys2Proof/Machine/Operands.lean ====
section
/-! DEFINITION. The operands of requests: how each body is read from its slot (R192, R195, R196; the layouts that
R196 leaves to 'the fields in the order listed' are in log 11), and how answer bodies are written. A reader answers
`none` where R192 or the owner's range rules refuse the body OUT_OF_RANGE. -/

namespace Sys2Proof

open Machine

/-! ## Fields of a body -/

/-- The byte at body index `i` (slot byte 6 + `i`); bytes not listed are zero. -/
def Req.u8 (r : Req) (i : Nat) : Nat := (r.body.getD i 0).toNat

/-- The 2-byte field at body index `i`, low byte first (R192). -/
def Req.u16 (r : Req) (i : Nat) : Nat := r.u8 i + 256 * r.u8 (i + 1)

/-- The 3-byte field at body index `i`, low byte first (R192). -/
def Req.u24 (r : Req) (i : Nat) : Nat := r.u16 i + 65536 * r.u8 (i + 2)

/-- A clock value that may be absent: `none` for a value that is neither (R192). -/
def Req.clock? (r : Req) (i : Nat) : Option (Option Nat) :=
  if r.u24 i = Config.absentClock then some none
  else if r.u24 i ≤ Config.dayEnd then some (some (r.u24 i))
  else none

/-- A clock value that must be present (R192). -/
def Req.clock (r : Req) (i : Nat) : Option Nat := (r.clock? i).join

/-- A number in a range. -/
def within (lo hi x : Nat) : Option Nat := if lo ≤ x ∧ x ≤ hi then some x else none

/-- Whether `n` entries of `size` bytes fit between the count field at body index `i` and byte 255 (R192). -/
def fits (i n size : Nat) : Bool := decide (i + 1 + n * size ≤ Config.bodyBytes)

/-- Reads `n` entries. -/
def entries {α : Type} (n : Nat) (f : Nat → Option α) : Option (List α) := (List.range n).mapM f

/-- A handle field that is 0 when not given (R196). -/
def handle? (h : Nat) : Option Nat := if h = 0 then none else some h

/-- The principal handle of a request (R194). -/
def Req.principal (r : Req) : Nat := r.handle.toNat

/-- The client of a request (R194). -/
def Req.from (r : Req) : Nat := r.client.toNat

/-! ## The description requests (R2 to R12) -/

/-- A DEFINE body: an identifier, then the action, then the record for DEFINE. `none` in the pair is REMOVE, whose
record fields are not read (R2, log 11). -/
def Req.define {α : Type} (r : Req) (lo hi : Nat) (record : Option α) : Option (Nat × Option α) :=
  match within lo hi (r.u8 0), r.u8 1 with
  | some i, 1 => record.map fun x => (i, some x)
  | some i, 2 => some (i, none)
  | _, _ => none

/-- A yes-or-no byte. DESIGN CHOICE: no table gives a request field of this kind a code; 0 is no, 1 is yes, and any
other value is out of range (log 49). -/
def readBool : Nat → Option Bool
  | 0 => some false
  | 1 => some true
  | _ => none

/-- The record fields of DEFINE_TIMING_POINT (R3). -/
def Req.timingPoint (r : Req) : Option TimingPoint := do
  let dir ← Direction.ofCode (r.u8 2)
  let zone ← within 1 32 (r.u8 5)
  let dMin ← within 10 180 (r.u16 6)
  let hMin ← within 60 300 (r.u16 8)
  let hMax ← within 0 300 (r.u16 10)
  let board ← readBool (r.u8 12)
  return ⟨dir, r.u16 3, zone, dMin, hMin, hMax, board⟩

/-- The record fields of DEFINE_SEGMENT (R4). -/
def Req.segment (r : Req) : Option Segment := do
  let a ← within 1 32 (r.u8 2)
  let b ← within 1 32 (r.u8 3)
  let hi ← within (r.u16 4 + 1) 65535 (r.u16 6)
  let sec ← within 1 16 (r.u8 8)
  let rNom ← within 30 600 (r.u16 9)
  let cap ← within 1 6 (r.u8 11)
  return ⟨a, b, r.u16 4, hi, sec, rNom, cap⟩

/-- The record fields of DEFINE_ROUTE (R5). -/
def Req.route (r : Req) : Option (List Nat) := do
  let n ← within 2 24 (r.u8 2)
  entries n fun i => within 1 32 (r.u8 (3 + i))

/-- The record fields of DEFINE_MERGE (R6). -/
def Req.merge (r : Req) : Option MergeDef := do
  let tp ← within 1 32 (r.u8 2)
  let main ← within 1 48 (r.u8 3)
  let branch ← within 1 48 (r.u8 4)
  let hJ ← within 60 300 (r.u16 5)
  if main = branch then none else return ⟨tp, main, branch, hJ⟩

/-- The record fields of DEFINE_SECTION (R7). -/
def Req.sectionFields (r : Req) : Option SectionDef := do
  let hi ← within (r.u16 2 + 1) 65535 (r.u16 4)
  let primary ← within 1 8 (r.u8 6)
  let secondary ← within 0 8 (r.u8 7)
  let drain ← within 30 600 (r.u16 8)
  return ⟨r.u16 2, hi, primary, handle? secondary, drain⟩

/-- The record fields of DEFINE_TRAIN_CLASS (R8). -/
def Req.trainClass (r : Req) : Option TrainClass := do
  let cost ← within 1 4 (r.u8 2)
  let tStart ← within 20 90 (r.u16 3)
  return ⟨cost, tStart⟩

/-- The set of zones at body index `i`, four bytes low byte first (R192). -/
def Req.zones (r : Req) (i : Nat) : ZoneSet := BitVec.ofNat 32 (r.u24 i + 16777216 * r.u8 (i + 3))

/-- The record fields of DEFINE_DESK_CLASS (R10). -/
def Req.desks (r : Req) : Option DeskDef := do
  let base ← within 0 7 (r.u8 2)
  let size := r.u8 3
  if size = 1 ∨ size = 2 ∨ size = 4 then return ⟨base, size⟩ else none

/-- The watched desk of DEFINE_CLIENT: a desk 0..7, or absent (log 12). -/
def readDesk (x : Nat) : Option (Option Nat) :=
  if x = Config.absentDesk then some none else (within 0 7 x).map some

/-- The record fields of DEFINE_CLIENT (R11). -/
def Req.clientFields (r : Req) : Option Client := do
  let role ← Role.ofCode (r.u8 2)
  let desk ← readDesk (r.u8 3)
  return ⟨true, role, desk⟩

/-- A line parameter with its new value (R12). -/
inductive ParamSetting where
  | weight (v : Nat)
  | departureTimeout (v : Nat)
  | staleTime (v : Nat)
  | confirmTimeout (v : Nat)
  | horizon (v : Nat)
  | lowWater (v : Nat)
  | delayThreshold (v : Nat)
  | template (v : Option (List Nat))
deriving DecidableEq, Repr

/-- The new value of SET_LINE_PARAMETER for the parameter it names, within the parameter's range (R12). A template
list of no codes removes the template (log 11). -/
def Req.paramSetting (r : Req) : ParamKind → Option ParamSetting
  | .weight => (within 0 8 (r.u8 1)).map .weight
  | .departureTimeout => (within 30 300 (r.u16 1)).map .departureTimeout
  | .staleTime => (within 10 120 (r.u16 1)).map .staleTime
  | .confirmTimeout => (within 5 60 (r.u16 1)).map .confirmTimeout
  | .horizon => (within 900 7200 (r.u16 1)).map .horizon
  | .lowWater => (within 0 32 (r.u8 1)).map .lowWater
  | .delayThreshold => (within 120 1800 (r.u16 1)).map .delayThreshold
  | .template => do
    let n ← within 0 4 (r.u8 1)
    let codes ← entries n fun i => within 1 4095 (r.u16 (2 + 2 * i))
    return .template (if n = 0 then none else some codes)

/-- One band of DEFINE_HEADWAY_BANDS: a start second and a target (R12). -/
def Req.band (r : Req) (i : Nat) : Option Band := do
  let start ← r.clock (5 * i)
  let target ← within 60 900 (r.u16 (5 * i + 3))
  return ⟨start, target⟩

/-- The body of DEFINE_HEADWAY_BANDS (R12): band 1 starts at 0 and the starts strictly increase. DESIGN CHOICE: the four
bands stand without a list count (log 11). -/
def Req.headwayBands (r : Req) : Option Bands := do
  let a ← r.band 0
  let b ← r.band 1
  let c ← r.band 2
  let d ← r.band 3
  if a.start = 0 ∧ a.start < b.start ∧ b.start < c.start ∧ c.start < d.start then return ⟨a, b, c, d⟩ else none

/-! ## Run requests (R36, R41, R195) -/

/-- The body of LOAD_RUN as its coded fields read (R195). -/
structure LoadBody where
  number : Nat
  route  : Nat
  cls    : Nat
  stops  : List Stop
deriving DecidableEq, Repr

/-- One load stop entry of 8 bytes (R195). -/
def Req.loadStop (r : Req) (o : Nat) : Option Stop := do
  let kind ← StopKind.ofCode (r.u8 (o + 1))
  let arr ← r.clock? (o + 2)
  let dep ← r.clock? (o + 5)
  return ⟨r.u8 o, kind, arr, dep, none, none, none, false⟩

/-- The LOAD_RUN body: the stop count lies in 2..24 and every coded value and time is readable (R36, R192). -/
def Req.load (r : Req) : Option LoadBody := do
  let n ← within 2 24 (r.u8 4)
  let stops ← entries n fun i => r.loadStop (5 + 8 * i)
  return ⟨r.u16 0, r.u8 2, r.u8 3, stops⟩

/-- The body of AMEND_RUN: a first stop index and 1 to 12 pairs of scheduled arrival and departure (R41). -/
def Req.amend (r : Req) : Option (Nat × List (Option Nat × Option Nat)) := do
  let n ← within 1 12 (r.u8 1)
  let es ← entries n fun i => do
    let arr ← r.clock? (2 + 6 * i)
    let dep ← r.clock? (5 + 6 * i)
    return (arr, dep)
  return (r.u8 0, es)

/-- The actions of SET_REGULATION (R92). The value of WEIGHT is as read; its range is the owner's check. -/
inductive RegAction where
  | halt
  | resume
  | weight (v : Nat)
deriving DecidableEq, Repr

/-- The body of SET_REGULATION (R92). -/
def Req.regAction (r : Req) : Option RegAction :=
  match r.u8 0 with
  | 1 => some .halt
  | 2 => some .resume
  | 3 => some (.weight (r.u8 1))
  | _ => none

/-! ## Incident and announcement requests (R129, R130, R150, R152) -/

/-- A restriction in a request body, 8 bytes: kind, range, direction filter, percent (R129). DESIGN CHOICE: the
restriction number, which R129 lists first and the part itself assigns, takes no byte in a request (log 11). -/
def Req.restriction (r : Req) (o : Nat) : Option RestrictionSpec := do
  let kind ← RestrictionKind.ofCode (r.u8 o)
  let hi ← within (r.u16 (o + 1) + 1) 65535 (r.u16 (o + 3))
  let dir ← DirFilter.ofCode (r.u8 (o + 5))
  let percent ← if kind = .slow then within 10 200 (r.u16 (o + 6)) else within 0 0 (r.u16 (o + 6))
  return ⟨kind, r.u16 (o + 1), hi, dir, percent⟩

/-- The target of an announcement: a list of one to four distinct zone groups, or a run handle, and not both (R150,
R152, log 11). -/
def readTarget (groups : List Nat) (run : Nat) : Option Target :=
  if groups = [] then if run = 0 then none else some (.followRun run)
  else if run = 0 ∧ groups.Nodup then some (.groups groups) else none

/-- An announcement specification at body index `o`, with the index after it: phrases, class, target, repeat count,
interval code, start time, expiry time (R150, R196). -/
def Req.annSpec (r : Req) (o : Nat) : Option (AnnSpec × Nat) := do
  let n ← within 1 6 (r.u8 o)
  let phrases ← if fits o n 2 then entries n fun i => within 1 4095 (r.u16 (o + 1 + 2 * i)) else none
  let p := o + 1 + 2 * n
  let cls ← within 0 7 (r.u8 p)
  let g ← within 0 4 (r.u8 (p + 1))
  let groups ← entries g fun i => within 1 16 (r.u8 (p + 2 + i))
  let q := p + 2 + g
  let target ← readTarget groups (r.u16 q)
  let rep ← within 0 15 (r.u16 (q + 2))
  let interval ← within 0 62 (r.u8 (q + 4))
  let start ← r.clock? (q + 5)
  let expiry ← r.clock? (q + 8)
  return (⟨phrases, cls, target, rep, interval, start, expiry⟩, q + 11)

/-- The body of POST_ANNOUNCEMENT: a specification, then the linked run or 0 (R152). -/
def Req.post (r : Req) : Option (AnnSpec × Option Nat) := do
  let (spec, o) ← r.annSpec 0
  return (spec, handle? (r.u16 o))

/-- The body of RAISE_INCIDENT (R130). -/
structure RaiseBody where
  kind         : IncidentKind
  severity     : Nat
  restrictions : List RestrictionSpec
  runs         : List Nat
  ann          : Option AnnSpec
deriving DecidableEq, Repr

/-- The optional announcement specification of RAISE_INCIDENT: a count of 0 or 1, then the specification (R130,
log 11). -/
def Req.optSpec (r : Req) (o : Nat) : Option (Option AnnSpec) :=
  match r.u8 o with
  | 0 => some none
  | 1 => (r.annSpec (o + 1)).map fun x => some x.1
  | _ => none

/-- The body of RAISE_INCIDENT: kind, severity, restrictions, run handles, announcement specification (R130). -/
def Req.raise (r : Req) : Option RaiseBody := do
  let kind ← IncidentKind.ofCode (r.u8 0)
  let severity ← within 1 4 (r.u8 1)
  let n ← within 0 4 (r.u8 2)
  let restrictions ← entries n fun i => r.restriction (3 + 8 * i)
  let o := 3 + 8 * n
  let m ← within 0 4 (r.u8 o)
  let runs := (List.range m).map fun i => r.u16 (o + 1 + 2 * i)
  let ann ← r.optSpec (o + 1 + 2 * m)
  if runs.contains 0 ∨ ¬ runs.Nodup then none else return ⟨kind, severity, restrictions, runs, ann⟩

/-- The action of a link request: LINK is `true`, UNLINK `false` (R139, R140, R198). -/
def readLink : Nat → Option Bool
  | 1 => some true
  | 2 => some false
  | _ => none

/-! ## Answers (R178, R192, R196) -/

/-- What an owner answers: a code, the handle the answer concerns where it is not the request's principal handle, and
a body. -/
structure Reply where
  code   : AnswerCode
  handle : Option Nat := none
  body   : List Byte := []
deriving DecidableEq, Repr

/-- An answer with a code alone. -/
def Reply.just (c : AnswerCode) : Reply := ⟨c, none, []⟩

/-- A 1-byte field. -/
def enc8 (n : Nat) : List Byte := [BitVec.ofNat 8 n]

/-- A 2-byte field, low byte first. -/
def enc16 (n : Nat) : List Byte := [BitVec.ofNat 8 n, BitVec.ofNat 8 (n / 256)]

/-- A 3-byte field, low byte first. -/
def enc24 (n : Nat) : List Byte := [BitVec.ofNat 8 n, BitVec.ofNat 8 (n / 256), BitVec.ofNat 8 (n / 65536)]

/-- A clock value, or its absent value. -/
def encClock (t : Option Nat) : List Byte := enc24 (t.getD Config.absentClock)

/-- A yes-or-no field. -/
def encBool (b : Bool) : List Byte := enc8 b.toNat

/-- A handle, or 0. -/
def encHandle (h : Option Nat) : List Byte := enc16 (h.getD 0)

/-- A lateness in two's complement, or its absent value -32,768 (R192). -/
def encLateness (l : Option Int) : List Byte := enc16 (((l.getD (-32768)) % 65536).toNat)

/-- A set of zones in four bytes (R192). -/
def encZones (z : ZoneSet) : List Byte := enc16 z.toNat ++ enc16 (z.toNat / 65536)

/-- A list: a one-byte count, then the entries (R196). -/
def encList {α : Type} (l : List α) (f : α → List Byte) : List Byte := enc8 l.length ++ l.flatMap f

/-- An owner or raising source: the client's number, or the code of the Line Engine (log 13). -/
def encOwner : Owner → List Byte
  | .client n => enc8 n
  | .engine => [Config.lineEngineCode]

end Sys2Proof
end

