-- ==== Sys2Proof/Machine/Flags.lean ====
section
/-! DEFINITION. The figures that the part forms from its records whenever it needs them and does not store: ring and
window occupancies, the interrupt line, credits, active feeders, reference counts and zone levels. -/

namespace Sys2Proof.Machine

/-! ## The port (R173, R182) -/

/-- The occupancy of the request ring. -/
def Crp.reqOccupancy (c : Crp) : Nat := (c.reqProd - c.reqCons).toNat

/-- The occupancy of the answer ring. -/
def Crp.ansOccupancy (c : Crp) : Nat := (c.ansProd - c.ansCons).toNat

/-- The free slots of the request ring. -/
def Crp.reqFree (c : Crp) : Nat := Config.ringSlots - c.reqOccupancy

/-- The free slots of the answer ring. -/
def Crp.ansFree (c : Crp) : Nat := Config.ringSlots - c.ansOccupancy

/-- The slot of a ring that an index value names. -/
def ringSlot (index : Half) : Nat := index.toNat % Config.ringSlots

/-- The interrupt line: asserted while the answer producer differs from the answer consumer (R182, log 26). -/
def irqLine (s : State) : Bool := s.crp.ansProd != s.crp.ansCons

/-! ## The output window (R158) -/

/-- The occupancy of a channel's output window. -/
def Channel.occupancy (c : Channel) : Nat := (c.producer - c.consumer).toNat

/-! ## Power (R101, R104, R114) -/

/-- The effective capacity of a substation of nominal capacity `c` (R101). -/
def effective (c : Nat) : SupplyState → Nat
  | .online => c
  | .degraded => c / 2
  | .offline => 0

/-- The effective capacity of a substation of the locked description. -/
def State.effectiveCapacity (s : State) (i : Nat) : Nat :=
  (s.sub i).elim 0 fun x => effective ((s.substationDef i).getD 0) x.state

/-- The available credits of a substation (R101). -/
def State.available (s : State) (i : Nat) : Nat :=
  (s.sub i).elim 0 fun x => s.effectiveCapacity i - x.withheld - x.inUse

/-- Whether a substation can feed: it has a record and is not OFFLINE (R104). -/
def State.feeds (s : State) (i : Nat) : Bool := (s.sub i).any fun x => x.state != .offline

/-- The active feeder of a section, if any (R104). -/
def State.activeFeeder (s : State) (i : Nat) : Option Nat :=
  (s.sectionDef i).bind fun d =>
    if s.feeds d.primary then some d.primary
    else d.secondary.bind fun x => if s.feeds x then some x else none

/-- The substation a section draws from: its active feeder, or its primary when there is none (R104). -/
def State.drawing (s : State) (i : Nat) : Nat :=
  match s.activeFeeder i with
  | some f => f
  | none => (s.sectionDef i).elim 0 (·.primary)

/-- The reference count of a section (R114). -/
def SecLive.count (x : SecLive) : Nat := x.refs + x.manual.toNat

/-- Whether a section is ENERGISED. -/
def State.energised (s : State) (i : Nat) : Bool := (s.sec i).any fun x => x.state == .energised

/-! ## Zone levels (R160) -/

/-- The greater of two block levels. -/
def BlockLevel.max (a b : BlockLevel) : BlockLevel := if a.code < b.code then b else a

/-- The effective level of a zone. -/
def ZoneLevels.effective (z : ZoneLevels) : BlockLevel := z.set.max z.derived

/-- Whether a zone at an effective level is removed for an announcement of a class (R161). -/
def BlockLevel.removes (l : BlockLevel) (cls : Nat) : Bool :=
  match l with
  | .all => decide (cls ≤ 6)
  | .routine => decide (cls ≤ 3)
  | .none => false

/-- The set of one zone (R192). -/
def zoneBit (z : Nat) : ZoneSet := if z = 0 then 0 else BitVec.ofNat 32 (2 ^ (z - 1))

/-- Whether a zone is in a set. -/
def inZones (zs : ZoneSet) (z : Nat) : Bool := z != 0 && zs.getLsbD (z - 1)

/-! ## Sets of desks -/

/-- A set of desks in one byte: desk `d` is present when bit `d` is one (log 33). -/
def deskSet (p : Nat → Bool) : Nat :=
  (List.range 8).foldl (fun n d => if p d then n + 2 ^ d else n) 0

end Sys2Proof.Machine
end

