-- ==== Sys2Proof/Machine/Frames.lean ====
section
/-! DEFINITION. Field frames (R185, R193, R197): the check, the frames of orders, giving the line to a stream (R189),
and what the receiver makes of the bytes after a start code. -/

namespace Sys2Proof.Machine

/-! ## The check (R193) -/

/-- One bit of the cyclic check, low bit first, generator x^16 + x^12 + x^5 + 1. -/
def crcBit (c : Half) : Half := if c.getLsbD 0 then (c >>> 1) ^^^ 0x8408#16 else c >>> 1

/-- One byte of the cyclic check. -/
def crcByte (c : Half) (b : Byte) : Half := (List.range 8).foldl (fun x _ => crcBit x) (c ^^^ b.setWidth 16)

/-- The check over the kind, length and body of a frame. -/
def frameCheck (bytes : List Byte) : Half := bytes.foldl crcByte 0xFFFF#16

/-- A whole frame: start code, kind, length, body, check low byte first (R197). -/
def frame (kind : Nat) (body : List Byte) : List Byte :=
  let covered := enc8 kind ++ enc8 body.length ++ body
  Config.startCode :: (covered ++ enc16 (frameCheck covered).toNat)

/-! ## Orders on the line (R188, R189, R197) -/

/-- The four bytes of a board line. -/
def encBoardLine (l : BoardLine) : List Byte :=
  enc16 (l.run.getD 0) ++ enc8 (l.minutes.getD 255) ++ enc8 (l.delay.toNat + 2 * l.notStopping.toNat)

/-- The code of an order's frame kind. -/
def Order.kind : Order → Nat
  | .release .. => 17
  | .revoke .. => 18
  | .openBreaker _ => 19
  | .closeBreaker _ => 20
  | .play .. => 21
  | .cut .. => 22
  | .boardUpdate .. => 23

/-- The body of an order's frame. -/
def Order.body : Order → List Byte
  | .release run tp seg => enc16 run ++ enc8 tp ++ enc8 seg
  | .revoke run tp seg => enc16 run ++ enc8 tp ++ enc8 seg
  | .openBreaker sec => enc8 sec
  | .closeBreaker sec => enc8 sec
  | .play channel token zones phrases =>
    enc8 channel ++ enc8 token ++ encZones zones ++ encList phrases enc16
  | .cut channel token => enc8 channel ++ enc8 token
  | .boardUpdate tp line1 line2 => enc8 tp ++ encBoardLine line1 ++ encBoardLine line2

/-- The frame of an order. -/
def Order.frame (o : Order) : List Byte := Machine.frame o.kind o.body

/-- The streams in the order in which the transmitter searches them after the rotation position (R189). -/
def Stream.searchFrom : Stream → List Stream
  | .release => [.breaker, .output, .board, .release]
  | .breaker => [.output, .board, .release, .breaker]
  | .output => [.board, .release, .breaker, .output]
  | .board => [.release, .breaker, .output, .board]

/-- Begins the next frame when the line is free and an order waits (R189). -/
def Fli.startFrame (f : Fli) : Fli :=
  match f.sending with
  | some _ => f
  | none =>
    match f.rotation.searchFrom.find? fun st => !(f.queue st).isEmpty with
    | none => f
    | some st =>
      match f.queue st with
      | [] => f
      | o :: rest => { f.setQueue st rest with sending := some o.frame, rotation := st }

/-! ## Receiving (R185) -/

/-- What the receiver makes of the bytes it has taken after a start code. -/
inductive Verdict where
  | incomplete
  | bad
  | sound
deriving DecidableEq, Repr

/-- The report that a frame's kind and body carry (R197). None where the kind is no report kind, the length is not the
one fixed for it, or a coded field is not in its code set: tests 2 to 4. -/
def reportOf : Nat → List Byte → Option Instr
  | 1, [lo, hi, p] => some (.arrived (hi ++ lo) p)
  | 2, [lo, hi, p] => some (.departed (hi ++ lo) p)
  | 3, [lo, hi, p] => some (.passed (hi ++ lo) p)
  | 4, [i, code] => (breakerOfCode code.toNat).map (.breaker i)
  | 5, [i, code] => (supplyOfCode code.toNat).map (.substation i)
  | 6, [c, code] => (paStatusOfCode code.toNat).map (.paStatus c)
  | 7, [c, token] => some (.paDone c token)
  | 8, [c, lo, hi] => some (.paTaken c (hi ++ lo))
  | _, _ => none

/-- The frame kind and body that carry a report (R197); none for a command that is no report. -/
def reportFrame : Instr → Option (Nat × List Byte)
  | .arrived run p => some (1, enc16 run.toNat ++ enc8 p.toNat)
  | .departed run p => some (2, enc16 run.toNat ++ enc8 p.toNat)
  | .passed run p => some (3, enc16 run.toNat ++ enc8 p.toNat)
  | .breaker i pos => some (4, enc8 i.toNat ++ enc8 (breakerCode pos))
  | .substation i st => some (5, enc8 i.toNat ++ enc8 (supplyCode st))
  | .paStatus c st => some (6, enc8 c.toNat ++ enc8 (paStatusCode st))
  | .paDone c token => some (7, enc8 c.toNat ++ enc8 token.toNat)
  | .paTaken c count => some (8, enc8 c.toNat ++ enc16 count.toNat)
  | _ => none

/-- The four tests of a completed frame: the check, and a report in its kind and body (R185). -/
def frameSound (kind : Nat) (covered body check : List Byte) : Bool :=
  check == enc16 (frameCheck covered).toNat && (reportOf kind body).isSome

/-- The verdict on the bytes after a start code. -/
def verdict : List Byte → Verdict
  | k :: l :: rest =>
    if 63 < l.toNat then .bad
    else if rest.length < l.toNat + 2 then .incomplete
    else if
      frameSound k.toNat (k :: l :: rest.take l.toNat) (rest.take l.toNat) ((rest.drop l.toNat).take 2) then .sound
    else .bad
  | _ => .incomplete

/-- The receiver in HUNT over a run of bytes: it enters FRAME at the first start code. -/
def hunt : List Byte → RxState
  | [] => .hunt
  | b :: rest => if b = Config.startCode then .frame rest else hunt rest

/-- The bytes after the start code that a bad frame is made of: those the receiver already holds where the bytes named
are the first of them (log 27). -/
def Fli.heldBytes (f : Fli) (bytes : List Byte) : List Byte :=
  match f.rx with
  | .frame taken => if bytes.isPrefixOf taken then taken else bytes
  | .hunt => bytes

/-- The receiver after a sound frame with a body of `len` bytes: HUNT at the byte after the check (R185, log 27). -/
def Fli.received (f : Fli) (len : Nat) : Fli :=
  match f.rx with
  | .frame taken => { f with rx := hunt (taken.drop (len + 4)) }
  | .hunt => f

/-- A report of body length `len` has been received. -/
def State.received (s : State) (len : Nat) : State := s.onFli (·.received len)

end Sys2Proof.Machine
end

