-- ==== Sys2Proof/Machine/Track.lean ====
section
/-! DEFINITION. What the Movement Tracker forms on request: adjusted run times (R68), predictions (R69), follower
candidates (R70), the span of a release (R81), and the runs a segment or merge concerns. -/

namespace Sys2Proof.Machine

/-! ## Adjusted run times (R67, R68) -/

/-- The slow percent of a segment: the greatest in its slow list, 0 when the list is empty (R67). -/
def SegLive.percent (g : SegLive) : Nat := g.slow.foldl (fun m e => max m e.percent) 0

/-- The adjusted run time ceil(R_nom × (100 + p) / 100) (R68). -/
def adjusted (rNom p : Nat) : Nat := (rNom * (100 + p) + 99) / 100

/-- The adjusted run time of a segment of the locked description. -/
def State.adjustedRun (s : State) (i : Nat) : Nat :=
  (s.segment i).elim 0 fun g => adjusted g.rNom (s.seg i).percent

/-! ## The path of a run -/

/-- The joining segments of a run's route from its stop `a` to its stop `b` (R5). -/
def State.path (s : State) (r : Run) (a b : Nat) : List Nat :=
  s.lds.joiningList (((r.stops.drop (a - 1)).take (b + 1 - a)).map (·.tp))

/-- The segment that joins stop `k` of a run to the next, or 0 for none. -/
def State.segmentAfter (s : State) (r : Run) (k : Nat) : Nat :=
  (s.lds.joining (r.tpAt k) (r.tpAt (k + 1))).getD 0

/-- The index of a run's stop at a timing point. -/
def Run.indexAt (r : Run) (p : Nat) : Option Nat := (r.stops.findIdx? fun st => st.tp == p).map (· + 1)

/-- The timing point of the stop after the current one, or 0 for none. -/
def Run.nextTp (r : Run) : Nat := r.tpAt (r.cur + 1)

/-! ## Predictions (R69) -/

/-- The sum of adjusted run times from stop `a` to stop `b` of a run. -/
def State.pathTime (s : State) (r : Run) (a b : Nat) : Nat := ((s.path r a b).map s.adjustedRun).sum

/-- The predicted arrival of a run at a timing point ahead of it (R69). -/
def State.predict (s : State) (r : Run) (p : Nat) : Option Nat :=
  (r.indexAt p).bind fun m =>
    match r.state with
    | .running =>
      if r.cur ≤ m then
        ((r.stopAt (r.cur - 1)).bind (·.actDep)).map fun t => clampDay (t + s.pathTime r (r.cur - 1) m)
      else none
    | .dwelling | .held | .released =>
      if r.cur < m then
        some (clampDay (max s.now ((r.curStop.bind (·.release)).getD s.now) + s.pathTime r r.cur m))
      else none
    | .planned | .terminated | .cancelled => none

/-! ## Follower candidates (R70, R76) -/

/-- The first RUNNING run of a segment's queue, with its handle (R70). -/
def State.candidateOf (s : State) (i : Nat) : Option (Nat × Run) :=
  (s.seg i).queue.findSome? fun h =>
    (s.runOf h).bind fun r => if r.state = .running then some (h, r) else none

/-- The follower candidates of a timing point, one for each incoming segment that has one, with their predicted
arrivals: segment, handle, prediction (R70). -/
def State.followers (s : State) (p : Nat) : List (Nat × Nat × Option Nat) :=
  (s.lds.incoming p).filterMap fun i =>
    (s.candidateOf i).map fun x => (i, x.1, if s.mvt.stale then none else s.predict x.2 p)

/-- The follower's predicted arrival: the earliest among the candidates; absent while the line is STALE (R76). On a
tie the main feed's candidate is the follower, and the arrival is the same. -/
def State.followerArrival (s : State) (p : Nat) : Option Nat :=
  ((s.followers p).filterMap (·.2.2)).min?

/-! ## The span of a release (R81) -/

/-- The index of the first later stop at which a run halts, or its last stop. -/
def Run.spanEnd (r : Run) : Nat :=
  match (r.stops.drop r.cur).findIdx? Stop.halts with
  | some i => r.cur + 1 + i
  | none => r.count

/-- The span of a release at the current stop: the joining segments to the next halt (R81). -/
def State.span (s : State) (r : Run) : List Nat := s.path r r.cur r.spanEnd

/-- The first segment of the span, or 0 for none. -/
def State.firstSegment (s : State) (r : Run) : Nat := ((s.span r).head?).getD 0

/-- The section that a release draws its credits for: that of the first segment (R81, R106). -/
def State.drawSection (s : State) (r : Run) : Nat := (s.segment (s.firstSegment r)).elim 0 (·.sec)

/-- The merge of the span with the span segment that enters it: the first merge whose timing point is the
to-timing-point of a span segment (R81). -/
def State.spanMerge (s : State) (r : Run) : Option (Nat × Nat) :=
  (s.span r).findSome? fun i =>
    ((s.segment i).bind fun g => s.mergeAt g.toTp).map fun m => (m, i)

/-! ## Gates read from the track (R82) -/

/-- RESTRICTION is closed: a span segment has a hold count above 0. -/
def State.restrictionClosed (s : State) (r : Run) : Bool :=
  (s.span r).any fun i => decide (0 < (s.seg i).holdCount)

/-- SECTION is closed: the section of a span segment is not ENERGISED. -/
def State.sectionClosed (s : State) (r : Run) : Bool :=
  (s.span r).any fun i => !(s.energised ((s.segment i).elim 0 (·.sec)))

/-- CAPACITY is closed: the first segment's queue holds as many runs as its capacity, or more. -/
def State.capacityClosed (s : State) (r : Run) : Bool :=
  let i := s.firstSegment r
  (s.segment i).any fun g => decide (g.capacity ≤ (s.seg i).queue.length)

/-! ## Restrictions and coverage (R67, R138) -/

/-- Whether a restriction applies to a segment (R67). -/
def State.appliesTo (s : State) (x : RestrictionSpec) (i : Nat) : Bool :=
  (s.segment i).any fun g =>
    overlaps x.lo x.hi g.lo g.hi && (s.point g.fromTp).any fun p => x.dir.admits p.dir

/-- Whether a timing point lies under a SKIP with this range and direction (R138). -/
def TimingPoint.under (p : TimingPoint) (x : RestrictionSpec) : Bool :=
  x.kind == .skip && decide (x.lo ≤ p.chainage) && decide (p.chainage < x.hi) && x.dir.admits p.dir

/-- Whether a timing point is covered by a given SKIP. -/
def State.underSkip (s : State) (x : RestrictionSpec) (p : Nat) : Bool := (s.point p).any fun t => t.under x

/-- Whether a timing point is covered by a SKIP in force (R138). -/
def State.covered (s : State) (p : Nat) : Bool :=
  s.liveIncs.any fun i => i.2.restrictions.any fun x => s.underSkip x.spec p

end Sys2Proof.Machine
end

