-- ==== Sys2Proof/Machine/Boards.lean ====
section
/-! DEFINITION. Platform boards (R169, R170), and what ends every event: the boards marked in it are re-evaluated in
ascending order, and a frame begins if the line is free (log 6, 7). -/

namespace Sys2Proof.Machine

/-- The empty board line (R169). -/
def BoardLine.empty : BoardLine := ⟨none, none, false, false⟩

/-- The empty board. -/
def Board.empty : Board := ⟨BoardLine.empty, BoardLine.empty⟩

/-- A candidate of a board with its sort key: predicted arrival, platform after queue, segment, queue position. -/
structure BoardCandidate where
  arrival : Nat
  key     : Nat
  run     : Run
deriving DecidableEq, Repr

/-- The order of R169: by predicted arrival, then runs in a queue before runs at a platform, then by segment, then by
queue position. -/
def BoardCandidate.before (a b : BoardCandidate) : Bool :=
  decide (a.arrival < b.arrival) || (a.arrival == b.arrival && decide (a.key ≤ b.key))

/-- A candidate, where the run has a predicted arrival. `key` orders runs of equal arrival. -/
def State.boardCandidate (s : State) (p key : Nat) (r : Run) : Option BoardCandidate :=
  (s.predict r p).map fun t => ⟨t, key, r⟩

/-- The candidates of a segment's queue: its RUNNING runs. -/
def State.queueCandidates (s : State) (p i : Nat) : List BoardCandidate :=
  (s.seg i).queue.zipIdx.filterMap fun x =>
    (s.runOf x.1).bind fun r =>
      if r.state = .running then s.boardCandidate p (256 * i + x.2) r else none

/-- The candidates at the from-timing-point of a segment: runs that stand there with their next stop at `p`. -/
def State.platformCandidates (s : State) (p i : Nat) : List BoardCandidate :=
  (s.segment i).elim [] fun g =>
    s.liveRuns.filterMap fun x =>
      if (x.2.waitsAtStop || x.2.state == .released) && x.2.tpAt x.2.cur == g.fromTp && x.2.nextTp == p then
        s.boardCandidate p (65536 + 256 * i) x.2
      else none

/-- The candidates of a board in the order of R169. -/
def State.boardCandidates (s : State) (p : Nat) : List BoardCandidate :=
  let inc := s.lds.incoming p
  sortBy BoardCandidate.before (inc.flatMap (s.queueCandidates p) ++ inc.flatMap (s.platformCandidates p))

/-- The minutes to an arrival: ceil of the difference in minutes, within 0..30 (R169). -/
def minutesTo (arrival now : Nat) : Nat := min 30 ((arrival - now + 59) / 60)

/-- The line that shows a run (R169). -/
def State.boardLine (s : State) (p : Nat) (c : BoardCandidate) : BoardLine :=
  ⟨some c.run.number, some (minutesTo c.arrival s.now), c.run.autoDelay.isSome,
    ((c.run.indexAt p).bind c.run.stopAt).any fun st => !st.halts⟩

/-- The content of a board formed anew (R169). -/
def State.boardContent (s : State) (p : Nat) : Board :=
  let lines := (s.boardCandidates p).map (s.boardLine p)
  ⟨lines.getD 0 BoardLine.empty, lines.getD 1 BoardLine.empty⟩

/-- A line held while the line is STALE: DELAY on a line that shows a run (R170). -/
def BoardLine.hold (l : BoardLine) : BoardLine := { l with delay := l.delay || l.run.isSome }

/-- A board held while the line is STALE (R170). -/
def Board.hold (b : Board) : Board := ⟨b.line1.hold, b.line2.hold⟩

/-- Writes a board's content and creates its BOARD_UPDATE order. -/
def State.showBoard (s : State) (p : Nat) (b : Board) : State :=
  (s.onPiu fun t => { t with boards := put t.boards p (some b) }).order (.boardUpdate p b.line1 b.line2)

/-- Re-evaluates the board of a timing point, if it has one (R170). -/
def State.reevaluate (s : State) (p : Nat) : State :=
  match look s.piu.boards p with
  | none => s
  | some b =>
    let new := if s.mvt.stale then b.hold else s.boardContent p
    if new = b then s else s.showBoard p new

/-- Empties the list of marked boards. -/
def State.unmarkBoards (s : State) : State := s.onPiu fun t => { t with dirty := [] }

/-- Re-evaluates the marked boards in ascending timing point order and unmarks them. -/
def State.flushBoards (s : State) : State :=
  (((ids 32).filter fun p => s.piu.dirty.contains p).foldl State.reevaluate s).unmarkBoards

/-- The end of every event: the marked boards, then the line. -/
def State.finish (s : State) : State := s.flushBoards.onFli Fli.startFrame

/-- The timing point of the stop that a run next comes to, or 0 for none: its current stop while it runs toward it or is
not yet placed, else the stop after that (R32, R170). DEDUCED for a PLANNED run and for a CANCELLED run that still runs
in a queue (log 43). -/
def State.nextStop (s : State) (slot : Nat) (r : Run) : Nat :=
  match r.state with
  | .planned | .running => r.tpAt r.cur
  | .cancelled => if (s.queueOf (s.runHandle slot)).isSome then r.tpAt r.cur else r.nextTp
  | .dwelling | .held | .released | .terminated => r.nextTp

/-- Marks every board that shows a run, and the board of the run's next stop (R170). -/
def State.markRun (s : State) (slot : Nat) (r : Run) : State :=
  (ids 32).foldl (fun t p =>
    if (look s.piu.boards p).any fun b => b.line1.run == some r.number || b.line2.run == some r.number then
      t.markBoard p
    else t) (s.markBoard (s.nextStop slot r))

end Sys2Proof.Machine
end

