-- ==== Sys2Proof/Machine/FieldLink.lean ====
section
/-! DEFINITION. The Field Link Interface's own commands: a bad frame (R185, R186) and the end of a frame on the line
(R189). -/

namespace Sys2Proof.Machine

/-- Discards a bad frame: it is counted, and the receiver hunts from the byte after the start code that opened it
(R185). Bytes that do not make a bad frame change nothing (log 27). -/
def Fli.badFrame (f : Fli) (bytes : List Byte) : Fli :=
  match verdict (f.heldBytes bytes) with
  | .bad => { f with badFrames := satInc f.badFrames, rx := hunt (f.heldBytes bytes) }
  | .incomplete | .sound => f

/-- The line is free after the last check byte, and the next frame begins if an order waits (R189). Nothing happens
while no frame is on the line (log 1). -/
def Fli.frameEnd (f : Fli) : Fli :=
  match f.sending with
  | some _ => { f with sending := none }.startFrame
  | none => f

/-- BAD_FRAME. -/
def execBadFrame (bytes : List Byte) (s : State) : Host.Outcome State Fault Refusal := .next (s.onFli (·.badFrame bytes))

/-- FRAME_TRANSMIT_END. -/
def execFrameTransmitEnd (s : State) : Host.Outcome State Fault Refusal := .next (s.onFli Fli.frameEnd)

end Sys2Proof.Machine
end

