-- ==== Sys2Proof/Machine/Announce.lean ====
section
/-! DEFINITION. The shared work of the Passenger Information Unit: queues, endings (R151), zone sets (R161), going on
air (R162 to R164), posting (R152, R153), withdrawals (R168). -/

namespace Sys2Proof.Machine

/-! ## The channel queue (R159) -/

/-- The class of a live announcement, 0 for none. -/
def State.annClass (s : State) (h : Nat) : Nat := (s.annOf h).elim 0 (·.spec.cls)

/-- The order of a channel queue: class descending, due time ascending, handle ascending (R159). -/
def State.queueBefore (s : State) (a b : Nat) : Bool :=
  let ca := s.annClass a
  let cb := s.annClass b
  let da := ((s.annOf a).bind (·.due)).getD 0
  let db := ((s.annOf b).bind (·.due)).getD 0
  decide (cb < ca) || (ca == cb && (decide (da < db) || (da == db && decide (a ≤ b))))

/-- Changes the announcement that a handle names. -/
def State.modAnnOf (s : State) (h : Nat) (f : Announcement → Announcement) : State :=
  match (s.resolveAnn h).slot? with
  | some i => s.modAnn i f
  | none => s

/-- Puts an announcement into its channel's queue as QUEUED, with the due time given. -/
def State.enqueue (s : State) (h c due : Nat) : State :=
  let t := s.modAnnOf h fun a => { a with state := .queued, due := some due, nextDue := none, token := none }
  t.modChan c fun ch => { ch with queue := insertBy t.queueBefore h ch.queue }

/-! ## Entries of the output stream (R158) -/

/-- Creates a CUT entry. -/
def State.sendCut (s : State) (c token : Nat) : State :=
  (s.modChan c fun ch => { ch with producer := ch.producer + 1 }).order (.cut c token)

/-- The token after another: it wraps from 255 to 1 (R162). -/
def nextToken (t : Nat) : Nat := if 255 ≤ t then 1 else t + 1

/-- Takes an announcement out of its channel's queue, on-air slot or resume stack; leaving the stack clears
PREEMPT_DEFERRED (R164). -/
def Channel.leave (ch : Channel) (h : Nat) : Channel :=
  { ch with
    queue := ch.queue.filter (· != h)
    onAir := if ch.onAir = some h then none else ch.onAir
    stack := ch.stack.filter (· != h)
    deferred := ch.deferred && !ch.stack.contains h }

/-- Creates a PLAY entry and puts the candidate on air (R162 step 4). -/
def State.play (s : State) (c h : Nat) (zones : ZoneSet) : State :=
  let token := (s.chan c).nextToken
  let phrases := (s.annOf h).elim [] (·.spec.phrases)
  let t := s.modChan c fun ch =>
    { ch.leave h with onAir := some h, producer := ch.producer + 1, nextToken := nextToken token }
  (t.modAnnOf h fun a => { a with state := .onAir, nextDue := none, token := some token }).order
    (.play c token zones phrases)

/-! ## Endings (R151) -/

/-- The run whose auto-delay announcement a handle is, if any. -/
def State.autoDelayRun (s : State) (h : Nat) : Option Nat :=
  (s.liveRuns.find? fun x => x.2.autoDelay == some h).map (·.1)

/-- Clears the auto-delay field of the run whose auto-delay announcement ends; the boards concerned are marked (R151
step 4, R170). -/
def State.clearAutoDelay (s : State) (h : Nat) : State :=
  match s.autoDelayRun h with
  | none => s
  | some i =>
    match s.runAt i with
    | none => s
    | some r => (s.modRun i fun x => { x with autoDelay := none }).markRun i r

/-- The ENDED notice to an owning client (R151 step 5). -/
def State.notifyEnded (s : State) (owner : Owner) (h : Nat) (why : EndReason) : State :=
  match owner with
  | .client c => s.postTo ⟨.ended, h, why.code⟩ c
  | .engine => s

/-- Retires an announcement slot (R149). -/
def State.retireAnn (s : State) (slot : Nat) : State :=
  s.onPiu fun t => { t with slots := mod1 t.slots slot fun x => ⟨nextGen x.gen, none⟩ }

/-- Removes an announcement from the list of its linked incident (R140). -/
def State.unlinkAnn (s : State) (inc : Option Nat) (h : Nat) : State :=
  match inc with
  | some i => s.modIncOf i fun x => { x with anns := x.anns.filter (· != h) }
  | none => s

/-- Ends the announcement in a slot for a reason: R151, steps 1 to 6. A CUT entry goes if it is on air. -/
def State.endAnn (s : State) (slot : Nat) (why : EndReason) : State :=
  match s.annAt slot with
  | none => s
  | some a =>
    let h := s.annHandle slot
    let c := a.channel
    let s₁ := if (s.chan c).onAir = some h then s.sendCut c (a.token.getD 0) else s
    let s₂ := (s₁.modChan c (·.leave h)).unlinkAnn a.linkedInc h
    ((s₂.clearAutoDelay h).notifyEnded a.owner h why).retireAnn slot

/-! ## The end of an occurrence (R165) -/

/-- The repeat interval of a code: (code + 2) × 10 s (R150). -/
def interval (code : Nat) : Nat := (code + 2) * 10

/-- An occurrence is done, or consumed for want of zones: the announcement, already out of its place, rests or ends
COMPLETE (R165 steps 2 and 3). -/
def State.occurrenceDone (s : State) (slot : Nat) : State :=
  match s.annAt slot with
  | none => s
  | some a =>
    let left := if 0 < a.spec.repeatCount then a.remaining - 1 else a.remaining
    let t := s.modAnn slot fun x =>
      { x with remaining := left, token := none, state := .resting, nextDue := some (s.after (interval a.spec.interval)) }
    if a.spec.repeatCount = 0 ∨ 0 < left then t else t.endAnn slot .complete

/-! ## The zone set of an occurrence (R161) -/

/-- The stop that locates a follow-run announcement: the first from the current one on at which the run halts and
which it has not departed. -/
def Run.followStop (r : Run) : Option Stop :=
  (r.stops.drop (r.cur - 1)).find? fun st => st.halts && st.actDep.isNone

/-- The target zones (R161 step 1). -/
def State.targetZones (s : State) : Target → ZoneSet
  | .groups gs => gs.foldl (fun z g => z ||| (get1 s.lds.zoneGroups g).getD 0) 0
  | .followRun h =>
    match (s.runOf h).bind Run.followStop with
    | some st => (s.point st.tp).elim 0 fun p => zoneBit p.zone
    | none => 0

/-- The zones that the block levels remove for a class (R161 step 2). -/
def State.blockedZones (s : State) (cls : Nat) : ZoneSet :=
  (ids 32).foldl (fun z i =>
    if ((get1 s.piu.zones i).getD ⟨.none, .none⟩).effective.removes cls then z ||| zoneBit i else z) 0

/-- The zone set of an announcement's occurrence. -/
def State.zoneSet (s : State) (h : Nat) : ZoneSet :=
  match s.annOf h with
  | some a => s.targetZones a.spec.target &&& ~~~ s.blockedZones a.spec.cls
  | none => 0

/-! ## Going on air (R162 to R164) -/

/-- What one look at a channel's candidate leads to: service stops, looks again, or looks again with channel 0 to be
served afterwards. -/
inductive Look where
  | stop
  | again
  | moved
deriving DecidableEq, Repr

/-- The candidate of an empty on-air slot, and whether it comes from the stack (R162 step 1). -/
def State.candidate (s : State) (c : Nat) : Option (Nat × Bool) :=
  match (s.chan c).stack, (s.chan c).queue with
  | [], [] => none
  | [], q :: _ => some (q, false)
  | t :: _, [] => some (t, true)
  | t :: _, q :: _ => if s.annClass q ≤ s.annClass t then some (t, true) else some (q, false)

/-- Consumes an occurrence with no zones (R162 step 2). -/
def State.consume (s : State) (c h : Nat) : State :=
  let t := s.modChan c (·.leave h)
  match (t.resolveAnn h).slot? with
  | some i => t.occurrenceDone i
  | none => t

/-- Moves a candidate to channel 0 with its due time unchanged (R163). -/
def State.redirect (s : State) (c h : Nat) : State :=
  let due := ((s.annOf h).bind (·.due)).getD 0
  ((s.modChan c (·.leave h)).modAnnOf h fun a => { a with channel := 0 }).enqueue h 0 due

/-- The full-window policy for a candidate (R163). -/
def State.fullWindow (s : State) (c h : Nat) (fromStack : Bool) : State × Look :=
  let cls := s.annClass h
  if fromStack ∨ cls = 7 then (s, .stop)
  else match (s.chan c).policy with
    | .wait => (s, .stop)
    | .redirect =>
      if cls = 0 ∨ c = 0 ∨ (s.chan 0).state ≠ .ready then (s, .stop) else (s.redirect c h, .moved)
    | .drop =>
      match (s.resolveAnn h).slot? with
      | some i => (s.endAnn i .dropped, .again)
      | none => (s, .stop)

/-- One pass over the steps of R162 with an empty on-air slot. -/
def State.lookEmpty (s : State) (c : Nat) : State × Look :=
  match s.candidate c with
  | none => (s, .stop)
  | some (h, fromStack) =>
    let zones := s.zoneSet h
    if zones = 0 then (s.consume c h, .again)
    else if 16 ≤ (s.chan c).occupancy then s.fullWindow c h fromStack
    else (s.play c h zones, .stop)

/-- Preempts the on-air announcement: CUT, then the push on the stack, then the preemptor goes on air (R164). -/
def State.preempt (s : State) (c h old : Nat) (zones : ZoneSet) : State :=
  let s₁ := s.sendCut c (((s.annOf old).bind (·.token)).getD 0)
  let s₂ := s₁.modChan c fun ch => { ch with onAir := none, stack := old :: ch.stack }
  (s₂.modAnnOf old fun a => { a with state := .suspended, token := none }).play c h zones

/-- One pass over the preemption check of R164, with `old` on air. -/
def State.lookBusy (s : State) (c old : Nat) : State × Look :=
  match (s.chan c).queue with
  | [] => (s, .stop)
  | h :: _ =>
    if s.annClass h < 4 ∨ s.annClass h ≤ s.annClass old then (s, .stop)
    else if 4 ≤ (s.chan c).stack.length then (s.modChan c fun ch => { ch with deferred := true }, .stop)
    else
      let zones := s.zoneSet h
      if zones = 0 then (s.consume c h, .again)
      else if 14 < (s.chan c).occupancy then (s, .stop)
      else (s.preempt c h old zones, .stop)

/-- One pass of service. -/
def State.lookChannel (s : State) (c : Nat) : State × Look :=
  match (s.chan c).onAir with
  | none => s.lookEmpty c
  | some old => s.lookBusy c old

/-- Repeats service until it stops; every pass that goes on takes an entry out of the queue or the stack, so the fuel
is their length. The answer says whether a candidate was moved to channel 0. -/
def State.serveLoop (c : Nat) : Nat → State → Bool → State × Bool
  | 0, s, moved => (s, moved)
  | n + 1, s, moved =>
    match s.lookChannel c with
    | (t, .stop) => (t, moved)
    | (t, .again) => State.serveLoop c n t moved
    | (t, .moved) => State.serveLoop c n t true

/-- Serves one channel, if it is READY (R162). -/
def State.serveOne (s : State) (c : Nat) : State × Bool :=
  if (s.chan c).state = .ready then
    State.serveLoop c ((s.chan c).queue.length + (s.chan c).stack.length + 1) s false
  else (s, false)

/-- Serves a channel, and then channel 0 where a candidate was moved to it (R163). -/
def State.serveChannel (s : State) (c : Nat) : State :=
  match s.serveOne c with
  | (t, true) => (t.serveOne 0).1
  | (t, false) => t

/-- A HALTING channel whose on-air slot and window are empty becomes DISABLED (R156). -/
def State.haltChannel (s : State) (c : Nat) : State :=
  let ch := s.chan c
  if ch.state = .halting ∧ ch.onAir = none ∧ ch.occupancy = 0 then s.modChan c fun x => { x with state := .disabled }
  else s

/-- Serves a channel, or completes its halt (R156, R165 step 4). -/
def State.serveOrHalt (s : State) (c : Nat) : State := (s.serveChannel c).haltChannel c

/-- Ends an announcement and serves its channel if its place on air or in the stack became free (R151 step 7), and in
any case if the channel is one of those listed (R168). -/
def State.endServing (s : State) (always : List Nat) (slot : Nat) (why : EndReason) : State :=
  match s.annAt slot with
  | none => s
  | some a =>
    let h := s.annHandle slot
    let ch := s.chan a.channel
    let t := s.endAnn slot why
    if ch.onAir = some h ∨ ch.stack.contains h ∨ always.contains a.channel then t.serveOrHalt a.channel else t

/-- Ends one announcement by itself (R151). -/
def State.endAndServe (s : State) (slot : Nat) (why : EndReason) : State := s.endServing [] slot why

/-! ## Withdrawals (R168) -/

/-- Withdraws the announcement that a handle names, if it is live; the channels listed are served in any case. -/
def State.withdrawServing (always : List Nat) (s : State) (h : Nat) : State :=
  match (s.resolveAnn h).slot? with
  | some i => s.endServing always i .withdrawn
  | none => s

/-- Withdraws the one announcement that a handle names (R98, R168). -/
def State.withdraw (s : State) (h : Nat) : State := s.withdrawServing [] h

/-- The channels of which more than one announcement of a list is live: theirs end together (R168). -/
def State.sharedChannels (s : State) (hs : List Nat) : List Nat :=
  (List.range 4).filter fun c => decide (1 < (hs.filter fun h => (s.annOf h).any fun a => a.channel == c).length)

/-- Withdraws announcements in ascending handle order. A channel of which several end together is served after each of
them (R168), any other where a place became free (R151 step 7; log 29). -/
def State.withdrawAll (s : State) (hs : List Nat) : State :=
  (sortBy (fun a b => decide (a ≤ b)) hs).foldl (State.withdrawServing (s.sharedChannels hs)) s

/-- Whether an announcement names a run, as linked run or follow-run target. -/
def Announcement.names (a : Announcement) (h : Nat) : Bool := a.linkedRun == some h || a.spec.target == .followRun h

/-- The handles of the live announcements that name a run. -/
def State.announcementsOf (s : State) (h : Nat) : List Nat :=
  (s.liveAnns.filter fun x => x.2.names h).map fun x => s.annHandle x.1

/-- The end of a run (R34): its announcements are withdrawn and its boards marked (R168, R170). -/
def State.endRun (s : State) (slot : Nat) : State :=
  match s.runAt slot with
  | none => s
  | some r => (s.withdrawAll (s.announcementsOf (s.runHandle slot))).markRun slot r

/-! ## Posting (R152, R153) -/

/-- Whether a specification's times pass the OUT_OF_RANGE row of R152: the expiry lies after now and after a start. -/
def State.timesInRange (s : State) (x : AnnSpec) : Bool :=
  match x.expiry with
  | none => true
  | some e => decide (s.now < e) && x.start.all fun b => decide (b < e)

/-- The runs that a post names. DESIGN CHOICE: the follow-run target comes before the linked run, so that its code and
handle are answered where both are refused in one row of R152 (log 52). -/
def postedRuns (x : AnnSpec) (linked : Option Nat) : List Nat :=
  (match x.target with
    | .followRun h => [h]
    | .groups _ => []) ++ linked.toList

/-- The refusal that a run handle's resolution gives (R31), none where it resolves to a live run. -/
def Resolved.refusal : Resolved → Option AnswerCode
  | .zero => some .noEffect
  | .notFound => some .notFound
  | .stale => some .stale
  | .live _ => none

/-- The first handle of a list that does not resolve to a live run, with its refusal. DESIGN CHOICE: where several
handles of one request do not resolve, the first is answered; the list of a raise is in body order (R130, log 59), that
of a post as `postedRuns` gives it (R152, log 52). -/
def State.unresolvedRun (s : State) (hs : List Nat) : Option (AnswerCode × Nat) :=
  hs.findSome? fun h => (s.resolveRun h).refusal.map fun c => (c, h)

/-- The first handle whose run is TERMINATED or CANCELLED (R152), in the order of `postedRuns` (log 52). -/
def State.endedRun (s : State) (hs : List Nat) : Option Nat :=
  hs.find? fun h => (s.runOf h).any fun r => r.state == .terminated || r.state == .cancelled

/-- The lowest free announcement slot. -/
def State.freeAnn (s : State) : Option Nat :=
  (ids 96).find? fun i => (get1 s.piu.slots i).any fun x => x.ann.isNone

/-- The refusal of a post, after the SETUP check: R152's rows in order. -/
def State.postRefusal (s : State) (x : AnnSpec) (linked : Option Nat) : Option (AnswerCode × Option Nat) :=
  if !s.timesInRange x then some (.outOfRange, none)
  else match s.unresolvedRun (postedRuns x linked) with
    | some (c, h) => some (c, some h)
    | none =>
      match s.endedRun (postedRuns x linked) with
      | some h => some (.badState, some h)
      | none => if s.freeAnn.isNone then some (.full, none) else none

/-- Creates an announcement in the lowest free slot; a start in the future leaves it SCHEDULED, otherwise it joins its
channel's queue (R153). The channel is served by `startAnn`, after the caller has written its link. DESIGN CHOICE: an
announcement that has never become due has no due time (log 44). -/
def State.createAnn (s : State) (x : AnnSpec) (owner : Owner) (inc run : Option Nat) : State × Option Nat :=
  match s.freeAnn with
  | none => (s, none)
  | some i =>
    let h := s.annHandle i
    let c := (get0 s.piu.classMap x.cls).getD 0
    let later := x.start.any fun b => decide (s.now < b)
    let a : Announcement :=
      ⟨x, c, owner, inc, run, .scheduled, x.repeatCount, none, x.start, x.expiry, none⟩
    let t := s.onPiu fun p => { p with slots := mod1 p.slots i fun y => { y with ann := some a } }
    (if later then t else t.enqueue h c s.now, some h)

/-- Serves the channel of an announcement that has just been created QUEUED (R153). -/
def State.startAnn (s : State) (h : Nat) : State :=
  match s.annOf h with
  | some a => if a.state = .queued then s.serveChannel a.channel else s
  | none => s

/-! ## Delay announcements (R97, R98) -/

/-- The specification of a run's auto-delay announcement (R97). -/
def State.delaySpec (s : State) (h : Nat) : AnnSpec :=
  ⟨s.lds.params.template.getD [], 2, .followRun h, 0, 10, none, none⟩

/-- Posts a run's auto-delay announcement; a refusal leaves the field absent (R97). -/
def State.postDelay (s : State) (slot : Nat) (r : Run) : State :=
  let h := s.runHandle slot
  match s.postRefusal (s.delaySpec h) (some h) with
  | some _ => s
  | none =>
    match s.createAnn (s.delaySpec h) .engine none (some h) with
    | (t, some a) => ((t.modRun slot fun x => { x with autoDelay := some a }).markRun slot r).startAnn a
    | (t, none) => t

/-- The auto-delay comparison with a computed lateness (R97, R98). -/
def State.compareDelay (s : State) (slot : Nat) (late : Int) : State :=
  match s.runAt slot with
  | none => s
  | some r =>
    match r.autoDelay with
    | none => if (s.lds.params.delay : Int) ≤ late then s.postDelay slot r else s
    | some a => if late < ((s.lds.params.delay / 2 : Nat) : Int) then s.withdraw a else s

end Sys2Proof.Machine
end

