-- ==== Sys2Proof/Machine/Release.lean ====
section
/-! DEFINITION. The shared work of the Departure Regulator and the Traction Power Controller: claims and wait queues
(R105 to R112), the merge arbiters (R95, R96), gates (R82), releases (R83), rechecks (R84, R85), and the computation of
release times (R76 to R80). -/

namespace Sys2Proof.Machine

/-! ## Claims (R105, R109) -/

/-- Records a live claim: U rises by its cost, and the run's claim-present field becomes yes (R105). -/
def State.recordClaim (s : State) (slot sub sec cost : Nat) : State :=
  ((s.putClaim slot (some ⟨sub, sec, cost, s.now, none⟩)).modSub sub fun x => { x with inUse := x.inUse + cost }).modRun
    slot fun r => { r with claimPresent := true }

/-- Returns a live claim: steps 1 to 3 of R109; an empty entry changes nothing. Step 4, the service of the
substation's queue, is made at the end of the event (`State.serveLeft`, log 20). -/
def State.returnClaim (s : State) (slot : Nat) : State :=
  match s.claim slot with
  | none => s
  | some c =>
    ((s.modSub c.sub fun x => { x with inUse := x.inUse - c.cost }).putClaim slot none).modRun slot fun r =>
      { r with claimPresent := false }

/-! ## The merge arbiter (R95, R96) -/

/-- Whether a merge is free: no last grant, or H_j has passed since it (R95). -/
def State.mergeFree (s : State) (m : Nat) : Bool :=
  match (s.arbiter m).lastGrant with
  | none => true
  | some t => decide (t + (s.mergeDef m).elim 0 (·.hJ) ≤ s.now)

/-- Whether a merge order list has room for a grant (R56). -/
def State.mergeRoom (s : State) (m : Nat) : Bool := decide ((s.mergeList m).length < Config.queueBound)

/-- Whether a run's span has a given merge. -/
def State.spanHas (s : State) (r : Run) (m : Nat) : Bool := (s.spanMerge r).any fun x => x.1 == m

/-- The contenders of a merge: the slots of the HELD runs whose span has it and whose cause set is {MERGE} (R95). -/
def State.contenders (s : State) (m : Nat) : List Nat :=
  s.runSlots fun r => r.state == .held && r.causes == Causes.onlyMerge && s.spanHas r m

/-- A run's scheduled arrival at a merge's timing point. -/
def State.mergeArrival (s : State) (m slot : Nat) : Nat :=
  let p := (s.mergeDef m).elim 0 (·.tp)
  ((s.runAt slot).bind fun r => ((r.indexAt p).bind r.stopAt).bind (·.schedArr)).getD 0

/-- Whether a run's span enters a merge by the main feed. -/
def State.byMainFeed (s : State) (m slot : Nat) : Bool :=
  ((s.runAt slot).bind s.spanMerge).any fun x => (s.mergeDef m).any fun d => x.2 == d.main

/-- Precedence between two runs at a merge (R96): earlier scheduled arrival, then main feed, then lower slot. -/
def State.precedes (s : State) (m a b : Nat) : Bool :=
  let ta := s.mergeArrival m a
  let tb := s.mergeArrival m b
  let fa := s.byMainFeed m a
  let fb := s.byMainFeed m b
  decide (ta < tb) || (ta == tb && ((fa && !fb) || (fa == fb && decide (a ≤ b))))

/-- The run with precedence among several. -/
def State.first (s : State) (m : Nat) (slots : List Nat) : Option Nat :=
  (sortBy (s.precedes m) slots).head?

/-- Names a priority holder and rechecks its cause MERGE, which is open unless the list is full (R84, R96). DESIGN
CHOICE: at a full list the holder keeps the set {MERGE} without a retry, also once the list has room again (log 56). -/
def State.nameHolder (s : State) (m slot : Nat) : State :=
  let t := s.modArbiter m fun a => { a with holder := some (s.runHandle slot) }
  if s.mergeRoom m then t.modRun slot fun r => { r with causes := { r.causes with merge := false } } else t

/-- The choice made without an evaluation: with the merge free, no holder and contenders, the contender with
precedence becomes the holder (R96). -/
def State.chooseHolder (s : State) (m : Nat) : State :=
  if s.mergeFree m ∧ (s.arbiter m).holder = none then
    match s.first m (s.contenders m) with
    | some w => s.nameHolder m w
    | none => s
  else s

/-- A run stops being the holder of a merge, if it is; with the merge free another choice is made (R95, R96). -/
def State.loseHolderAt (s : State) (h m : Nat) : State :=
  if (s.arbiter m).holder = some h then
    (s.modArbiter m fun a => { a with holder := none }).chooseHolder m
  else s

/-- A run stops being the holder of any merge. -/
def State.loseHolder (s : State) (h : Nat) : State := (ids 2).foldl (fun t m => t.loseHolderAt h m) s

/-- A run whose cause set has become exactly {MERGE} may be chosen at once (R96). -/
def State.settleMerge (s : State) (slot : Nat) : State :=
  match s.runAt slot with
  | some r =>
    if r.state = .held ∧ r.causes = Causes.onlyMerge then
      match s.spanMerge r with
      | some (m, _) => s.chooseHolder m
      | none => s
    else s
  | none => s

/-- The MERGE gate of a run, and the arbiter after the evaluation; `others` says that another gate is closed (R96). -/
def State.evalMerge (s : State) (slot : Nat) (r : Run) (others : Bool) : State × Bool :=
  match s.spanMerge r with
  | none => (s, false)
  | some (m, _) =>
    if !s.mergeFree m then (s, true)
    else match (s.arbiter m).holder with
      | some h => (s, decide (h ≠ s.runHandle slot) || !s.mergeRoom m)
      | none =>
        if !s.mergeRoom m then (s, true)
        else if others then (s, false)
        else match s.first m (slot :: (s.contenders m).filter (· != slot)) with
          | none => (s, false)
          | some w =>
            if w = slot then (s.modArbiter m fun a => { a with holder := some (s.runHandle slot) }, false)
            else (s.nameHolder m w, true)

/-! ## Gates (R82) -/

/-- The closed causes among RESTRICTION, SECTION, CAPACITY, DISPATCHER and MANUAL. -/
def State.plainGates (s : State) (slot : Nat) (r : Run) : Causes :=
  { Causes.none with
    restriction := s.restrictionClosed r
    section_ := s.sectionClosed r
    capacity := s.capacityClosed r
    dispatcher := (s.reg slot).dispatcherHold
    manual := s.drg.mode != .automatic }

/-- Every gate but POWER, with the arbiter as the evaluation leaves it. -/
def State.gates (s : State) (slot : Nat) (r : Run) : State × Causes :=
  let plain := s.plainGates slot r
  let x := s.evalMerge slot r (!plain.isEmpty)
  (x.1, { plain with merge := x.2 })

/-! ## The release (R83) -/

/-- Records the merge grant of a release: the order list, the arbiter and the regulation record (R56, R83, R95). A span
without a merge records nothing, so an earlier grant stands until the run reaches its merge (R87). A full list refuses
the append, and then nothing is recorded; a run that the list still holds keeps its place (log 23). -/
def State.recordGrant (s : State) (slot : Nat) (r : Run) : State :=
  let h := s.runHandle slot
  match s.spanMerge r with
  | none => s
  | some (m, _) =>
    if (s.mergeList m).contains h ∨ s.mergeRoom m then
      let t := s.modMergeList m fun l => if l.contains h then l else l ++ [h]
      (t.modArbiter m fun _ => ⟨some s.now, some (s.after ((s.mergeDef m).elim 0 (·.hJ))), none⟩).modReg slot fun x =>
        { x with grantedMerge := some m }
    else s

/-- Completes a release from step 2 of R83 on, at the present clock value. -/
def State.completeRelease (s : State) (slot : Nat) : State :=
  match s.runAt slot with
  | none => s
  | some r =>
    let seg := s.firstSegment r
    let p := r.tpAt r.cur
    let s₁ := (s.recordGrant slot r).order (.release r.number p seg)
    let s₂ := s₁.modTp p fun x => { x with lr := some s.now }
    let s₃ := s₂.modRun slot fun x => { x with state := .released, causes := Causes.none }
    let s₄ := s₃.modReg slot fun x =>
      { x with
        releaseTimer := none
        departureTimer := some (s.after s.lds.params.tDep)
        dispatcherHold := false
        releaseSegment := some seg }
    s₄.onDrg fun d => { d with releasedCount := d.releasedCount + 1 }

/-- The released count falls by one; at 0 a halt completes (R75, R94). -/
def State.lowerReleased (s : State) : State :=
  let t := s.onDrg fun d => { d with releasedCount := d.releasedCount - 1 }
  if t.drg.releasedCount = 0 ∧ t.drg.mode = .halting then
    (t.onDrg fun d => { d with mode := .manual }).postWhere ⟨.halted, 0, 0⟩ fun c =>
      c.role == .dispatch || c.role == .supervisor
  else t

/-! ## Wait queues (R106, R111, R112) -/

/-- The order of a wait queue: computed release, then joining order (R111). -/
def WaitEntry.before (a b : WaitEntry) : Bool :=
  decide (a.tRel < b.tRel) || (a.tRel == b.tRel && decide (a.seq ≤ b.seq))

/-- Grants the head of a wait queue: it leaves the queue, its claim is recorded and its release completed (R112). -/
def State.grantHead (s : State) (sub : Nat) (e : WaitEntry) : State :=
  let t := s.modSub sub fun x => { x with queue := x.queue.drop 1 }
  match (t.resolveRun e.run).slot? with
  | some i => (t.recordClaim i sub e.sec e.cost).completeRelease i
  | none => t

/-- Serves a wait queue head first, for at most `n` grants (R112). -/
def State.serveQueue (sub : Nat) : Nat → State → State
  | 0, s => s
  | n + 1, s =>
    match (s.sub sub).bind (·.queue.head?) with
    | none => s
    | some e => if e.cost ≤ s.available sub then State.serveQueue sub n (s.grantHead sub e) else s

/-- Serves a substation's wait queue (R112). -/
def State.serveSub (s : State) (sub : Nat) : State :=
  State.serveQueue sub ((s.sub sub).elim 0 (·.queue.length)) s

/-- Takes a run out of every wait queue. -/
def State.leaveQueues (s : State) (h : Nat) : State :=
  (ids 8).foldl (fun t i => t.modSub i fun x => { x with queue := x.queue.filter fun e => e.run != h }) s

/-- The wait queue of a substation and its credits in use: what tells that its queue is due for service. -/
def State.waiting (s : State) (i : Nat) : Option (List WaitEntry × Nat) := (s.sub i).map fun x => (x.queue, x.inUse)

/-- The service that ends an event which began in `s`: every substation whose wait queue has lost an entry or whose
credits have come back is served, once, in ascending order, every removal of the event having been made (R109 step 4,
R112, log 20, 36). -/
def State.serveLeft (t s : State) : State :=
  (ids 8).foldl (fun u i => if s.waiting i = t.waiting i then u else u.serveSub i) t

/-- A request's settlement, followed by the service that ends its event (R112). -/
def thenServe (s : State) (x : Reply × State) : Reply × State := (x.1, x.2.serveLeft s)

/-- The start cost of a run (R8). -/
def State.startCost (s : State) (r : Run) : Nat := (look s.lds.classes r.cls).elim 0 (·.cost)

/-- Asks for power for a run whose other gates are open: it stands in the feeder's wait queue with {POWER}, and the
queue is served (R106). -/
def State.askPower (s : State) (slot : Nat) (r : Run) : State :=
  let sec := s.drawSection r
  let sub := s.drawing sec
  let e : WaitEntry :=
    ⟨s.runHandle slot, sec, s.startCost r, (r.curStop.bind (·.release)).getD s.now, s.tpc.joinSeq⟩
  let t := s.modRun slot fun x => { x with state := .held, causes := Causes.onlyPower }
  let t := t.modReg slot fun x => { x with releaseTimer := none }
  let t := t.modSub sub fun x => { x with queue := insertBy WaitEntry.before e x.queue }
  (t.onTpc fun p => { p with joinSeq := p.joinSeq + 1 }).serveSub sub

/-! ## The release event, the retry and the recheck (R81, R84, R85) -/

/-- Holds a run for the closed causes of an evaluation (R82); it stops being a priority holder (R95). -/
def State.holdFor (s : State) (slot : Nat) (g : Causes) : State :=
  let t := s.modRun slot fun x => { x with state := .held, causes := g }
  ((t.modReg slot fun x => { x with releaseTimer := none }).loseHolder (s.runHandle slot)).settleMerge slot

/-- The evaluation that a release event or a retry makes (R81, R82). -/
def State.attempt (s : State) (slot : Nat) : State :=
  match s.runAt slot with
  | none => s
  | some r =>
    let x := s.gates slot r
    if x.2.isEmpty then x.1.askPower slot r else x.1.holdFor slot x.2

/-- What stays of a cause set when the causes of a mask are checked again and some are still closed. -/
def Causes.keep (c mask closed : Causes) : Causes where
  restriction := c.restriction && (!mask.restriction || closed.restriction)
  section_ := c.section_ && (!mask.section_ || closed.section_)
  capacity := c.capacity && (!mask.capacity || closed.capacity)
  merge := c.merge && (!mask.merge || closed.merge)
  power := c.power && (!mask.power || closed.power)
  dispatcher := c.dispatcher && (!mask.dispatcher || closed.dispatcher)
  manual := c.manual && (!mask.manual || closed.manual)
  departureFailed := c.departureFailed && (!mask.departureFailed || closed.departureFailed)

/-- Evaluates the gates of a run that waits for credits: with one closed it leaves the wait queue and its causes are
entered in place of POWER (R85). -/
def State.recheckWaiting (s : State) (slot : Nat) (r : Run) : State :=
  let x := s.gates slot r
  if x.2.isEmpty then x.1 else (x.1.leaveQueues (s.runHandle slot)).holdFor slot x.2

/-- Checks the causes of a mask again for one HELD run (R84); POWER and DEPARTURE_FAILED are in no mask. DESIGN CHOICE:
where one event evaluates MERGE for several runs, each run's evaluation is made in its turn, ascending by slot, and may
name a holder before the sets of later runs change (log 53). -/
def State.recheckRun (mask : Causes) (s : State) (slot : Nat) : State :=
  match s.runAt slot with
  | none => s
  | some r =>
    if r.state ≠ .held then s
    else if r.causes = Causes.onlyPower then s.recheckWaiting slot r
    else
      let plain := s.plainGates slot r
      let x := if mask.merge && r.causes.merge then s.evalMerge slot r (!plain.isEmpty) else (s, false)
      let new := r.causes.keep mask { plain with merge := x.2 }
      if new = r.causes then x.1
      else x.1.modRun slot fun y => { y with causes := new }

/-- The choices that follow an event in which the cause sets of several runs have become exactly {MERGE}: the sets that
it leaves compete together, so that precedence decides (R96, log 21). -/
def State.settleMerges (t s : State) (slots : List Nat) : State :=
  slots.foldl (fun u i => if (s.runAt i).any fun r => r.causes == Causes.onlyMerge then u else u.settleMerge i) t

/-- Checks the causes of a mask again for several runs; afterwards the merges choose. -/
def State.recheck (s : State) (mask : Causes) (slots : List Nat) : State :=
  (slots.foldl (State.recheckRun mask) s).settleMerges s slots

/-- The HELD runs that satisfy a test, ascending. -/
def State.heldRuns (s : State) (p : Run → Bool) : List Nat := s.runSlots fun r => r.state == .held && p r

/-- The hold counts of several segments have changed together (R84, RESTRICTION). -/
def State.recheckRestriction (s : State) (segs : List Nat) : State :=
  s.recheck { Causes.none with restriction := true } (s.heldRuns fun r => (s.span r).any segs.contains)

/-- A section's state has changed (R84, SECTION; R114). -/
def State.recheckSection (s : State) (sec : Nat) : State :=
  s.recheck { Causes.none with section_ := true }
    (s.heldRuns fun r => (s.span r).any fun i => (s.segment i).any fun g => g.sec == sec)

/-- A run has entered or left a segment's queue (R84, CAPACITY). -/
def State.recheckCapacity (s : State) (seg : Nat) : State :=
  s.recheck { Causes.none with capacity := true } (s.heldRuns fun r => s.firstSegment r == seg)

/-- The causes rechecked when a run's span may have changed: all but POWER and DEPARTURE_FAILED (R84). -/
def Causes.spanMask : Causes := ⟨true, true, true, true, false, true, true, false⟩

/-- A holder whose span no longer has the merge stops being the holder (R95). -/
def State.dropSpanlessHolder (s : State) (m : Nat) : State :=
  match (s.arbiter m).holder with
  | some h => if (s.runOf h).any fun r => s.spanHas r m then s else s.loseHolderAt h m
  | none => s

/-- The skipped marks of runs have changed (R84, R138). DESIGN CHOICE: a holder whose span has lost the merge is dropped
after the rechecks of all runs, so that a run rechecked in the event still finds the merge held (log 53). -/
def State.spansChanged (s : State) (slots : List Nat) : State :=
  (ids 2).foldl State.dropSpanlessHolder (s.recheck Causes.spanMask (slots.filter fun i =>
    (s.runAt i).any fun r => r.state == .held))

/-! ## The computation of a release time (R76, R77) -/

/-- The inputs of the computation (R76). -/
structure ReleaseInputs where
  a      : Int
  sdep   : Int
  dMin   : Int
  hMin   : Int
  hMax   : Int
  target : Int
  w      : Int
  ld     : Option Int
  lr     : Option Int
  af     : Option Int
deriving DecidableEq, Repr

/-- Stage 1: the earliest departure. -/
def ReleaseInputs.earliest (i : ReleaseInputs) : Int := i.a + i.dMin

/-- Stage 2: the timetable target. -/
def ReleaseInputs.timetable (i : ReleaseInputs) : Int := max i.earliest i.sdep

/-- Stage 3: the headway target. -/
def ReleaseInputs.headway (i : ReleaseInputs) : Int :=
  match i.ld, i.af with
  | none, _ => i.timetable
  | some ld, some af => ld + max (af + i.dMin - ld) 0 / 2
  | some ld, none => ld + i.target

/-- Stage 4: the blend, its quotient truncated toward zero. -/
def ReleaseInputs.blend (i : ReleaseInputs) : Int :=
  i.timetable + (i.w * (i.headway - i.timetable)).tdiv 8

/-- Stages 5 and 6: the dwell floor and the hold cap. -/
def ReleaseInputs.capped (i : ReleaseInputs) : Int := min (max i.blend i.earliest) (i.timetable + i.hMax)

/-- Stage 7: the separation floor. -/
def ReleaseInputs.separated (i : ReleaseInputs) : Int :=
  match i.lr with
  | some lr => max i.capped (lr + i.hMin)
  | none => i.capped

/-- The upper limit of stage 8. -/
def ReleaseInputs.limited (i : ReleaseInputs) : Int := min i.separated Config.dayEnd

/-- All eight stages, at a clock value (R77). -/
def ReleaseInputs.releaseTime (i : ReleaseInputs) (now : Nat) : Nat := (max i.limited (now : Int)).toNat

/-- Whether a release time is computed for a run's current stop: of kind STOP, not skipped, not the last (R76). -/
def Run.computable (r : Run) : Bool := (r.curStop.any Stop.halts) && decide (r.cur < r.count)

/-- The inputs for a run's current stop, from the state as it stands (R76). -/
def State.releaseInputs (s : State) (r : Run) : ReleaseInputs :=
  let st := r.curStop
  let p := r.tpAt r.cur
  let a := (st.bind (·.actArr)).getD s.now
  let pt := s.point p
  { a := a
    sdep := ((st.bind (·.schedDep)).getD 0 : Nat)
    dMin := (pt.elim 0 (·.dMin) : Nat)
    hMin := (pt.elim 0 (·.hMin) : Nat)
    hMax := (pt.elim 0 (·.hMax) : Nat)
    target := (s.lds.bands.elim 0 fun b => b.target a : Nat)
    w := s.lds.params.w
    ld := (s.tp p).ld.map fun t => (t : Int)
    lr := (s.tp p).lr.map fun t => (t : Int)
    af := (s.followerArrival p).map fun t => (t : Int) }

/-- The scheduled departure of a run's current stop. -/
def Run.curDep (r : Run) : Nat := (r.curStop.bind (·.schedDep)).getD 0

/-- Writes a run's computed release and lateness. -/
def Run.withRelease (r : Run) (t : Nat) : Run :=
  { r.modStop r.cur (fun st => { st with release := some t }) with lateness := some (Machine.lateness t r.curDep) }

/-- Applies a release time to a DWELLING run and hands it on (R78). -/
def State.applyRelease (s : State) (slot : Nat) (r : Run) (t : Nat) : State :=
  let s₁ := s.modRun slot fun x => x.withRelease t
  let s₂ := s₁.modReg slot fun x => { x with releaseTimer := some t }
  (s₂.markBoard r.nextTp).compareDelay slot (lateness t r.curDep)

/-- Computes and applies the release time of a run that has just become DWELLING (R76, R78). -/
def State.computeRelease (s : State) (slot : Nat) : State :=
  match s.runAt slot with
  | some r =>
    if r.computable then s.applyRelease slot r ((s.releaseInputs r).releaseTime s.now) else s
  | none => s

/-- A HELD run returns to DWELLING to wait for a later release time (R80). -/
def State.returnToDwelling (s : State) (slot : Nat) (r : Run) (t : Nat) : State :=
  let h := s.runHandle slot
  let s₁ := (s.modRun slot fun x => { x with state := .dwelling, causes := Causes.none }).leaveQueues h
  (s₁.loseHolder h).applyRelease slot r t

/-- Repeats the computation for one DWELLING or HELD run (R79, R80). -/
def State.recomputeRun (s : State) (slot : Nat) : State :=
  match s.runAt slot with
  | none => s
  | some r =>
    if !r.computable || r.causes.departureFailed then s
    else match r.state with
      | .dwelling => s.applyRelease slot r ((s.releaseInputs r).releaseTime s.now)
      | .held =>
        if (s.releaseInputs r).limited ≤ (s.now : Int) then s
        else s.returnToDwelling slot r (s.releaseInputs r).limited.toNat
      | _ => s

/-- Repeats the computation for several runs (R79). DESIGN CHOICE: one after the other in the order listed, which is
ascending by slot (log 50). -/
def State.recompute (s : State) (slots : List Nat) : State := slots.foldl State.recomputeRun s

/-- Repeats the computation for every DWELLING and HELD run (R79), ascending by slot (log 50). -/
def State.recomputeAll (s : State) : State := s.recompute (s.runSlots Run.waitsAtStop)

/-- A follower change at a timing point: the run there is recomputed, and the board re-evaluated (R55, R79, R170). -/
def State.followerChange (s : State) (p : Nat) : State :=
  (s.recompute (s.runSlots fun r => r.waitsAtStop && r.tpAt r.cur == p)).markBoard p

/-- A segment's queue has changed its membership (R55, R84). -/
def State.queueChanged (s : State) (seg : Nat) : State :=
  (s.recheckCapacity seg).followerChange ((s.segment seg).elim 0 (·.toTp))

/-- The line STALE mark has changed (R71): a follower change at every timing point, and every board. -/
def State.staleChanged (s : State) (e : LineEvent) : State :=
  ((s.postLineEvent e).recomputeAll).markAllBoards

end Sys2Proof.Machine
end

