-- ==== Sys2Proof/Machine/Placement.lean ====
section
/-! DEFINITION. The shared work of the Run Table: the horizon watch (R49, R50), placement (R37 to R40), occupancy (R57)
and punctuality (R52). -/

namespace Sys2Proof.Machine

/-! ## The horizon watch (R49, R50) -/

/-- The number of PLANNED runs whose first scheduled departure lies in now..now+Hplan (R49). -/
def State.horizon (s : State) : Nat :=
  (s.runSlots fun r => r.state == .planned &&
    (((r.stopAt 1).bind (·.schedDep)).any fun d =>
      decide (s.now ≤ d) && decide (d ≤ s.after s.lds.params.hPlan))).length

/-- Evaluates the horizon count and posts TIMETABLE_LOW when it falls below LWM while armed (R50). -/
def State.evalHorizon (s : State) : State :=
  if s.inService then
    let n := s.horizon
    if n < s.lds.params.lwm then
      if s.rtb.armed then
        (s.onRtb fun x => { x with horizonCount := n, armed := false }).postWhere ⟨.timetableLow, 0, n⟩ fun c =>
          c.role == .dispatch
      else s.onRtb fun x => { x with horizonCount := n }
    else s.onRtb fun x => { x with horizonCount := n, armed := true }
  else s

/-! ## Placement (R37 to R40) -/

/-- The placement time of a run: its first scheduled departure minus D_min, at least 0 (R37). -/
def State.placementTime (s : State) (r : Run) : Nat :=
  ((r.stopAt 1).bind (·.schedDep)).getD 0 - (s.point (r.tpAt 1)).elim 0 (·.dMin)

/-- A run leaves PLANNED: its placement timer is stopped and it waits no longer (R37, R40). -/
def Run.leavePlanned (r : Run) : Run := { r with placeTimer := none, placeWaiting := false }

/-- A run becomes DWELLING at its stop `k` with the present time as actual arrival. -/
def Run.arriveAt (r : Run) (k now : Nat) : Run :=
  { r.modStop k (fun st => { st with actArr := some now }) with state := .dwelling, cur := k }

/-- Makes a run the occupant of a timing point (R57). -/
def State.occupy (s : State) (p h : Nat) : State := s.modTp p fun x => { x with occupant := some h }

/-- Places a run at its first stop: an arrival there (R38). -/
def State.placeRun (s : State) (slot : Nat) : State :=
  match s.runAt slot with
  | none => s
  | some r =>
    (((s.modRun slot fun x => x.leavePlanned.arriveAt 1 s.now).occupy (r.tpAt 1) (s.runHandle slot)).computeRelease
      slot).evalHorizon

/-- Whether one waiting run is placed before another: earlier placement time, then earlier first departure, then lower
slot (R39). -/
def State.placedBefore (s : State) (a b : Nat) : Bool :=
  let pa := (s.runAt a).elim 0 s.placementTime
  let pb := (s.runAt b).elim 0 s.placementTime
  let da := ((s.runAt a).bind fun r => (r.stopAt 1).bind (·.schedDep)).getD 0
  let db := ((s.runAt b).bind fun r => (r.stopAt 1).bind (·.schedDep)).getD 0
  decide (pa < pb) || (pa == pb && (decide (da < db) || (da == db && decide (a ≤ b))))

/-- The waiting run to be placed at a timing point, if any waits there (R39). -/
def State.waitingAt (s : State) (p : Nat) : Option Nat :=
  (sortBy s.placedBefore (s.runSlots fun r => r.state == .planned && r.placeWaiting && r.tpAt 1 == p)).head?

/-- Clears the occupant of a timing point and places a waiting run there (R39, R57). -/
def State.clearOccupant (s : State) (p : Nat) : State :=
  let t := s.modTp p fun x => { x with occupant := none }
  match t.waitingAt p with
  | some i => t.placeRun i
  | none => t

/-- Clears a timing point's occupant if it is the run named. -/
def State.vacate (s : State) (p h : Nat) : State :=
  if (s.tp p).occupant = some h then s.clearOccupant p else s

/-! ## Punctuality (R51, R52) -/

/-- Counts a lateness in one of the three counters of punctuality (R52). -/
def Counters.count (c : Counters) (late : Int) : Counters :=
  if late ≤ 59 then { c with onTime := satInc c.onTime }
  else if late ≤ 299 then { c with late := satInc c.late }
  else { c with veryLate := satInc c.veryLate }

/-- Changes the counters of a route. -/
def State.modCounters (s : State) (route : Nat) (f : Counters → Counters) : State :=
  s.onRtb fun x => { x with counters := mod1 x.counters route f }

/-- Counts the departure of a run from its stop `k`, if the run halts there (R52). -/
def State.countDeparture (s : State) (slot : Nat) (r : Run) (k : Nat) : State :=
  match r.stopAt k with
  | none => s
  | some st =>
    if st.halts then
      let late := lateness s.now (st.schedDep.getD 0)
      (s.modRun slot fun x => { x with lateness := some late }).modCounters r.route (·.count late)
    else s

/-! ## Retirement (R30) -/

/-- Retires a run slot: the record is cleared, the generation advances, and the regulation record is cleared with it
(R30, R74). -/
def State.retireRunSlot (s : State) (slot : Nat) : State :=
  (s.onRtb fun x => { x with slots := mod1 x.slots slot fun y => ⟨nextGen y.gen, none⟩ }).modReg slot fun _ =>
    RegRec.clear

/-- The lowest free run slot. -/
def State.freeRun (s : State) : Option Nat :=
  (ids 128).find? fun i => (get1 s.rtb.slots i).any fun x => x.run.isNone

end Sys2Proof.Machine
end

