-- ==== Sys2Proof/Machine/IncidentCore.lean ====
section
/-! DEFINITION. The shared work of the Incident Table: desk queues (R132), raising (R126, R131), automatic incidents and
the pending set (R143 to R145), and links with runs (R139, R142). -/

namespace Sys2Proof.Machine

/-! ## Desk queues (R132) -/

/-- The order of a desk queue: severity descending, raise time ascending, incident number ascending. -/
def Incident.before (a b : Incident) : Bool :=
  decide (b.severity < a.severity) ||
    (a.severity == b.severity &&
      (decide (a.raisedAt < b.raisedAt) || (a.raisedAt == b.raisedAt && decide (a.number ≤ b.number))))

/-- The order of a desk queue over handles. -/
def State.deskBefore (s : State) (a b : Nat) : Bool :=
  match (s.resolveInc a).slot?.bind s.incAt, (s.resolveInc b).slot?.bind s.incAt with
  | some x, some y => x.before y
  | _, _ => true

/-- The queue of a desk. -/
def State.desk (s : State) (d : Nat) : List Nat := (get0 s.itb.desks d).getD []

/-- Changes the queue of a desk. -/
def State.modDesk (s : State) (d : Nat) (f : List Nat → List Nat) : State :=
  s.onItb fun t => { t with desks := mod0 t.desks d f }

/-- Places an incident on a desk's queue at the position its order gives. -/
def State.placeOnDesk (s : State) (d h : Nat) : State :=
  s.modDesk d fun q => insertBy s.deskBefore h (q.filter (· != h))

/-- Takes an incident off a desk's queue. -/
def State.leaveDesk (s : State) (d h : Nat) : State := s.modDesk d fun q => q.filter (· != h)

/-- The desk of a class for an incident number: base plus number modulo group size (R132). -/
def State.deskFor (s : State) (c : DeskClass) (number : Nat) : Nat :=
  (look s.lds.deskClasses c.index).elim 0 fun d => d.base + number % d.size

/-- The class to which the desk map sends a kind; SUPERVISOR for an unmapped kind (R10). -/
def State.classOf (s : State) (k : IncidentKind) : DeskClass := (look s.lds.kindMap k.index).getD .supervisor

/-- The time allowed for acknowledgement at a severity (R133). -/
def allowed : Nat → Nat
  | 1 => 300
  | 2 => 120
  | 3 => 60
  | _ => 30

/-! ## Raising (R126, R131) -/

/-- The lowest free incident slot. -/
def State.freeInc (s : State) : Option Nat :=
  (ids 48).find? fun i => (get1 s.itb.slots i).any fun x => x.inc.isNone

/-- The incident number after another: it wraps from 65,535 to 1 (R126). -/
def nextNumber (n : Nat) : Nat := if 65535 ≤ n then 1 else n + 1

/-- The first number from `n` on that no live incident holds; 48 live incidents hold at most 48 numbers (R126). -/
def State.freeNumber (s : State) : Nat → Nat → Nat
  | 0, n => n
  | k + 1, n => if s.liveIncs.any fun x => x.2.number == n then s.freeNumber k (nextNumber n) else n

/-- What a raise writes that differs between a client's incident and the part's own. -/
structure RaiseSpec where
  kind     : IncidentKind
  severity : Nat
  source   : Owner
  auto     : Option AutoCause
  detail   : Option AutoDetail
  count    : Nat
deriving DecidableEq, Repr

/-- The record of a new incident (R128, R131, R133). -/
def State.newIncident (s : State) (x : RaiseSpec) (number : Nat) : Incident :=
  let c := s.classOf x.kind
  { number := number, kind := x.kind, auto := x.auto, detail := x.detail, count := x.count, severity := x.severity,
    state := .raised, source := x.source, raisedAt := s.now, ackBy := none, cls := c, desk := s.deskFor c number,
    escalation := some (s.after (allowed x.severity)), overdue := false, restrictions := [], runs := [], anns := [] }

/-- Raises an incident in a free slot: the record, its desk queue and the DESK notice (R131 steps 1 and 2). DESIGN
CHOICE: where numbers are passed over, the counter goes on from the number given, not from the one it stood at (log
54). -/
def State.raiseIn (s : State) (slot : Nat) (x : RaiseSpec) : State :=
  let number := s.freeNumber 48 s.itb.nextNumber
  let i := s.newIncident x number
  let h := s.incHandle slot
  let t := s.onItb fun b =>
    { b with slots := mod1 b.slots slot fun y => { y with inc := some i }, nextNumber := nextNumber number }
  (t.placeOnDesk i.desk h).postDesk i.desk h

/-! ## Links with runs (R46, R139) -/

/-- Links a run to an incident, on both sides together. -/
def State.linkBoth (s : State) (incSlot runSlot : Nat) : State :=
  let hi := s.incHandle incSlot
  let hr := s.runHandle runSlot
  (s.modInc incSlot fun i => { i with runs := i.runs ++ [hr] }).modRun runSlot fun r =>
    { r with incidents := r.incidents ++ [hi] }

/-- Removes the link of a run and an incident, on both sides together. -/
def State.unlinkBoth (s : State) (incSlot runSlot : Nat) : State :=
  let hi := s.incHandle incSlot
  let hr := s.runHandle runSlot
  (s.modInc incSlot fun i => { i with runs := i.runs.filter (· != hr) }).modRun runSlot fun r =>
    { r with incidents := r.incidents.filter (· != hi) }

/-! ## Automatic incidents (R143 to R145) -/

/-- The kind of an automatic incident (R143). -/
def AutoCause.kind : AutoCause → IncidentKind
  | .trip => .power
  | .orderUnconfirmed => .power
  | .unexpectedEnergisation => .power
  | .reportConflict => .signalData
  | .describerStale => .signalData

/-- The severity of an automatic incident (R143). -/
def AutoCause.severity : AutoCause → Nat
  | .trip => 3
  | .orderUnconfirmed => 2
  | .unexpectedEnergisation => 3
  | .reportConflict => 1
  | .describerStale => 2

/-- The run that an automatic incident links: that of a report conflict (R143). -/
def AutoDetail.run : AutoDetail → Option Nat
  | .ofConflict run _ _ => some run
  | _ => none

/-- Raises an automatic incident in a free slot (R143). The run of a conflict is linked if its handle resolves to a
live run whose list has room (R145). -/
def State.raiseAuto (s : State) (slot : Nat) (c : AutoCause) (d : AutoDetail) (count : Nat) : State :=
  let t := s.raiseIn slot ⟨c.kind, c.severity, .engine, some c, some d, count⟩
  match (d.run.map t.resolveRun).bind Resolved.slot? with
  | some i => if (t.runAt i).any fun r => decide (r.incidents.length < 4) then t.linkBoth slot i else t
  | none => t

/-- Enters a request in the pending set: a new entry, or one more in its cause's entry (R144). -/
def State.enterPending (s : State) (c : AutoCause) (d : AutoDetail) : State :=
  s.onItb fun t =>
    { t with pendingSet := mod1 t.pendingSet c.code fun p =>
      match p with
      | none => some ⟨d, 1⟩
      | some x => some { x with count := min 255 (x.count + 1) } }

/-- Whether an incident of cause DESCRIBER_STALE stands RAISED or ACKNOWLEDGED (R143). -/
def State.staleStands (s : State) : Bool :=
  s.liveIncs.any fun x => x.2.auto == some .describerStale && x.2.state != .cleared

/-- Takes a request for an automatic incident (R143, R144). -/
def State.requestAuto (s : State) (c : AutoCause) (d : AutoDetail) : State :=
  if c = .describerStale ∧ s.staleStands then s
  else match s.freeInc with
    | some i => s.raiseAuto i c d 1
    | none => s.enterPending c d

/-- The first entry of the pending set in cause order, with its cause (R145). -/
def State.firstPending (s : State) : Option (AutoCause × PendingRaise) :=
  AutoCause.all.findSome? fun c => (look s.itb.pendingSet c.code).map fun p => (c, p)

/-- A freed slot is taken by a raise from the pending set, if it holds an entry (R145). -/
def State.raisePending (s : State) (slot : Nat) : State :=
  match s.firstPending with
  | none => s
  | some (c, p) =>
    (s.raiseAuto slot c p.detail p.count).onItb fun t => { t with pendingSet := put t.pendingSet c.code none }

/-- Retires an incident slot (R126). -/
def State.retireIncSlot (s : State) (slot : Nat) : State :=
  s.onItb fun t => { t with slots := mod1 t.slots slot fun x => ⟨nextGen x.gen, none⟩ }

/-- A REPORT_CONFLICT request (R59). -/
def State.conflict (s : State) (run tp : Nat) (k : ConflictKind) : State :=
  s.requestAuto .reportConflict (.ofConflict run tp k)

/-- A REPORT_CONFLICT request where a report carries a conflict. -/
def State.conflict? (s : State) (run tp : Nat) (k : Option ConflictKind) : State :=
  match k with
  | some k => s.conflict run tp k
  | none => s

end Sys2Proof.Machine
end

