-- ==== Sys2Proof/Machine/Sections.lean ====
section
/-! DEFINITION. The shared work on traction sections: state changes (R114), reference changes (R115), force-returns
(R110), breaker orders (R117, R118) and feeder switches (R113). -/

namespace Sys2Proof.Machine

/-- Moves a section to a state. -/
def State.setSection (s : State) (sec : Nat) (x : SecState) : State := s.modSec sec fun r => { r with state := x }

/-- Moves a section to a state and hands the change to the regulator: waiting runs that the change concerns leave the
wait queues with SECTION recorded, held runs are rechecked (R84, R85, R114). -/
def State.moveSection (s : State) (sec : Nat) (x : SecState) : State := (s.setSection sec x).recheckSection sec

/-- The run slots whose live claim names a section, ascending. -/
def State.claimsOn (s : State) (sec : Nat) : List Nat :=
  (ids 128).filter fun i => (s.claim i).any fun c => c.sec == sec

/-- Takes back every claim drawn for a section (R110). -/
def State.returnClaims (s : State) (sec : Nat) : State := (s.claimsOn sec).foldl State.returnClaim s

/-- A force-return with the section's move out of service in the same event: the claims are taken back and the
section's waiting runs leave their queues; the queues are served at the end of the event (R110, R117, R119, log 20). -/
def State.forceOut (s : State) (sec : Nat) (x : SecState) : State := (s.returnClaims sec).moveSection sec x

/-- Creates an OPEN order and awaits its report: confirm timer set, unconfirmed mark cleared (R115, R117, R118). -/
def State.orderOpen (s : State) (sec : Nat) : State :=
  (s.order (.openBreaker sec)).modSec sec fun r =>
    { r with confirmTimer := some (s.after s.lds.params.tConf, .openOrder), unconfirmed := false }

/-- Creates a CLOSE order and awaits its report (R121). -/
def State.orderClose (s : State) (sec : Nat) : State :=
  (s.order (.closeBreaker sec)).modSec sec fun r =>
    { r with confirmTimer := some (s.after s.lds.params.tConf, .closeOrder), unconfirmed := false }

/-- Stops a section's drain timer. -/
def State.stopDrain (s : State) (sec : Nat) : State := s.modSec sec fun r => { r with drainTimer := none }

/-- A breaker report completes an order: the confirm timer is stopped and the mark cleared (R116, R118). -/
def State.confirm (s : State) (sec : Nat) : State :=
  s.modSec sec fun r => { r with confirmTimer := none, unconfirmed := false }

/-- An ENERGISED section starts to drain (R115). -/
def State.startDrain (s : State) (sec : Nat) : State :=
  (s.modSec sec fun r =>
    { r with drainTimer := some (s.after ((s.sectionDef sec).elim 0 (·.drain))) }).moveSection sec .draining

/-- A reference has been added: the section moves as R115 gives. -/
def State.referenceAdded (s : State) (sec : Nat) : State :=
  match s.sec sec with
  | none => s
  | some r =>
    match r.state with
    | .energised => s.startDrain sec
    | .closing => (s.orderOpen sec).moveSection sec .opening
    | .tripped => s.moveSection sec .isolated
    | _ => s

/-- A reference has been removed: at 0 a drain is abandoned (R115). -/
def State.referenceRemoved (s : State) (sec : Nat) : State :=
  match s.sec sec with
  | some r => if r.count = 0 ∧ r.state = .draining then (s.stopDrain sec).moveSection sec .energised else s
  | none => s

/-- Adds one restriction reference to a section (R114, R137). -/
def State.addReference (s : State) (sec : Nat) : State :=
  (s.modSec sec fun r => { r with refs := r.refs + 1 }).referenceAdded sec

/-- Takes one restriction reference from a section (R114, R137). -/
def State.removeReference (s : State) (sec : Nat) : State :=
  (s.modSec sec fun r => { r with refs := r.refs - 1 }).referenceRemoved sec

/-- The sections of the locked description whose range overlaps a restriction's (R137). DESIGN CHOICE: ascending, which
is the order in which one ISOLATE adds or takes its references (log 55). -/
def State.sectionsUnder (s : State) (x : RestrictionSpec) : List Nat :=
  (ids 16).filter fun i => (s.sectionDef i).any fun d => overlaps x.lo x.hi d.lo d.hi

/-! ## Feeder switches (R113) -/

/-- The substation that each section draws from, for the sections 1 to 16. -/
def State.drawings (s : State) : List Nat := (ids 16).map s.drawing

/-- Moves every waiting run whose section now draws from another substation to that substation's queue, keeping its
computed release and joining order (R113). `before` holds the substations drawn from until now. -/
def State.switchSection (before : List Nat) (s : State) (sec : Nat) : State :=
  let old := before.getD (sec - 1) 0
  let new := s.drawing sec
  if old = new then s
  else
    let moving := (s.sub old).elim [] fun x => x.queue.filter fun e => e.sec == sec
    let t := s.modSub old fun x => { x with queue := x.queue.filter fun e => e.sec != sec }
    t.modSub new fun x => { x with queue := moving.foldl (fun q e => insertBy WaitEntry.before e q) x.queue }

/-- Moves the waiting runs of every section whose feeder has changed (R113). -/
def State.switchFeeders (s : State) (before : List Nat) : State :=
  (ids 16).foldl (State.switchSection before) s

end Sys2Proof.Machine
end

