-- ==== Sys2Proof/Machine/Restrict.lean ====
section
/-! DEFINITION. Putting restrictions in force and lifting them: segments (R67, R136), sections (R137), stops, zones and
boards (R138, R160). -/

namespace Sys2Proof.Machine

/-! ## HOLD and SLOW (R67, R136) -/

/-- Changes the live records of several segments. -/
def State.modSegs (s : State) (segs : List Nat) (f : SegLive → SegLive) : State :=
  segs.foldl (fun t i => t.modSeg i f) s

/-- Changes the hold counts of the segments that a HOLD reaches, all of them before the regulator is handed the
change: a gate that the HOLD closes is closed for every run of the event (R83, R85). -/
def State.changeHold (s : State) (f : Nat → Nat) (segs : List Nat) : State :=
  (s.modSegs segs fun g => { g with holdCount := f g.holdCount }).recheckRestriction segs

/-- Changes the slow lists of the segments that a SLOW reaches; each change of a slow percent is then a follower change
at the segment's to-timing-point (R67, R136). DESIGN CHOICE: the follower changes are taken ascending by segment (log
50). -/
def State.changeSlow (s : State) (f : List SlowEntry → List SlowEntry) (segs : List Nat) : State :=
  let t := s.modSegs segs fun g => { g with slow := f g.slow }
  (segs.filter fun i => (s.seg i).percent != (t.seg i).percent).foldl
    (fun u i => u.followerChange ((t.segment i).elim 0 (·.toTp))) t

/-- The segments that a restriction applies to, ascending (R67). -/
def State.segmentsUnder (s : State) (x : RestrictionSpec) : List Nat := (ids 48).filter (s.appliesTo x)

/-! ## SKIP (R138, R160) -/

/-- Whether SKIPs can mark a run's stop `k`: of kind STOP, neither first nor last, actual arrival absent. -/
def Run.markable (r : Run) (k : Nat) : Bool :=
  decide (1 < k) && decide (k < r.count) && (r.stopAt k).any fun st => st.kind == .stop && st.actArr.isNone

/-- Sets the mark of every stop of a run that the test on timing points takes in (R138). -/
def Run.mark (cov : Nat → Bool) (r : Run) : Run :=
  { r with stops := r.stops.zipIdx.map fun x =>
      if r.markable (x.2 + 1) && cov x.1.tp then { x.1 with skipped := true } else x.1 }

/-- Forms again the mark of every marked stop whose actual arrival is absent (R138). -/
def Run.unmark (cov : Nat → Bool) (r : Run) : Run :=
  { r with stops := r.stops.map fun st =>
      if st.skipped && st.actArr.isNone then { st with skipped := cov st.tp } else st }

/-- Applies a change of marks to runs; the change is a report that concerns each run with a changed mark (R84, R138).
DESIGN CHOICE: a stop behind the run's current stop that its reports missed (MISSED_STEPS, R61) and whose actual arrival
is therefore absent counts as not yet reached, so its change of mark is handed over too (log 57). -/
def State.remark (s : State) (f : Run → Run) (slots : List Nat) : State :=
  let changed := slots.filter fun i => (s.runAt i).any fun r => decide ((f r).stops ≠ r.stops)
  (changed.foldl (fun t i => t.modRun i f) s).spansChanged changed

/-- The derived level of a zone: ROUTINE while one of its timing points is covered (R160). -/
def State.derivedLevel (s : State) (z : Nat) : BlockLevel :=
  if (ids 32).any fun p => (s.point p).any (fun t => t.zone == z) && s.covered p then .routine else .none

/-- The coverage of a timing point has changed: its zone's derived level is formed again, and its board is
re-evaluated (R138, R160). -/
def State.coverageChanged (s : State) (p : Nat) : State :=
  let z := (s.point p).elim 0 (·.zone)
  (s.onPiu fun t => { t with zones := mod1 t.zones z fun x => { x with derived := s.derivedLevel z } }).markBoard p

/-- Hands on every timing point whose coverage differs between two states of the incident records. -/
def State.coverageFrom (t s : State) : State :=
  ((ids 32).filter fun p => s.covered p != t.covered p).foldl State.coverageChanged t

/-- Every live run slot, ascending. -/
def State.allRuns (s : State) : List Nat := s.runSlots fun _ => true

/-! ## All kinds (R135 to R138) -/

/-- The effects of a restriction that has been put in force under an incident. `s` already holds it in the incident's
record; `before` is the state before that. DESIGN CHOICE: the sections of an ISOLATE are taken ascending (log 55). -/
def State.enforce (s before : State) (inc number : Nat) (x : RestrictionSpec) : State :=
  match x.kind with
  | .hold => s.changeHold (· + 1) (s.segmentsUnder x)
  | .slow => s.changeSlow (fun l => l ++ [⟨inc, number, x.percent⟩]) (s.segmentsUnder x)
  | .isolate => (s.sectionsUnder x).foldl State.addReference s
  | .skip => (s.remark (Run.mark (s.underSkip x)) s.allRuns).coverageFrom before

/-- The effects of a restriction that has been lifted. `s` no longer holds it; `before` is the state before that. DESIGN
CHOICE: the sections of an ISOLATE are taken ascending (log 55). -/
def State.relax (s before : State) (inc number : Nat) (x : RestrictionSpec) : State :=
  match x.kind with
  | .hold => s.changeHold (· - 1) (s.segmentsUnder x)
  | .slow =>
    s.changeSlow (fun l => l.filter fun e => !(e.incident == inc && e.number == number)) (s.segmentsUnder x)
  | .isolate => (s.sectionsUnder x).foldl State.removeReference s
  | .skip => (s.remark (Run.unmark s.covered) s.allRuns).coverageFrom before

/-- The lowest restriction number that an incident does not use, 1 to 4 (R129). -/
def Incident.freeNumber (i : Incident) : Option Nat :=
  (ids 4).find? fun n => !(i.restrictions.any fun x => x.number == n)

/-- Puts a restriction in force under the incident in a slot, under a number (R135 to R138). -/
def State.putInForce (s : State) (slot number : Nat) (x : RestrictionSpec) : State :=
  let t := s.modInc slot fun i =>
    { i with restrictions := insertBy (fun a b => decide (a.number ≤ b.number)) ⟨number, x⟩ i.restrictions }
  t.enforce s (s.incHandle slot) number x

/-- Puts a restriction in force under the lowest free number of the incident in a slot. -/
def State.addRestriction (slot : Nat) (s : State) (x : RestrictionSpec) : State :=
  match (s.incAt slot).bind Incident.freeNumber with
  | some n => s.putInForce slot n x
  | none => s

/-- Lifts a restriction of the incident in a slot (R135 to R138). -/
def State.lift (slot : Nat) (s : State) (x : Restriction) : State :=
  let t := s.modInc slot fun i => { i with restrictions := i.restrictions.filter fun y => y.number != x.number }
  t.relax s (s.incHandle slot) x.number x.spec

end Sys2Proof.Machine
end

