-- ==== Sys2Proof/Machine/Requests.lean ====
section
/-! DEFINITION. Taking a request: the port's checks (R176, R177), the owner's settlement, the answer (R178) and the
indices, as one event (R175). -/

namespace Sys2Proof.Machine

/-- The bytes of a request slot (R194). -/
def requestBytes (kind : Nat) (r : Req) : List Byte :=
  enc16 r.tag.toNat ++ enc8 r.client.toNat ++ enc8 kind ++ enc16 r.handle.toNat ++ r.body.take Config.bodyBytes

/-- The bytes of an answer slot (R178, R194). -/
def answerBytes (kind : Nat) (r : Req) (code handle : Nat) (body : List Byte) : List Byte :=
  enc16 r.tag.toNat ++ enc8 r.client.toNat ++ enc8 kind ++ enc8 code ++ enc8 0 ++ enc16 handle ++
    body.take Config.answerBodyBytes

/-- The bytes of a notice slot (R179, R194). -/
def noticeBytes (client : Nat) (n : Notice) : List Byte :=
  enc16 0 ++ enc8 client ++ enc8 0 ++ enc8 n.kind.code ++ enc8 n.detail ++ enc16 n.handle

/-- The refusal of the port's checks, in the order of R176; `kind` is none for an unknown request code. -/
def State.portRefusal (s : State) (kind : Option ReqKind) (r : Req) : Option AnswerCode :=
  if r.tag = 0 then some .malformed
  else match kind with
    | none => some .malformed
    | some k =>
      if 7 < r.client.toNat then some .malformed
      else if s.lds.mode = .setup ∧ k.setupAccess then none
      else match get0 s.lds.clients r.client.toNat with
        | none => some .notPermitted
        | some c => if c.configured ∧ k.permits c.role then none else some .notPermitted

/-- Whether a request can be taken: one is available and an answer slot is free (R175). -/
def State.canTake (s : State) : Bool := decide (0 < s.crp.reqOccupancy) && decide (1 ≤ s.crp.ansFree)

/-- Records the bytes of the request being taken in the slot that the request consumer names (log 3). -/
def State.recordRequest (s : State) (kind : Nat) (r : Req) : State :=
  s.onCrp fun c => { c with requestRing := Memory.writeSlot c.requestRing (ringSlot c.reqCons) (requestBytes kind r) }

/-- Writes the answer and advances the answer producer and the request consumer (R175 steps 2 and 3). -/
def State.writeAnswer (s : State) (bytes : List Byte) : State :=
  s.onCrp fun c =>
    { c with
      answerRing := Memory.writeSlot c.answerRing (ringSlot c.ansProd) bytes
      ansProd := c.ansProd + 1
      reqCons := c.reqCons + 1 }

/-- The handle an answer carries: the one the owner names, else the principal handle of a kind that names one, else 0
(R178, log 14). -/
def answerHandle (kind : ReqKind) (r : Req) (x : Reply) : Nat :=
  x.handle.getD (if kind.namesHandle then r.principal else 0)

/-- The event that takes a request of a known kind, settled by its owner (R175). A request that cannot be taken
changes nothing (log 1). -/
def State.takeRequest (s : State) (kind : ReqKind) (r : Req) (settle : State → Reply × State) : State :=
  if s.canTake then
    let t := s.recordRequest kind.code r
    match t.portRefusal (some kind) r with
    | some c => t.writeAnswer (answerBytes kind.code r c.code r.principal [])
    | none =>
      let x := settle t
      (x.2.writeAnswer (answerBytes kind.code r x.1.code.code (answerHandle kind r x.1) x.1.body)).finish
  else s

/-! ## Settling -/

/-- An owner's refusal or answer with nothing changed. -/
def State.reply (s : State) (c : AnswerCode) : Reply × State := (Reply.just c, s)

/-- A refusal that names a second record (R178). -/
def State.replyHandle (s : State) (c : AnswerCode) (h : Nat) : Reply × State := (⟨c, some h, []⟩, s)

/-- An OK answer with a body, taken from the state. -/
def State.answer (s : State) (body : List Byte) : Reply × State := (⟨.ok, none, body⟩, s)

/-- Settles a request that changes the run its principal handle names (R31). -/
def State.withRun (s : State) (r : Req) (f : Nat → Run → Reply × State) : Reply × State :=
  match s.resolveRun r.principal with
  | .zero => s.reply .noEffect
  | .notFound => s.reply .notFound
  | .stale => s.reply .stale
  | .live i =>
    match s.runAt i with
    | some x => f i x
    | none => s.reply .notFound

/-- Settles a request that changes the incident its principal handle names (R127). -/
def State.withInc (s : State) (r : Req) (f : Nat → Incident → Reply × State) : Reply × State :=
  match s.resolveInc r.principal with
  | .zero => s.reply .noEffect
  | .notFound => s.reply .notFound
  | .stale => s.reply .stale
  | .live i =>
    match s.incAt i with
    | some x => f i x
    | none => s.reply .notFound

/-- Settles a request that changes the announcement its principal handle names (R149). -/
def State.withAnn (s : State) (r : Req) (f : Nat → Announcement → Reply × State) : Reply × State :=
  match s.resolveAnn r.principal with
  | .zero => s.reply .noEffect
  | .notFound => s.reply .notFound
  | .stale => s.reply .stale
  | .live i =>
    match s.annAt i with
    | some x => f i x
    | none => s.reply .notFound

/-- The code of a lookup whose handle does not resolve. -/
def Resolved.lookupRefusal : Resolved → AnswerCode
  | .stale => .stale
  | _ => .notFound

/-- The role of the client that sends a request. -/
def State.roleOf (s : State) (r : Req) : Role := ((get0 s.lds.clients r.from).map (·.role)).getD .view

/-- Settles a request that names an object of the locked description by the identifier in its first body byte:
BAD_STATE in SETUP, OUT_OF_RANGE outside 1..n, NOT_FOUND where `known` knows none. -/
def State.withId (s : State) (r : Req) (n : Nat) (known : Nat → Bool) (f : Nat → Reply × State) : Reply × State :=
  let i := r.u8 0
  if !s.inService then s.reply .badState
  else if i < 1 ∨ n < i then s.reply .outOfRange
  else if !known i then s.reply .notFound
  else f i

end Sys2Proof.Machine
end

