-- ==== Sys2Proof/Machine/LineDescription.lean ====
section
/-! DEFINITION. The requests of the Line Description Store (R1 to R17): describing the line, validation, entering and
leaving service, LOOKUP_LINE. -/

namespace Sys2Proof.Machine

/-! ## DEFINE and REMOVE (R2) -/

/-- A description request other than ENTER_SERVICE and SET_LINE_PARAMETER is refused LOCKED in SERVICE (R2). -/
def State.unlocked (s : State) (x : Reply × State) : Reply × State := if s.inService then s.reply .locked else x

/-- Settles a DEFINE request from its parsed body: DEFINE writes the whole record, REMOVE clears it (R2). -/
def State.settleDefine {α : Type} (s : State) (parsed : Option (Nat × Option α)) (defined : Nat → Bool)
    (write : Nat → Option α → State) : Reply × State :=
  s.unlocked <|
    match parsed with
    | none => s.reply .outOfRange
    | some (i, some x) => (Reply.just .ok, write i (some x))
    | some (i, none) => if defined i then (Reply.just .ok, write i none) else s.reply .noEffect

/-- DEFINE_TIMING_POINT (R3). -/
def settleDefineTimingPoint (r : Req) (s : State) : Reply × State :=
  s.settleDefine (r.define 1 32 r.timingPoint) (fun i => (look s.lds.points i).isSome) fun i x =>
    s.onLds fun d => { d with points := put d.points i x }

/-- DEFINE_SEGMENT (R4). -/
def settleDefineSegment (r : Req) (s : State) : Reply × State :=
  s.settleDefine (r.define 1 48 r.segment) (fun i => (look s.lds.segments i).isSome) fun i x =>
    s.onLds fun d => { d with segments := put d.segments i x }

/-- DEFINE_ROUTE (R5). -/
def settleDefineRoute (r : Req) (s : State) : Reply × State :=
  s.settleDefine (r.define 1 4 r.route) (fun i => (look s.lds.routes i).isSome) fun i x =>
    s.onLds fun d => { d with routes := put d.routes i x }

/-- DEFINE_MERGE (R6). -/
def settleDefineMerge (r : Req) (s : State) : Reply × State :=
  s.settleDefine (r.define 1 2 r.merge) (fun i => (look s.lds.merges i).isSome) fun i x =>
    s.onLds fun d => { d with merges := put d.merges i x }

/-- DEFINE_SUBSTATION (R7). -/
def settleDefineSubstation (r : Req) (s : State) : Reply × State :=
  s.settleDefine (r.define 1 8 (within 0 15 (r.u8 2))) (fun i => (look s.lds.substations i).isSome) fun i x =>
    s.onLds fun d => { d with substations := put d.substations i x }

/-- DEFINE_SECTION (R7). -/
def settleDefineSection (r : Req) (s : State) : Reply × State :=
  s.settleDefine (r.define 1 16 r.sectionFields) (fun i => (look s.lds.sections i).isSome) fun i x =>
    s.onLds fun d => { d with sections := put d.sections i x }

/-- DEFINE_TRAIN_CLASS (R8). -/
def settleDefineTrainClass (r : Req) (s : State) : Reply × State :=
  s.settleDefine (r.define 1 4 r.trainClass) (fun i => (look s.lds.classes i).isSome) fun i x =>
    s.onLds fun d => { d with classes := put d.classes i x }

/-- DEFINE_ZONE_GROUP (R9): REMOVE empties the group. -/
def settleDefineZoneGroup (r : Req) (s : State) : Reply × State :=
  s.settleDefine (r.define 1 16 (some (r.zones 2))) (fun i => (get1 s.lds.zoneGroups i).getD 0 != 0) fun i x =>
    s.onLds fun d => { d with zoneGroups := mod1 d.zoneGroups i fun _ => x.getD 0 }

/-- DEFINE_DESK_CLASS (R10). -/
def settleDefineDeskClass (r : Req) (s : State) : Reply × State :=
  s.settleDefine (r.define 1 4 r.desks) (fun i => (look s.lds.deskClasses i).isSome) fun i x =>
    s.onLds fun d => { d with deskClasses := put d.deskClasses i x }

/-- MAP_INCIDENT_KIND (R10). -/
def settleMapIncidentKind (r : Req) (s : State) : Reply × State :=
  s.settleDefine (r.define 1 6 (DeskClass.ofCode (r.u8 2))) (fun i => (look s.lds.kindMap i).isSome) fun i x =>
    s.onLds fun d => { d with kindMap := put d.kindMap i x }

/-- A client entry that is not configured (R11). -/
def Client.none : Client := ⟨false, .view, Option.none⟩

/-- Writes a client entry. Removing a client, or giving it another role or desk, empties its pending list and clears
its notice-lost mark (R11, R180). -/
def State.writeClient (s : State) (i : Nat) (x : Client) : State :=
  let t := s.onLds fun d => { d with clients := mod0 d.clients i fun _ => x }
  if get0 s.lds.clients i = some x then t
  else t.onCrp fun c => { c with notices := mod0 c.notices i fun _ => ⟨[], false⟩ }

/-- DEFINE_CLIENT (R11). -/
def settleDefineClient (r : Req) (s : State) : Reply × State :=
  s.settleDefine (r.define 0 7 r.clientFields) (fun i => (get0 s.lds.clients i).any (·.configured)) fun i x =>
    s.writeClient i (x.getD Client.none)

/-! ## Parameters (R12, R13) -/

/-- Writes a line parameter. -/
def Params.set (p : Params) : ParamSetting → Params
  | .weight v => { p with w := v }
  | .departureTimeout v => { p with tDep := v }
  | .staleTime v => { p with tStale := v }
  | .confirmTimeout v => { p with tConf := v }
  | .horizon v => { p with hPlan := v }
  | .lowWater v => { p with lwm := v }
  | .delayThreshold v => { p with delay := v }
  | .template v => { p with template := v }

/-- Writes the regulation weight or another parameter; a change of the weight in SERVICE repeats every release
computation (R13, R79). -/
def State.setParam (s : State) (x : ParamSetting) : State :=
  let t := s.onLds fun d => { d with params := d.params.set x }
  match x with
  | .weight _ => if s.inService then t.recomputeAll else t
  | _ => t

/-- SET_LINE_PARAMETER before the service of the wait queues. In SERVICE a parameter that is not adjustable is LOCKED,
and the template cannot be removed (R13). -/
def State.settleParam (s : State) (r : Req) : Reply × State :=
  match ParamKind.ofCode (r.u8 0) with
  | none => s.reply .outOfRange
  | some k =>
    if s.inService ∧ ¬ k.adjustable then s.reply .locked
    else match r.paramSetting k with
      | none => s.reply .outOfRange
      | some x =>
        if s.inService ∧ x = .template none then s.reply .outOfRange
        else if s.lds.params.set x = s.lds.params then s.reply .noEffect
        else (Reply.just .ok, s.setParam x)

/-- SET_LINE_PARAMETER (R12, R13). -/
def settleSetLineParameter (r : Req) (s : State) : Reply × State := thenServe s (s.settleParam r)

/-- DEFINE_HEADWAY_BANDS (R12). -/
def settleDefineHeadwayBands (r : Req) (s : State) : Reply × State :=
  s.unlocked <|
    match r.headwayBands with
    | none => s.reply .outOfRange
    | some b => (Reply.just .ok, s.onLds fun d => { d with bands := some b })

/-! ## Validation (R14) -/

/-- A failed check: the item kind, its identifier, the fault. -/
abbrev Finding := ItemKind × Nat × ValidationFault

/-- One check of an item: it reports its fault where the condition holds. -/
def failsIf (k : ItemKind) (i : Nat) (bad : Bool) (f : ValidationFault) : Option Finding :=
  if bad then some (k, i, f) else none

/-- The first finding among checks in order. -/
def firstFinding (l : List (Option Finding)) : Option Finding := l.findSome? id

/-- TRAIN_CLASS, 1..4. -/
def Lds.checkClass (d : Lds) (i : Nat) : Option Finding :=
  failsIf .trainClass i (look d.classes i).isNone .missing

/-- SECTION, each defined. -/
def Lds.checkSection (d : Lds) (i : Nat) : Option Finding :=
  (look d.sections i).bind fun x => firstFinding
    [failsIf .section_ i (look d.substations x.primary).isNone .undefinedReference,
     failsIf .section_ i (x.secondary.any fun y => (look d.substations y).isNone) .undefinedReference,
     failsIf .section_ i (x.secondary == some x.primary) .sameFeeder]

/-- TIMING_POINT, each defined. -/
def Lds.checkPoint (d : Lds) (i : Nat) : Option Finding :=
  (look d.points i).bind fun _ =>
    let inc := (d.incoming i).length
    let out := (d.outgoing i).length
    firstFinding
      [failsIf .timingPoint i (inc == 0 && out == 0) .isolatedPoint,
       failsIf .timingPoint i (decide (2 < inc) || decide (2 < out)) .tooManySegments,
       failsIf .timingPoint i (inc == 2 && !((ids 2).any fun m => (look d.merges m).any fun x => x.tp == i))
         .incomingNotMerge]

/-- SEGMENT, each defined. -/
def Lds.checkSegment (d : Lds) (i : Nat) : Option Finding :=
  (look d.segments i).bind fun g =>
    let a := look d.points g.fromTp
    let b := look d.points g.toTp
    let sec := look d.sections g.sec
    firstFinding
      [failsIf .segment i (a.isNone || b.isNone) .undefinedReference,
       failsIf .segment i (g.fromTp == g.toTp) .loop,
       failsIf .segment i (a.map (·.dir) != b.map (·.dir)) .directionMismatch,
       failsIf .segment i ((ids 48).any fun j => decide (j < i) &&
         (look d.segments j).any fun x => x.fromTp == g.fromTp && x.toTp == g.toTp) .duplicatePair,
       failsIf .segment i sec.isNone .undefinedReference,
       failsIf .segment i (!(sec.any fun x => decide (x.lo ≤ g.lo) && decide (g.hi ≤ x.hi))) .outsideSection]

/-- MERGE, each defined. -/
def Lds.checkMerge (d : Lds) (i : Nat) : Option Finding :=
  (look d.merges i).bind fun m => firstFinding
    [failsIf .merge i (look d.points m.tp).isNone .undefinedReference,
     failsIf .merge i ((ids 2).any fun j => decide (j < i) && (look d.merges j).any fun x => x.tp == m.tp)
       .mergeRepeated,
     failsIf .merge i (d.incoming m.tp != [min m.main m.branch, max m.main m.branch]) .mergeMismatch]

/-- Whether every consecutive pair of a route is joined by a segment in that order. -/
def Lds.joined (d : Lds) : List Nat → Bool
  | a :: b :: rest => (d.joining a b).isSome && d.joined (b :: rest)
  | _ => true

/-- ROUTE, each defined. -/
def Lds.checkRoute (d : Lds) (i : Nat) : Option Finding :=
  (look d.routes i).bind fun l => firstFinding
    [failsIf .route i (l.any fun p => (look d.points p).isNone) .undefinedReference,
     failsIf .route i (!decide l.Nodup) .repeatedPoint,
     failsIf .route i (!d.joined l) .notJoined]

/-- Whether two desk classes share a desk. -/
def DeskDef.shares (a b : DeskDef) : Bool := overlaps a.base (a.base + a.size) b.base (b.base + b.size)

/-- DESK_CLASS, DISPATCH to SUPERVISOR; the check that SUPERVISOR is defined belongs to the item SUPERVISOR (log 18). -/
def Lds.checkDesk (d : Lds) (c : DeskClass) : Option Finding :=
  match look d.deskClasses c.index with
  | none => failsIf .deskClass c.index (c == .supervisor) .missing
  | some x => firstFinding
    [failsIf .deskClass c.index (decide (8 < x.base + x.size)) .deskOutside,
     failsIf .deskClass c.index ((ids 4).any fun j => decide (j < c.index) &&
       (look d.deskClasses j).any fun y => x.shares y) .deskOverlap]

/-- INCIDENT_KIND, in the order of R10. -/
def Lds.checkKind (d : Lds) (i : Nat) : Option Finding :=
  failsIf .incidentKind i ((look d.kindMap i).any fun c => (look d.deskClasses c.index).isNone) .undefinedReference

/-- CLIENT: at least one configured SUPERVISOR client. -/
def Lds.checkClients (d : Lds) : Option Finding :=
  failsIf .client 0 (!(d.clients.toList.any fun c => c.configured && c.role == .supervisor)) .noSupervisor

/-- The whole validation: the first check that fails, in the order of R14's table. -/
def Lds.validate (d : Lds) : Option Finding :=
  firstFinding <|
    (ids 4).map d.checkClass ++ (ids 16).map d.checkSection ++ (ids 32).map d.checkPoint ++
    (ids 48).map d.checkSegment ++ (ids 2).map d.checkMerge ++
    failsIf .route 0 ((ids 4).all fun i => (look d.routes i).isNone) .missing :: (ids 4).map d.checkRoute ++
    DeskClass.all.map d.checkDesk ++ (ids 6).map d.checkKind ++
    [d.checkClients, failsIf .parameter 0 d.bands.isNone .missing, failsIf .parameter 8 d.params.template.isNone .missing]

/-! ## Entry into service and return (R15, R16) -/

/-- The live state of the Traction Power Controller at entry into service (R100, R105, R114). -/
def Tpc.enter (d : Lds) (t : Tpc) : Tpc where
  subs := d.substations.map fun x => x.map fun _ => ⟨.offline, 0, 0, []⟩
  claims := Vector.replicate 128 none
  secs := d.sections.map fun x => x.map fun _ => ⟨.unknown, false, 0, none, none, false⟩
  joinSeq := t.joinSeq

/-- The Traction Power Controller with every record dropped (R100, R105, R114). -/
def Tpc.leave (t : Tpc) : Tpc :=
  ⟨Vector.replicate 8 none, Vector.replicate 128 none, Vector.replicate 16 none, t.joinSeq⟩

/-- The Movement Tracker with nothing on the track, not STALE, its stale timer as given (R55 to R57, R67, R71). -/
def Mvt.fresh (timer : Option Nat) : Mvt := { Mvt.reset with staleTimer := timer }

/-- The regulator's records and arbiters cleared, its mode kept (R74, R75, R95). -/
def Drg.fresh (d : Drg) : Drg :=
  { d with recs := Vector.replicate 128 RegRec.clear, arbiters := Vector.replicate 2 Arbiter.clear }

/-- The desk queues and the pending set emptied (R132, R144). -/
def Itb.fresh (t : Itb) : Itb := { t with desks := Vector.replicate 8 [], pendingSet := Vector.replicate 5 none }

/-- Every derived zone level NONE (R160). -/
def Piu.levelsDown (p : Piu) : Piu := { p with zones := p.zones.map fun z => { z with derived := .none } }

/-- A board with two empty lines for each timing point that has one (R171). -/
def Piu.boardsFor (d : Lds) (p : Piu) : Piu :=
  { p with boards := d.points.map fun x => x.bind fun t => if t.board then some Board.empty else none }

/-- The timing points that have a board record, ascending. -/
def State.boardPoints (s : State) : List Nat := (ids 32).filter fun p => (look s.piu.boards p).isSome

/-- A BOARD_UPDATE order for the board of a timing point as stored. -/
def State.orderBoard (s : State) (p : Nat) : State :=
  match look s.piu.boards p with
  | some b => s.order (.boardUpdate p b.line1 b.line2)
  | none => s

/-- Entry into service: the mode and every block's live state (R15, R53, R71, R99, R147, R171). -/
def State.enterService (s : State) : State :=
  let s₁ : State :=
    { s with
      lds := { s.lds with mode := .service }
      rtb := { s.rtb with armed := true }
      mvt := Mvt.fresh (some (s.after s.lds.params.tStale))
      drg := s.drg.fresh
      tpc := Tpc.enter s.lds s.tpc
      itb := s.itb.fresh
      piu := Piu.boardsFor s.lds s.piu.levelsDown }
  ((s₁.boardPoints.foldl State.orderBoard s₁).markAllBoards).evalHorizon

/-- ENTER_SERVICE (R14, R15). -/
def settleEnterService (_ : Req) (s : State) : Reply × State :=
  if s.inService then s.reply .noEffect
  else match s.lds.validate with
    | some (k, i, f) => (⟨.outOfRange, none, enc8 k.code ++ enc8 i ++ enc8 f.code⟩, s)
    | none => (Reply.just .ok, s.enterService)

/-- Whether the return to SETUP is refused: a live run, a live incident, or a channel that is not DISABLED (R16). -/
def State.mayNotReturn (s : State) : Bool :=
  !s.liveRuns.isEmpty || !s.liveIncs.isEmpty || s.piu.channels.toList.any fun c => c.state != .disabled

/-- The return to SETUP: every block drops its live state (R16, R53, R72, R99, R100, R114, R147, R171). A change of
STALE is posted (R71). -/
def State.returnToSetup (s : State) : State :=
  let s₁ := if s.mvt.stale then s.postLineEvent .staleCleared else s
  { s₁ with
    lds := { s₁.lds with mode := .setup }
    rtb := { s₁.rtb with horizonCount := 0, armed := true }
    mvt := Mvt.fresh none
    drg := s₁.drg.fresh
    tpc := s₁.tpc.leave
    itb := s₁.itb.fresh
    piu := { s₁.piu.levelsDown with boards := Vector.replicate 32 none } }

/-- RETURN_TO_SETUP (R16). -/
def settleReturnToSetup (_ : Req) (s : State) : Reply × State :=
  if !s.inService then s.reply .noEffect
  else if s.mayNotReturn then s.reply .badState
  else (Reply.just .ok, s.returnToSetup)

/-! ## LOOKUP_LINE (R17) -/

/-- The body of a timing point's answer, with its derived lists. -/
def Lds.pointBody (d : Lds) (i : Nat) (p : TimingPoint) : List Byte :=
  enc8 i ++ enc8 p.dir.code ++ enc16 p.chainage ++ enc8 p.zone ++ enc16 p.dMin ++ enc16 p.hMin ++ enc16 p.hMax ++
    encBool p.board ++ encList (d.incoming i) enc8 ++ encList (d.outgoing i) enc8

/-- The body of a segment's answer. -/
def segmentBody (i : Nat) (g : Segment) : List Byte :=
  enc8 i ++ enc8 g.fromTp ++ enc8 g.toTp ++ enc16 g.lo ++ enc16 g.hi ++ enc8 g.sec ++ enc16 g.rNom ++ enc8 g.capacity

/-- The body of a section's answer. -/
def sectionBody (i : Nat) (x : SectionDef) : List Byte :=
  enc8 i ++ enc16 x.lo ++ enc16 x.hi ++ enc8 x.primary ++ enc8 (x.secondary.getD 0) ++ enc16 x.drain

/-- The body of a client's answer. -/
def clientBody (i : Nat) (c : Client) : List Byte :=
  enc8 i ++ encBool c.configured ++ enc8 c.role.code ++ enc8 (c.desk.getD Config.absentDesk)

/-- A headway band in an answer. -/
def encBand (b : Band) : List Byte := enc24 b.start ++ enc16 b.target

/-- The headway band table in an answer; absent starts and targets 0 while it is unwritten.
DESIGN CHOICE: the four bands stand without a list count (log 33). -/
def encBands : Option Bands → List Byte
  | some b => encBand b.band1 ++ encBand b.band2 ++ encBand b.band3 ++ encBand b.band4
  | none => (List.replicate 4 (encClock none ++ enc16 0)).flatten

/-- The line parameters in an answer, in the order of R12's table. -/
def encParams (p : Params) : List Byte :=
  enc8 p.w ++ enc16 p.tDep ++ enc16 p.tStale ++ enc16 p.tConf ++ enc16 p.hPlan ++ enc8 p.lwm ++ enc16 p.delay ++
    encList (p.template.getD []) enc16

/-- The greatest identifier of an item kind. DESIGN CHOICE: R17 states no range for PARAMETER; 0 is its only identifier,
so that 1 to 8 are OUT_OF_RANGE and not NOT_FOUND (log 17). -/
def ItemKind.last : ItemKind → Nat
  | .timingPoint => 32
  | .segment => 48
  | .route => 4
  | .merge => 2
  | .substation => 8
  | .section_ => 16
  | .trainClass => 4
  | .zoneGroup => 16
  | .deskClass => 4
  | .incidentKind => 6
  | .client => 7
  | .parameter => 0

/-- The answer body for a configured object; none where the identifier is undefined (R17). -/
def Lds.itemBody (d : Lds) (k : ItemKind) (i : Nat) : Option (List Byte) :=
  match k with
  | .timingPoint => (look d.points i).map (d.pointBody i)
  | .segment => (look d.segments i).map (segmentBody i)
  | .route => (look d.routes i).map fun l => enc8 i ++ encList l enc8 ++ encList (d.joiningList l) enc8
  | .merge => (look d.merges i).map fun m => enc8 i ++ enc8 m.tp ++ enc8 m.main ++ enc8 m.branch ++ enc16 m.hJ
  | .substation => (look d.substations i).map fun c => enc8 i ++ enc8 c
  | .section_ => (look d.sections i).map (sectionBody i)
  | .trainClass => (look d.classes i).map fun x => enc8 i ++ enc8 x.cost ++ enc16 x.tStart
  | .zoneGroup => (get1 d.zoneGroups i).map fun z => enc8 i ++ encZones z
  | .deskClass => (look d.deskClasses i).map fun x => enc8 i ++ enc8 x.base ++ enc8 x.size
  | .incidentKind => (look d.kindMap i).map fun c => enc8 i ++ enc8 c.code
  | .client => if i = 0 then none else (get0 d.clients i).bind fun c => if c.configured then some (clientBody i c) else none
  | .parameter => if i = 0 then some (encBands d.bands ++ encParams d.params) else none

/-- LOOKUP_LINE (R17, log 17). -/
def settleLookupLine (r : Req) (s : State) : Reply × State :=
  match ItemKind.ofCode (r.u8 0) with
  | none => s.reply .outOfRange
  | some k =>
    if k.last < r.u8 1 then s.reply .outOfRange
    else match s.lds.itemBody k (r.u8 1) with
      | some b => s.answer b
      | none => s.reply .notFound

/-! ## The commands -/

/-- DEFINE_TIMING_POINT. -/
def execDefineTimingPoint (r : Req) (s : State) : Host.Outcome State Fault Refusal :=
  .next (s.takeRequest .defineTimingPoint r (settleDefineTimingPoint r))

/-- DEFINE_SEGMENT. -/
def execDefineSegment (r : Req) (s : State) : Host.Outcome State Fault Refusal :=
  .next (s.takeRequest .defineSegment r (settleDefineSegment r))

/-- DEFINE_ROUTE. -/
def execDefineRoute (r : Req) (s : State) : Host.Outcome State Fault Refusal :=
  .next (s.takeRequest .defineRoute r (settleDefineRoute r))

/-- DEFINE_MERGE. -/
def execDefineMerge (r : Req) (s : State) : Host.Outcome State Fault Refusal :=
  .next (s.takeRequest .defineMerge r (settleDefineMerge r))

/-- DEFINE_SUBSTATION. -/
def execDefineSubstation (r : Req) (s : State) : Host.Outcome State Fault Refusal :=
  .next (s.takeRequest .defineSubstation r (settleDefineSubstation r))

/-- DEFINE_SECTION. -/
def execDefineSection (r : Req) (s : State) : Host.Outcome State Fault Refusal :=
  .next (s.takeRequest .defineSection r (settleDefineSection r))

/-- DEFINE_TRAIN_CLASS. -/
def execDefineTrainClass (r : Req) (s : State) : Host.Outcome State Fault Refusal :=
  .next (s.takeRequest .defineTrainClass r (settleDefineTrainClass r))

/-- DEFINE_ZONE_GROUP. -/
def execDefineZoneGroup (r : Req) (s : State) : Host.Outcome State Fault Refusal :=
  .next (s.takeRequest .defineZoneGroup r (settleDefineZoneGroup r))

/-- DEFINE_DESK_CLASS. -/
def execDefineDeskClass (r : Req) (s : State) : Host.Outcome State Fault Refusal :=
  .next (s.takeRequest .defineDeskClass r (settleDefineDeskClass r))

/-- MAP_INCIDENT_KIND. -/
def execMapIncidentKind (r : Req) (s : State) : Host.Outcome State Fault Refusal :=
  .next (s.takeRequest .mapIncidentKind r (settleMapIncidentKind r))

/-- DEFINE_CLIENT. -/
def execDefineClient (r : Req) (s : State) : Host.Outcome State Fault Refusal :=
  .next (s.takeRequest .defineClient r (settleDefineClient r))

/-- SET_LINE_PARAMETER. -/
def execSetLineParameter (r : Req) (s : State) : Host.Outcome State Fault Refusal :=
  .next (s.takeRequest .setLineParameter r (settleSetLineParameter r))

/-- DEFINE_HEADWAY_BANDS. -/
def execDefineHeadwayBands (r : Req) (s : State) : Host.Outcome State Fault Refusal :=
  .next (s.takeRequest .defineHeadwayBands r (settleDefineHeadwayBands r))

/-- ENTER_SERVICE. -/
def execEnterService (r : Req) (s : State) : Host.Outcome State Fault Refusal :=
  .next (s.takeRequest .enterService r (settleEnterService r))

/-- RETURN_TO_SETUP. -/
def execReturnToSetup (r : Req) (s : State) : Host.Outcome State Fault Refusal :=
  .next (s.takeRequest .returnToSetup r (settleReturnToSetup r))

/-- LOOKUP_LINE. -/
def execLookupLine (r : Req) (s : State) : Host.Outcome State Fault Refusal :=
  .next (s.takeRequest .lookupLine r (settleLookupLine r))

end Sys2Proof.Machine
end

