-- ==== Sys2Proof/Machine/LineClock.lean ====
section
/-! DEFINITION. The Line Clock (R18 to R29): the clock's advance, SET_CLOCK, END_DAY, the minute boundary, and the
service-day rollover as one function over every block (R26; log 28 gives its sequence). -/

namespace Sys2Proof.Machine

/-! ## The rollover, block by block -/

/-- The Line Clock at the rollover (R26). -/
def Lck.rollover (c : Lck) (cause : RolloverCause) (t : Nat) : Lck :=
  { c with clock := 0, day := (c.day + 1) % 65536, lastRollover := some (cause, t) }

/-- The announcements that name a run, ascending by handle (R171). -/
def State.runAnnouncements (s : State) : List Nat :=
  (s.liveAnns.filter fun x =>
    x.2.linkedRun.isSome || (match x.2.spec.target with
      | .followRun _ => true
      | .groups _ => false)).map fun x => s.annHandle x.1

/-- The timers and due time of an announcement carried into the new day (R159, R171). -/
def Announcement.carry (t : Nat) (a : Announcement) : Announcement :=
  { a with due := some 0, nextDue := carryTimer t a.nextDue, expiryTimer := carryTimer t a.expiryTimer }

/-- Carries every live announcement, and sorts the queues again by their due times of 0 (R159, R171). -/
def State.carryAnns (s : State) (t : Nat) : State :=
  let u := s.onPiu fun p =>
    { p with slots := p.slots.map fun x => { x with ann := x.ann.map (Announcement.carry t) } }
  u.onPiu fun p => { p with channels := p.channels.map fun c => { c with queue := sortBy u.queueBefore c.queue } }

/-- A REVOKE order for the release of a run (R43, R54, R86). -/
def State.revoke (s : State) (slot : Nat) : State :=
  match s.runAt slot with
  | some r => s.order (.revoke r.number (r.tpAt r.cur) ((s.reg slot).releaseSegment.getD 0))
  | none => s

/-- The Run Table at the rollover: REVOKE for every RELEASED run, every live slot retired, the counters cleared and
the horizon armed (R54). -/
def State.rolloverRuns (s : State) : State :=
  let t := (s.runSlots fun r => r.state == .released).foldl State.revoke s
  let u := t.allRuns.foldl State.retireRunSlot t
  u.onRtb fun x => { x with counters := Vector.replicate 4 ⟨0, 0, 0, 0⟩, armed := true }

/-- The Movement Tracker at the rollover: the views are kept, the stale timer starts again (R71, R72). -/
def Mvt.rollover (m : Mvt) (tStale : Nat) : Mvt where
  segs := m.segs.map fun g => { g with queue := [] }
  mergeLists := Vector.replicate 2 []
  points := Vector.replicate 32 TpLive.empty
  stale := m.stale
  staleTimer := some tStale

/-- The regulator at the rollover: records and arbiters clear, released count 0, a halt complete (R99). -/
def State.rolloverDrg (s : State) : State :=
  let t := s.onDrg fun d => { d.fresh with releasedCount := 0 }
  if s.drg.mode = .halting then
    (t.onDrg fun d => { d with mode := .manual }).postWhere ⟨.halted, 0, 0⟩ fun c =>
      c.role == .dispatch || c.role == .supervisor
  else t

/-- A section's timers carried into the new day (R125). -/
def SecLive.carry (t : Nat) (x : SecLive) : SecLive :=
  { x with
    drainTimer := carryTimer t x.drainTimer
    confirmTimer := x.confirmTimer.map fun c => (c.1 - t, c.2) }

/-- The Traction Power Controller at the rollover (R125). -/
def Tpc.rollover (p : Tpc) (t : Nat) : Tpc :=
  { p with
    subs := p.subs.map (Option.map fun x => { x with inUse := 0, queue := [] })
    claims := Vector.replicate 128 none
    secs := p.secs.map (Option.map (SecLive.carry t)) }

/-- An incident carried into the new day: no linked runs, its escalation timer with its remaining time (R148). -/
def Incident.carry (t : Nat) (i : Incident) : Incident :=
  { i with runs := [], escalation := carryTimer t i.escalation }

/-- The slots of the CLEARED incidents, ascending. -/
def State.clearedSlots (s : State) : List Nat :=
  (s.liveIncs.filter fun x => x.2.state == .cleared).map (·.1)

/-- The Incident Table at the rollover, with the clock already at 0 (R148). -/
def State.rolloverItb (s : State) (t : Nat) : State :=
  let u := s.onItb fun b => { b with slots := b.slots.map fun x => { x with inc := x.inc.map (Incident.carry t) } }
  let freed := u.clearedSlots
  freed.foldl State.raisePending (freed.foldl State.retireIncSlot u)

/-- Every board cleared, with a BOARD_UPDATE for each (R171). -/
def State.clearBoards (s : State) : State :=
  let t := s.onPiu fun p => { p with boards := p.boards.map (Option.map fun _ => Board.empty), dirty := [] }
  t.boardPoints.foldl State.orderBoard t

/-- The rollover in SERVICE (R26). -/
def State.rolloverService (s : State) (cause : RolloverCause) (t : Nat) : State :=
  let s₁ := (s.withdrawAll s.runAnnouncements).carryAnns t
  let s₂ := s₁.rolloverRuns.onLck fun c => c.rollover cause t
  let s₃ := (s₂.onMvt fun m => m.rollover s₂.lds.params.tStale).rolloverDrg.onTpc fun p => p.rollover t
  ((s₃.rolloverItb t).clearBoards.evalHorizon).postLineEvent .rollover

/-- The rollover in SETUP: the Line Clock and the announcements still live (R26). -/
def State.rolloverSetup (s : State) (cause : RolloverCause) (t : Nat) : State :=
  (s.carryAnns t).onLck fun c => c.rollover cause t

/-- The service-day rollover, taken with a cause at a clock value (R26). -/
def State.rollover (s : State) (cause : RolloverCause) (t : Nat) : State :=
  if s.inService then s.rolloverService cause t else s.rolloverSetup cause t

/-! ## Advancing (R18, R19, R27) -/

/-- The last value the clock stands at before the clock end (R18, R27). -/
def lastSecond : Nat := 107998

/-- The clock end: the rollover with cause CLOCK_END at clock value 107,999 (R27). -/
def State.endOfClock (s : State) : State := (s.rollover .clockEnd Config.dayEnd).finish

/-- The clock takes its next value; onto a multiple of 60 a minute boundary follows (R18, R19, log 9). -/
def Lck.advance (c : Lck) : Lck :=
  { c with clock := c.clock + 1, minuteDue := c.minuteDue || (c.clock + 1) % 60 == 0 }

/-! ## SET_CLOCK and END_DAY (R22 to R24, R28) -/

/-- Whether a multiple of 60 lies above one clock value and at or below another (R19). -/
def crossesMinute (old new : Nat) : Bool := decide (old / 60 < new / 60)

/-- The body of SET_CLOCK: a clock value in 0..107,998. -/
def setClockValue (r : Req) : Option Nat := within 0 lastSecond (r.u24 0)

/-- SET_CLOCK in SETUP (R22). -/
def settleSetClockSetup (s : State) (t day : Nat) : Reply × State :=
  if t = s.now ∧ day = s.lck.day then s.reply .noEffect
  else (Reply.just .ok, s.onLck fun c => { c with clock := t, day := day })

/-- SET_CLOCK in SERVICE: a forward step within the day (R23, R24). -/
def settleSetClockService (s : State) (t day : Nat) : Reply × State :=
  if day ≠ s.lck.day then s.reply .tooLate
  else if t = s.now then s.reply .noEffect
  else if t < s.now then s.reply .outOfRange
  else if s.now + 3600 < t then s.reply .outOfRange
  else (Reply.just .ok,
    s.onLck fun c => { c with clock := t, minuteDue := c.minuteDue || crossesMinute c.clock t })

/-- SET_CLOCK (R22, R23). -/
def settleSetClock (r : Req) (s : State) : Reply × State :=
  match setClockValue r with
  | none => s.reply .outOfRange
  | some t => if s.inService then settleSetClockService s t (r.u16 3) else settleSetClockSetup s t (r.u16 3)

/-- END_DAY (R28). -/
def settleEndDay (r : Req) (s : State) : Reply × State :=
  if !s.inService then s.reply .badState
  else if r.u16 0 ≠ s.lck.day then s.reply .tooLate
  else (Reply.just .ok, s.rollover .endDay s.now)

/-! ## The commands -/

/-- SET_CLOCK. -/
def execSetClock (r : Req) (s : State) : Host.Outcome State Fault Refusal :=
  .next (s.takeRequest .setClock r (settleSetClock r))

/-- END_DAY. -/
def execEndDay (r : Req) (s : State) : Host.Outcome State Fault Refusal :=
  .next (s.takeRequest .endDay r (settleEndDay r))

/-- MINUTE_BOUNDARY (R19): the horizon watch and every board; nothing while none is due. -/
def execMinuteBoundary (s : State) : Host.Outcome State Fault Refusal :=
  .next <|
    if s.lck.minuteDue then
      let t := s.onLck fun c => { c with minuteDue := false }
      if s.inService then (t.evalHorizon.markAllBoards).finish else t
    else s

/-- CLOCK_END (R27): taken when the clock stands at 107,998; elsewhere nothing ends (log 10). -/
def execClockEnd (s : State) : Host.Outcome State Fault Refusal :=
  .next (if s.now < lastSecond then s else s.endOfClock)

/-- CLOCK_ADVANCE (R18): one second of the time base; at 107,998 it is the clock end (R27, log 10). -/
def execClockAdvance (s : State) : Host.Outcome State Fault Refusal :=
  .next (if s.now < lastSecond then s.onLck Lck.advance else s.endOfClock)

end Sys2Proof.Machine
end

