-- ==== Sys2Proof/Machine/RunTable.lean ====
section
/-! DEFINITION. The Run Table (R30 to R54): loading, amending, cancelling, retiring and looking up runs, the counters,
the placement timer's expiry and the marking of a newly loaded run. -/

namespace Sys2Proof.Machine

/-! ## LOAD_RUN (R35, R36) -/

/-- Whether a list of times never decreases. -/
def nonDecreasing : List Nat → Bool
  | a :: b :: rest => decide (a ≤ b) && nonDecreasing (b :: rest)
  | _ => true

/-- The scheduled times of a stop list in the order of R36's condition 8. -/
def schedule (stops : List Stop) : List Nat := stops.flatMap fun st => st.schedArr.toList ++ st.schedDep.toList

/-- Conditions 5 and 6 of R36 for the stop with index `k` of `n`, of a kind and with scheduled times. -/
def timesFit (n k : Nat) (kind : StopKind) (arr dep : Option Nat) : Bool :=
  arr.isSome == decide (1 < k) && dep.isSome == decide (k < n) && (kind == .stop || arr == dep)

/-- Condition 3 of R36: the timing points are consecutive entries of the route. -/
def consecutiveIn (route tps : List Nat) : Bool :=
  (List.range route.length).any fun i => (route.drop i).take tps.length == tps

/-- Conditions 4 to 6 and 8 of R36 for a stop list. -/
def stopsValid (stops : List Stop) : Bool :=
  let n := stops.length
  (stops.zipIdx.all fun x =>
    (x.1.kind == .stop || (decide (0 < x.2) && decide (x.2 + 1 < n))) &&
      timesFit n (x.2 + 1) x.1.kind x.1.schedArr x.1.schedDep) && nonDecreasing (schedule stops)

/-- Whether a LOAD_RUN body is valid (R36); the coded fields and the stop count are the reader's part. -/
def State.loadValid (s : State) (b : LoadBody) : Bool :=
  decide (1 ≤ b.number) && decide (b.number ≤ 9999) && decide (1 ≤ b.cls) && decide (b.cls ≤ 4) &&
    ((s.routeDef b.route).any fun l => consecutiveIn l (b.stops.map (·.tp))) && stopsValid b.stops

/-- The record of a newly loaded run (R32). -/
def State.newRun (s : State) (b : LoadBody) : Run :=
  let r : Run :=
    { number := b.number, route := b.route, cls := b.cls, state := .planned, stops := b.stops, cur := 1,
      causes := Causes.none, claimPresent := false, incidents := [], autoDelay := none, lateness := none,
      placeTimer := none, placeWaiting := false }
  { r with placeTimer := some (s.placementTime r) }

/-- Makes a slot live with a run; its regulation record is clear (R35, R74). -/
def State.loadIn (s : State) (slot : Nat) (b : LoadBody) : State :=
  ((s.onRtb fun x => { x with slots := mod1 x.slots slot fun y => { y with run := some (s.newRun b) } }).modReg slot
    fun _ => RegRec.clear).evalHorizon

/-- The live run that holds a run number, with its slot. -/
def State.runNumbered (s : State) (n : Nat) : Option (Nat × Run) := s.liveRuns.find? fun x => x.2.number == n

/-- LOAD_RUN (R35). -/
def settleLoadRun (r : Req) (s : State) : Reply × State :=
  if !s.inService then s.reply .badState
  else match r.load with
    | none => s.reply .outOfRange
    | some b =>
      if !s.loadValid b then s.reply .outOfRange
      else if (s.runNumbered b.number).isSome then s.reply .duplicate
      else match s.freeRun with
        | none => s.reply .full
        | some i => (⟨.ok, some (s.runHandle i), []⟩, s.loadIn i b)

/-! ## AMEND_RUN (R41, R42) -/

/-- The stop list with new times for the stops from index `k` on. -/
def amendStops (stops : List Stop) (k : Nat) (es : List (Option Nat × Option Nat)) : List Stop :=
  stops.zipIdx.map fun x =>
    match if k ≤ x.2 + 1 then es[x.2 + 1 - k]? else none with
    | some e => { x.1 with schedArr := e.1, schedDep := e.2 }
    | none => x.1

/-- Whether an entry may name the stop with index `j`: not yet arrived at, or the current stop of a DWELLING or HELD
run with its scheduled arrival repeated (R41). -/
def Run.amendable (r : Run) (j : Nat) (arr : Option Nat) : Bool :=
  (r.stopAt j).any fun st =>
    st.actArr.isNone || (r.cur == j && r.waitsAtStop && arr == st.schedArr)

/-- What an amendment leads to at the other blocks (R42). -/
def State.amended (s : State) (slot : Nat) (old new : Run) : State :=
  if old.state = .planned then
    if (old.stopAt 1).map (·.schedDep) = (new.stopAt 1).map (·.schedDep) then s
    else
      let t := s.placementTime new
      (s.modRun slot fun x =>
        { x with placeTimer := some t, placeWaiting := x.placeWaiting && decide (t ≤ s.now) }).evalHorizon
  else if old.waitsAtStop ∧ old.curDep ≠ new.curDep then s.recompute [slot]
  else s

/-- AMEND_RUN for a run that resolves (R41). DESIGN CHOICE: condition 6 of R36 asks for the kind of a stop as it was
loaded, so that a skipped stop of kind STOP takes an arrival and a departure that differ (log 58). -/
def State.settleAmend (s : State) (r : Req) (slot : Nat) (x : Run) : Reply × State :=
  if x.state = .terminated ∨ x.state = .cancelled then s.reply .badState
  else match r.amend with
    | none => s.reply .outOfRange
    | some (k, es) =>
      let entry := es.zipIdx.map fun e => (k + e.2, e.1)
      let new := { x with stops := amendStops x.stops k es }
      if k < 1 ∨ x.count < k + es.length - 1 then s.reply .outOfRange
      else if !(entry.all fun e => (x.stopAt e.1).any fun st => timesFit x.count e.1 st.kind e.2.1 e.2.2) then
        s.reply .outOfRange
      else if !nonDecreasing (schedule new.stops) then s.reply .outOfRange
      else if !(entry.all fun e => x.amendable e.1 e.2.1) then s.reply .badState
      else if new.stops = x.stops then s.reply .noEffect
      else (Reply.just .ok, (s.modRun slot fun y => { y with stops := new.stops }).amended slot x new)

/-- AMEND_RUN (R41). -/
def settleAmendRun (r : Req) (s : State) : Reply × State := thenServe s (s.withRun r (s.settleAmend r))

/-! ## CANCEL_RUN (R43) -/

/-- Removes a run from the order list of the merge that its release was granted (R56, R95). -/
def State.withdrawGrant (s : State) (slot : Nat) : State :=
  let h := s.runHandle slot
  match (s.reg slot).grantedMerge with
  | some m => (s.modMergeList m fun l => l.filter (· != h)).modReg slot fun x => { x with grantedMerge := none }
  | none => s

/-- A run that stood at a platform without a release leaves regulation: release timer, dispatcher hold, wait queue and
priority (R43, R87, R111). -/
def State.leaveRegulation (s : State) (slot : Nat) : State :=
  let h := s.runHandle slot
  let t := s.modReg slot fun x => { x with releaseTimer := none, dispatcherHold := false }
  (t.leaveQueues h).loseHolder h

/-- The effects of a cancellation by the state in which it is taken (R43). The run is CANCELLED already. -/
def State.cancelEffects (s : State) (slot : Nat) (old : Run) : State :=
  let h := s.runHandle slot
  let p := old.tpAt old.cur
  match old.state with
  | .planned => s.evalHorizon
  | .dwelling | .held => (s.leaveRegulation slot).vacate p h
  | .released =>
    let t := ((s.revoke slot).returnClaim slot).withdrawGrant slot
    let u := t.modReg slot fun x => { x with departureTimer := none, dispatcherHold := false, releaseSegment := none }
    (u.lowerReleased).vacate p h
  | .running => s.returnClaim slot
  | .terminated | .cancelled => s

/-- Cancels a run: its state, causes and counter, then the effects and the end of the run (R43). -/
def State.cancel (s : State) (slot : Nat) (x : Run) : State :=
  let t := s.modRun slot fun y => { y.leavePlanned with state := .cancelled, causes := Causes.none }
  let u := t.modCounters x.route fun c => { c with cancelled := satInc c.cancelled }
  (u.cancelEffects slot x).endRun slot

/-- CANCEL_RUN for a run that resolves. -/
def State.settleCancel (s : State) (slot : Nat) (x : Run) : Reply × State :=
  match x.state with
  | .cancelled => s.reply .noEffect
  | .terminated => s.reply .badState
  | _ => (Reply.just .ok, s.cancel slot x)

/-- CANCEL_RUN (R43). -/
def settleCancelRun (r : Req) (s : State) : Reply × State := thenServe s (s.withRun r s.settleCancel)

/-! ## RETIRE_RUN (R45) -/

/-- Whether a run may be retired (R45). -/
def State.mayRetire (s : State) (slot : Nat) (x : Run) : Bool :=
  match x.state with
  | .terminated | .planned => true
  | .cancelled => (s.queueOf (s.runHandle slot)).isNone
  | _ => false

/-- Removes a run from the linked-run lists of the incidents that its record lists. -/
def State.unlinkRun (s : State) (h : Nat) (incs : List Nat) : State :=
  incs.foldl (fun t i => t.modIncOf i fun x => { x with runs := x.runs.filter (· != h) }) s

/-- Retires a run (R45). -/
def State.retire (s : State) (slot : Nat) (x : Run) : State :=
  let h := s.runHandle slot
  let s₁ := if x.state = .planned then s.endRun slot else s
  let s₂ := (s₁.unlinkRun h x.incidents).withdrawAll ((s₁.unlinkRun h x.incidents).announcementsOf h)
  (s₂.retireRunSlot slot).evalHorizon

/-- RETIRE_RUN for a run that resolves. -/
def State.settleRetire (s : State) (slot : Nat) (x : Run) : Reply × State :=
  if s.mayRetire slot x then (Reply.just .ok, s.retire slot x) else s.reply .badState

/-- RETIRE_RUN (R45). -/
def settleRetireRun (r : Req) (s : State) : Reply × State := s.withRun r s.settleRetire

/-! ## Lookups (R47, R48) -/

/-- A stop entry of 18 bytes (R195). -/
def encStop (st : Stop) : List Byte :=
  enc8 st.tp ++ enc8 st.kind.code ++ encBool st.skipped ++ encClock st.schedArr ++ encClock st.schedDep ++
    encClock st.actArr ++ encClock st.actDep ++ encClock st.release

/-- Four handle places, unused ones 0 (R195). -/
def encFourHandles (l : List Nat) : List Byte :=
  enc16 (l.getD 0 0) ++ enc16 (l.getD 1 0) ++ enc16 (l.getD 2 0) ++ enc16 (l.getD 3 0)

/-- The LOOKUP_RUN answer body from stop `j` on (R195). -/
def runBody (x : Run) (j : Nat) : List Byte :=
  let stops := (x.stops.drop (j - 1)).take 12
  enc16 x.number ++ enc8 x.route ++ enc8 x.cls ++ enc8 x.state.code ++ enc8 x.count ++ enc8 x.cur ++
    enc8 x.causes.byte ++ encBool x.claimPresent ++ encFourHandles x.incidents ++ encHandle x.autoDelay ++
    encLateness x.lateness ++ enc8 j ++ enc8 stops.length ++ stops.flatMap encStop

/-- LOOKUP_RUN (R47). -/
def settleLookupRun (r : Req) (s : State) : Reply × State :=
  match s.runOf r.principal with
  | none => s.reply (s.resolveRun r.principal).lookupRefusal
  | some x => if r.u8 0 < 1 ∨ x.count < r.u8 0 then s.reply .outOfRange else s.answer (runBody x (r.u8 0))

/-- FIND_RUN (R48). -/
def settleFindRun (r : Req) (s : State) : Reply × State :=
  if r.u16 0 < 1 ∨ 9999 < r.u16 0 then s.reply .outOfRange
  else match s.runNumbered (r.u16 0) with
    | some (i, x) => s.answer (enc16 (s.runHandle i) ++ enc8 x.state.code)
    | none => s.reply .notFound

/-! ## Counters (R52) -/

/-- The four counters of a route in an answer. -/
def encCounters (c : Counters) : List Byte := enc16 c.onTime ++ enc16 c.late ++ enc16 c.veryLate ++ enc16 c.cancelled

/-- The counters of a route as a lookup reads them: all 0 for a route that the description does not define (R52).
DESIGN CHOICE: in SETUP the description is the store as it stands, so the kept counters of a route that is still there
are shown (log 45). -/
def State.countersOf (s : State) (route : Nat) : Counters :=
  if (look s.lds.routes route).isSome then (get1 s.rtb.counters route).getD ⟨0, 0, 0, 0⟩ else ⟨0, 0, 0, 0⟩

/-- LOOKUP_COUNTERS (R52). DESIGN CHOICE: the routes' counters stand one after another without a list count (log 33). -/
def settleLookupCounters (_ : Req) (s : State) : Reply × State :=
  s.answer ((ids 4).flatMap fun i => encCounters (s.countersOf i))

/-- All sixteen counters at 0. -/
def zeroCounters : Vector Counters 4 := Vector.replicate 4 ⟨0, 0, 0, 0⟩

/-- CLEAR_COUNTERS (R52). -/
def settleClearCounters (_ : Req) (s : State) : Reply × State :=
  if s.rtb.counters = zeroCounters then s.reply .noEffect
  else (Reply.just .ok, s.onRtb fun x => { x with counters := zeroCounters })

/-! ## The commands -/

/-- LOAD_RUN. -/
def execLoadRun (r : Req) (s : State) : Host.Outcome State Fault Refusal :=
  .next (s.takeRequest .loadRun r (settleLoadRun r))

/-- AMEND_RUN. -/
def execAmendRun (r : Req) (s : State) : Host.Outcome State Fault Refusal :=
  .next (s.takeRequest .amendRun r (settleAmendRun r))

/-- CANCEL_RUN. -/
def execCancelRun (r : Req) (s : State) : Host.Outcome State Fault Refusal :=
  .next (s.takeRequest .cancelRun r (settleCancelRun r))

/-- RETIRE_RUN. -/
def execRetireRun (r : Req) (s : State) : Host.Outcome State Fault Refusal :=
  .next (s.takeRequest .retireRun r (settleRetireRun r))

/-- LOOKUP_RUN. -/
def execLookupRun (r : Req) (s : State) : Host.Outcome State Fault Refusal :=
  .next (s.takeRequest .lookupRun r (settleLookupRun r))

/-- FIND_RUN. -/
def execFindRun (r : Req) (s : State) : Host.Outcome State Fault Refusal :=
  .next (s.takeRequest .findRun r (settleFindRun r))

/-- LOOKUP_COUNTERS. -/
def execLookupCounters (r : Req) (s : State) : Host.Outcome State Fault Refusal :=
  .next (s.takeRequest .lookupCounters r (settleLookupCounters r))

/-- CLEAR_COUNTERS. -/
def execClearCounters (r : Req) (s : State) : Host.Outcome State Fault Refusal :=
  .next (s.takeRequest .clearCounters r (settleClearCounters r))

/-- The placement timer of a PLANNED run has expired: it is placed at a free platform, or waits (R38). -/
def State.placementExpiry (s : State) (slot : Nat) (x : Run) : State :=
  if (s.tp (x.tpAt 1)).occupant.isNone then s.placeRun slot
  else s.modRun slot fun y => { y with placeTimer := none, placeWaiting := true }

/-- PLACEMENT_TIMER_EXPIRY (R38); nothing while the timer is not due. -/
def execPlacementTimerExpiry (slot : Nat) (s : State) : Host.Outcome State Fault Refusal :=
  .next <|
    match s.runAt slot with
    | some x => if x.state = .planned ∧ s.reached x.placeTimer then (s.placementExpiry slot x).finish else s
    | none => s

/-- SKIP_MARKING_ON_LOAD (R138): the stops of a loaded run are marked under the SKIPs in force. -/
def execSkipMarkingOnLoad (slot : Nat) (s : State) : Host.Outcome State Fault Refusal :=
  .next <|
    match s.runAt slot with
    | some _ => ((s.remark (Run.mark s.covered) [slot]).serveLeft s).finish
    | none => s

end Sys2Proof.Machine
end

