-- ==== Sys2Proof/Machine/Movement.lean ====
section
/-! DEFINITION. The Movement Tracker (R55 to R73): the ARRIVED, DEPARTED and PASSED reports with their irregular cases,
staleness, and the lookups of the track. -/

namespace Sys2Proof.Machine

/-! ## Taking a report (R58, R71, R187) -/

/-- Sets the describer stale timer again; a report that finds the line STALE clears the mark (R71). -/
def State.restartStale (s : State) : State :=
  let t := s.onMvt fun m => { m with staleTimer := some (s.after s.lds.params.tStale), stale := false }
  if s.mvt.stale then t.staleChanged .staleCleared else t

/-- Takes a movement report: unmatched at the interface for an unknown timing point or run number outside its range
(R187); otherwise the stale timer restarts, and a report for no live run is unmatched (R58). The service of the wait
queues ends the event (R112). -/
def State.takeMovement (s : State) (number p : Nat) (settle : State → Nat → Run → Nat → State) : State :=
  if (s.point p).isNone ∨ number < 1 ∨ 9999 < number then s.countUnmatched
  else
    let t := s.restartStale
    (match t.runNumbered number with
      | none => t.countUnmatched
      | some (i, r) => settle t i r p).serveLeft s

/-! ## Leaving and entering queues (R55, R56) -/

/-- Takes a run out of a segment's queue. -/
def State.leaveSegment (s : State) (seg h : Nat) : State :=
  s.modSeg seg fun g => { g with queue := g.queue.filter (· != h) }

/-- Appends a run to a segment's queue. -/
def State.enterSegment (s : State) (seg h : Nat) : State :=
  s.modSeg seg fun g => { g with queue := g.queue ++ [h] }

/-- Whether a segment's queue holds 8 runs (R55, R59). -/
def State.segmentFull (s : State) (seg : Nat) : Bool := decide (Config.queueBound ≤ (s.seg seg).queue.length)

/-- Whether a timing point is that of a stop from `a` to `b` of a run. -/
def Run.stopsAmong (r : Run) (a b p : Nat) : Bool := (r.indexAt p).any fun i => decide (a ≤ i) && decide (i ≤ b)

/-- Takes a run out of the order list of a merge that lies among its stops `a` to `b`; its granted merge becomes none
when that list held it (R56, R61, log 22). -/
def State.leaveMerge (r : Run) (a b slot : Nat) (s : State) (m : Nat) : State :=
  let h := s.runHandle slot
  if ((s.mergeDef m).any fun d => r.stopsAmong a b d.tp) ∧ (s.mergeList m).contains h then
    (s.modMergeList m fun l => l.filter (· != h)).modReg slot fun x =>
      { x with grantedMerge := if x.grantedMerge = some m then none else x.grantedMerge }
  else s

/-- Takes a run out of the order lists of every merge among its stops `a` to `b`. -/
def State.leaveMerges (s : State) (r : Run) (a b slot : Nat) : State := (ids 2).foldl (State.leaveMerge r a b slot) s

/-- Takes a run out of every merge order list, and its granted merge becomes none: the end of its movement (R62). -/
def State.leaveEveryMerge (s : State) (slot : Nat) : State :=
  ((ids 2).foldl (fun t m => t.modMergeList m fun l => l.filter (· != s.runHandle slot)) s).modReg slot fun x =>
    { x with grantedMerge := none }

/-! ## Conflicts (R59) -/

/-- Whether a merge stands at a timing point whose order list holds a run behind another. -/
def State.behindAtMerge (s : State) (p h : Nat) : Bool :=
  (s.mergeAt p).any fun m => (s.mergeList m).contains h && (s.mergeList m).head? != some h

/-- Whether a run stands in a queue behind another. -/
def State.behindInQueue (s : State) (h : Nat) : Bool :=
  (s.queueOf h).any fun i => (s.seg i).queue.head? != some h

/-- The conflict of a report that moves a run to or through its stop `m`, in the order of R59's table; `last` is the
kind that applies when none of the earlier does. -/
def State.moveConflict (s : State) (h m p : Nat) (r : Run) (last : Option ConflictKind) : Option ConflictKind :=
  if r.cur < m then some .missedSteps
  else if s.behindInQueue h then some .outOfOrder
  else if s.behindAtMerge p h then some .mergeOrder
  else last

/-- The stop index that a report for a run on the track names: its current stop or a later one. -/
def Run.ahead (r : Run) (p : Nat) : Option Nat := (r.indexAt p).bind fun m => if r.cur ≤ m then some m else none

/-! ## Arrivals (R60 to R63) -/

/-- The track's part of an arrival at stop `m`: out of the queue, the actual arrival written. -/
def State.reachStop (s : State) (slot m : Nat) : State :=
  let h := s.runHandle slot
  (s.leaveSegment ((s.queueOf h).getD 0) h).modRun slot fun x => x.arriveAt m s.now

/-- A taken arrival at which the run becomes occupant and DWELLING (R60). -/
def State.arriveDwelling (s : State) (slot m : Nat) (r : Run) : State :=
  let h := s.runHandle slot
  let seg := (s.queueOf h).getD 0
  let t := ((s.leaveMerges r r.cur m slot).reachStop slot m).occupy (r.tpAt m) h
  ((t.returnClaim slot).computeRelease slot).queueChanged seg

/-- A taken arrival that ends the run's movement: it leaves any merge order list, and a run not CANCELLED ends there
(R62). -/
def State.arriveTerminal (s : State) (slot m : Nat) (r : Run) : State :=
  let h := s.runHandle slot
  let seg := (s.queueOf h).getD 0
  let t := ((s.leaveEveryMerge slot).reachStop slot m).modRun slot fun x => { x with state := .terminated }
  let u := (t.returnClaim slot).queueChanged seg
  if r.state = .cancelled then u else u.endRun slot

/-- ARRIVED for a run on the track: RUNNING, or CANCELLED in a queue (R60 to R62). -/
def State.arrivedOnTrack (s : State) (slot : Nat) (r : Run) (p : Nat) : State :=
  let h := s.runHandle slot
  match r.ahead p with
  | none => if r.tpAt (r.cur - 1) = p then s else s.conflict h p .unexpectedPoint
  | some m =>
    if r.state = .cancelled ∨ m = r.count then
      (s.arriveTerminal slot m r).conflict? h p (s.moveConflict h m p r none)
    else if (s.tp p).occupant.isSome then s.conflict h p .platformOccupied
    else
      let pass := if (r.stopAt m).any Stop.halts then none else some ConflictKind.stoppedAtPass
      (s.arriveDwelling slot m r).conflict? h p (s.moveConflict h m p r pass)

/-- ARRIVED for a PLANNED run (R63). -/
def State.arrivedPlanned (s : State) (slot : Nat) (r : Run) (p : Nat) : State :=
  let h := s.runHandle slot
  if r.tpAt 1 ≠ p then s.conflict h p .unexpectedPoint
  else if (s.tp p).occupant.isSome then s.conflict h p .platformOccupied
  else s.placeRun slot

/-- Settles an ARRIVED report by the run's state (R58). -/
def State.settleArrived (s : State) (slot : Nat) (r : Run) (p : Nat) : State :=
  let h := s.runHandle slot
  match r.state with
  | .planned => s.arrivedPlanned slot r p
  | .dwelling | .held | .released => if r.tpAt r.cur = p then s else s.conflict h p .unexpectedPoint
  | .running => s.arrivedOnTrack slot r p
  | .cancelled =>
    if (s.queueOf h).isSome then s.arrivedOnTrack slot r p else s.conflict h p .unexpectedPoint
  | .terminated => s.conflict h p .unexpectedPoint

/-! ## Departures (R64, R65, R87, R108) -/

/-- The track's part of a departure from stop `k` into a segment. -/
def State.departInto (s : State) (slot k seg : Nat) (st : RunState) : State :=
  (s.enterSegment seg (s.runHandle slot)).modRun slot fun x =>
    { x.modStop k (fun y => { y with actDep := some s.now }) with state := st, cur := k + 1, causes := Causes.none }

/-- LD and the last departed run of a timing point (R57). -/
def State.stampDeparture (s : State) (p h : Nat) : State :=
  s.modTp p fun x => { x with ld := some s.now, lastDeparted := some h }

/-- The claim's expiry at the departure that completes a release (R108). -/
def State.startClaimTimer (s : State) (slot : Nat) (r : Run) : State :=
  match s.claim slot with
  | some c =>
    s.putClaim slot (some { c with expiry := some (s.after ((look s.lds.classes r.cls).elim 0 (·.tStart))) })
  | none => s

/-- A DEPARTED report that completes a release (R64). -/
def State.departReleased (s : State) (slot : Nat) (r : Run) (p : Nat) : State :=
  let h := s.runHandle slot
  let seg := ((s.reg slot).releaseSegment).getD (s.segmentAfter r r.cur)
  if s.segmentFull seg then s.conflict h p .queueFull
  else
    let t := (s.departInto slot r.cur seg .running).stampDeparture p h
    let u := t.modReg slot fun x => { x with departureTimer := none, dispatcherHold := false, releaseSegment := none }
    let v := ((u.lowerReleased).startClaimTimer slot r).countDeparture slot r r.cur
    (v.vacate p h).queueChanged seg

/-- A departure without release from the current stop, by a DEPARTED report (`stamps`) or by a PASSED report out of the
first stop (R65). -/
def State.departUnreleased (s : State) (slot : Nat) (r : Run) (p : Nat) (stamps : Bool) : State :=
  let h := s.runHandle slot
  let seg := s.segmentAfter r r.cur
  if s.segmentFull seg then s.conflict h p .queueFull
  else
    let st : RunState := if r.state = .cancelled then .cancelled else .running
    let t := s.departInto slot r.cur seg st
    let t := if r.state = .planned then
        t.modRun slot fun x => x.leavePlanned.modStop r.cur fun y => { y with actArr := some s.now }
      else t
    let t := if stamps then t.stampDeparture p h else t
    let t := t.leaveRegulation slot
    let t := if stamps ∧ r.state ≠ .cancelled then t.countDeparture slot r r.cur else t
    let t := if r.state = .planned then t.evalHorizon else t.vacate p h
    (t.queueChanged seg).conflict h p
      (if r.state = .cancelled then .departedAfterCancel else .unreleasedDeparture)

/-- DEPARTED for a run on the track: the step just left is a repeat (R63). -/
def State.departedOnTrack (s : State) (slot : Nat) (r : Run) (p : Nat) : State :=
  if r.tpAt (r.cur - 1) = p then s else s.conflict (s.runHandle slot) p .unexpectedPoint

/-- Settles a DEPARTED report by the run's state (R58, log 35). -/
def State.settleDeparted (s : State) (slot : Nat) (r : Run) (p : Nat) : State :=
  let h := s.runHandle slot
  match r.state with
  | .planned | .dwelling | .held =>
    if r.tpAt r.cur = p then s.departUnreleased slot r p true else s.conflict h p .unexpectedPoint
  | .released => if r.tpAt r.cur = p then s.departReleased slot r p else s.conflict h p .unexpectedPoint
  | .running => s.departedOnTrack slot r p
  | .cancelled =>
    if (s.queueOf h).isSome then s.departedOnTrack slot r p
    else if r.tpAt r.cur = p then s.departUnreleased slot r p true
    else s.conflict h p .unexpectedPoint
  | .terminated => if r.tpAt r.cur = p then s else s.conflict h p .unexpectedPoint

/-! ## Passing (R66) -/

/-- A taken PASSED report through stop `m`: from the present queue into the next (R66). -/
def State.passThrough (s : State) (slot m : Nat) (r : Run) : State :=
  let h := s.runHandle slot
  let old := (s.queueOf h).getD 0
  let new := s.segmentAfter r m
  let t := ((s.leaveSegment old h).leaveMerges r r.cur m slot).enterSegment new h
  let u := t.modRun slot fun x =>
    { x.modStop m (fun y => { y with actArr := some s.now, actDep := some s.now }) with cur := m + 1 }
  ((u.returnClaim slot).queueChanged old).queueChanged new

/-- PASSED for a run on the track (R66). PASSED_STOP is not raised for a CANCELLED run at its last stop (log 34). -/
def State.passedOnTrack (s : State) (slot : Nat) (r : Run) (p : Nat) : State :=
  let h := s.runHandle slot
  match r.ahead p with
  | none => if r.tpAt (r.cur - 1) = p then s else s.conflict h p .unexpectedPoint
  | some m =>
    if m = r.count then
      let last := if r.state = .cancelled then none else some ConflictKind.passedStop
      (s.arriveTerminal slot m r).conflict? h p (s.moveConflict h m p r last)
    else if s.segmentFull (s.segmentAfter r m) then s.conflict h p .queueFull
    else
      let last := if (r.stopAt m).any Stop.halts then some ConflictKind.passedStop else none
      (s.passThrough slot m r).conflict? h p (s.moveConflict h m p r last)

/-- Settles a PASSED report by the run's state (R58). -/
def State.settlePassed (s : State) (slot : Nat) (r : Run) (p : Nat) : State :=
  let h := s.runHandle slot
  match r.state with
  | .planned =>
    if r.tpAt 1 = p then s.departUnreleased slot r p false else s.conflict h p .unexpectedPoint
  | .running => s.passedOnTrack slot r p
  | .cancelled =>
    if (s.queueOf h).isSome then s.passedOnTrack slot r p else s.conflict h p .unexpectedPoint
  | .dwelling | .held | .released | .terminated => s.conflict h p .unexpectedPoint

/-! ## The commands -/

/-- ARRIVED (R60). -/
def execArrived (run : Half) (point : Byte) (s : State) : Host.Outcome State Fault Refusal :=
  .next ((s.received 3).takeMovement run.toNat point.toNat State.settleArrived).finish

/-- DEPARTED (R64). -/
def execDeparted (run : Half) (point : Byte) (s : State) : Host.Outcome State Fault Refusal :=
  .next ((s.received 3).takeMovement run.toNat point.toNat State.settleDeparted).finish

/-- PASSED (R66). -/
def execPassed (run : Half) (point : Byte) (s : State) : Host.Outcome State Fault Refusal :=
  .next ((s.received 3).takeMovement run.toNat point.toNat State.settlePassed).finish

/-- The describer stale timer has expired (R71). -/
def State.staleExpiry (s : State) : State :=
  let t := s.onMvt fun m => { m with staleTimer := none, stale := true }
  (if s.mvt.stale then t else t.staleChanged .staleSet).requestAuto .describerStale .nothing

/-- DESCRIBER_STALE_TIMER_EXPIRY (R71); nothing while the timer is not due. -/
def execDescriberStaleTimerExpiry (s : State) : Host.Outcome State Fault Refusal :=
  .next (if s.reached s.mvt.staleTimer then (s.staleExpiry.serveLeft s).finish else s)

/-! ## Lookups (R73) -/

/-- The LOOKUP_POINT answer body. DEDUCED: while the line is STALE the candidates' predictions are absent beside the
stale mark, as R70 says of candidates, where R69 says that predictions go on being formed (log 47). DESIGN CHOICE: R73
names no field for a candidate itself; its run handle alone stands before the prediction (log 47). -/
def State.pointAnswer (s : State) (p : Nat) : List Byte :=
  let x := s.tp p
  encHandle x.occupant ++ encClock x.lr ++ encClock x.ld ++ encHandle x.lastDeparted ++
    encList (s.followers p) (fun c => enc16 c.2.1 ++ encClock c.2.2 ++ encBool s.mvt.stale) ++
    (match s.mergeAt p with
      | some m => encList (s.mergeList m) enc16
      | none => [])

/-- LOOKUP_POINT (R73). -/
def settleLookupPoint (r : Req) (s : State) : Reply × State :=
  s.withId r 32 (fun i => (s.point i).isSome) fun i => s.answer (s.pointAnswer i)

/-- One entry of a segment's queue in an answer: R73's four fields, and the stale mark that R69 gives with every
prediction. DESIGN CHOICE: the mark is one byte after the entry's prediction (log 47). -/
def State.queueEntry (s : State) (p h : Nat) : List Byte :=
  match s.runOf h with
  | some r =>
    enc16 h ++ enc16 r.number ++ enc8 r.state.code ++ encClock (s.predict r p) ++ encBool s.mvt.stale
  | none => enc16 h ++ enc16 0 ++ enc8 0 ++ encClock none ++ encBool s.mvt.stale

/-- The LOOKUP_SEGMENT answer body. -/
def State.segmentAnswer (s : State) (i : Nat) : List Byte :=
  let g := s.seg i
  let toTp := (s.segment i).elim 0 (·.toTp)
  encList g.queue (s.queueEntry toTp) ++ enc8 ((s.segment i).elim 0 (·.capacity)) ++ enc16 g.holdCount ++
    enc16 g.percent ++ enc16 (s.adjustedRun i)

/-- LOOKUP_SEGMENT (R73). -/
def settleLookupSegment (r : Req) (s : State) : Reply × State :=
  s.withId r 48 (fun i => (s.segment i).isSome) fun i => s.answer (s.segmentAnswer i)

/-- LOOKUP_POINT. -/
def execLookupPoint (r : Req) (s : State) : Host.Outcome State Fault Refusal :=
  .next (s.takeRequest .lookupPoint r (settleLookupPoint r))

/-- LOOKUP_SEGMENT. -/
def execLookupSegment (r : Req) (s : State) : Host.Outcome State Fault Refusal :=
  .next (s.takeRequest .lookupSegment r (settleLookupSegment r))

end Sys2Proof.Machine
end

