-- ==== Sys2Proof/Machine/Regulation.lean ====
section
/-! DEFINITION. The Departure Regulator's requests and events (R81, R86 to R99): holds, forced releases, the regulator
mode, the release event, the retry, the departure timeout and the merges' free timers. -/

namespace Sys2Proof.Machine

/-! ## HOLD_RUN and UNHOLD_RUN (R88, R89) -/

/-- Sets the dispatcher hold of a DWELLING or HELD run. A HELD run's set takes DISPATCHER; a run waiting for credits
leaves its queue (R85, R88). -/
def State.hold (s : State) (slot : Nat) (x : Run) : State :=
  let t := s.modReg slot fun y => { y with dispatcherHold := true }
  if x.state ≠ .held then t
  else if x.causes = Causes.onlyPower then t.recheckWaiting slot x
  else
    (t.modRun slot fun y => { y with causes := { y.causes with dispatcher := true } }).loseHolder (s.runHandle slot)

/-- HOLD_RUN for a run that resolves. -/
def State.settleHold (s : State) (slot : Nat) (x : Run) : Reply × State :=
  match x.state with
  | .dwelling | .held =>
    if (s.reg slot).dispatcherHold then s.reply .noEffect else (Reply.just .ok, s.hold slot x)
  | .released => s.reply .tooLate
  | .planned | .running | .terminated | .cancelled => s.reply .badState

/-- HOLD_RUN (R88). -/
def settleHoldRun (r : Req) (s : State) : Reply × State := thenServe s (s.withRun r s.settleHold)

/-- Clears the dispatcher hold; a set that empties leads to a retry (R89). -/
def State.unhold (s : State) (slot : Nat) : State :=
  let t := s.modReg slot fun y => { y with dispatcherHold := false }
  (t.modRun slot fun y => { y with causes := { y.causes with dispatcher := false } }).settleMerge slot

/-- UNHOLD_RUN for a run that resolves. -/
def State.settleUnhold (s : State) (slot : Nat) (x : Run) : Reply × State :=
  match x.state with
  | .dwelling | .held =>
    if (s.reg slot).dispatcherHold then (Reply.just .ok, s.unhold slot) else s.reply .noEffect
  | _ => s.reply .badState

/-- UNHOLD_RUN (R89). -/
def settleUnholdRun (r : Req) (s : State) : Reply × State := s.withRun r s.settleUnhold

/-! ## RELEASE_RUN (R90, R91) -/

/-- MERGE is closed for a dispatcher's release: the merge not free, another run its holder, or the list full (R90). -/
def State.mergeClosedFor (s : State) (slot : Nat) (r : Run) : Bool :=
  match s.spanMerge r with
  | none => false
  | some (m, _) =>
    !s.mergeFree m || ((s.arbiter m).holder.any fun h => h != s.runHandle slot) || !s.mergeRoom m

/-- The closed causes among the four that a forced release respects (R90). -/
def State.forcedGates (s : State) (slot : Nat) (r : Run) : Causes :=
  { Causes.none with
    restriction := s.restrictionClosed r
    section_ := s.sectionClosed r
    capacity := s.capacityClosed r
    merge := s.mergeClosedFor slot r }

/-- Whether a forced release comes before LR + H_min (R90). -/
def State.tooSoon (s : State) (r : Run) : Bool :=
  let p := r.tpAt r.cur
  (s.tp p).lr.any fun t => decide (s.now < t + (s.point p).elim 0 (·.hMin))

/-- Makes a forced release: the immediate claim, the release, and the computed release and lateness of a stop at which
the run halts (R91, R107). -/
def State.forceRelease (s : State) (slot : Nat) (r : Run) : State :=
  let sec := s.drawSection r
  let t := (s.leaveQueues (s.runHandle slot)).recordClaim slot (s.drawing sec) sec (s.startCost r)
  let u := t.completeRelease slot
  if r.computable then (u.modRun slot fun x => x.withRelease s.now).compareDelay slot (lateness s.now r.curDep)
  else u

/-- A refusal that carries the closed causes (R90). -/
def State.refuseCauses (s : State) (c : Causes) : Reply × State := (⟨.badState, none, enc8 c.byte⟩, s)

/-- RELEASE_RUN against a DWELLING or HELD run (R90). -/
def State.releaseStanding (s : State) (slot : Nat) (r : Run) : Reply × State :=
  let g := s.forcedGates slot r
  if s.tooSoon r then s.reply .tooSoon
  else if !g.isEmpty then s.refuseCauses g
  else if s.available (s.drawing (s.drawSection r)) < s.startCost r then s.refuseCauses Causes.onlyPower
  else (Reply.just .ok, s.forceRelease slot r)

/-- RELEASE_RUN for a run that resolves; a PLANNED run is first placed (R40, R90). -/
def State.settleRelease (s : State) (slot : Nat) (x : Run) : Reply × State :=
  match x.state with
  | .planned =>
    if (s.tp (x.tpAt 1)).occupant.isSome then s.reply .badState
    else
      let t := s.placeRun slot
      match t.runAt slot with
      | some r => t.releaseStanding slot r
      | none => t.reply .badState
  | .dwelling | .held => s.releaseStanding slot x
  | .released => s.reply .noEffect
  | .running | .terminated | .cancelled => s.reply .badState

/-- RELEASE_RUN (R90). -/
def settleReleaseRun (r : Req) (s : State) : Reply × State := s.withRun r s.settleRelease

/-! ## SET_REGULATION (R92 to R94) -/

/-- MANUAL enters the set of a HELD run; a run waiting for credits leaves its queue (R85, R92). -/
def State.enterManual (s : State) (slot : Nat) : State :=
  match s.runAt slot with
  | some r =>
    if r.causes = Causes.onlyPower then s.recheckWaiting slot r
    else s.modRun slot fun x => { x with causes := { x.causes with manual := true } }
  | none => s

/-- HALT from AUTOMATIC: no merge keeps a holder, MANUAL enters every HELD run's set, and with no run released the halt
is complete at once (R92, R94). -/
def State.halt (s : State) : State :=
  let held := s.heldRuns fun _ => true
  let t := s.onDrg fun d => { d with mode := .halting, arbiters := d.arbiters.map fun a => { a with holder := none } }
  let u := held.foldl State.enterManual t
  if u.drg.releasedCount = 0 then
    (u.onDrg fun d => { d with mode := .manual }).postWhere ⟨.halted, 0, 0⟩ fun c =>
      c.role == .dispatch || c.role == .supervisor
  else u

/-- MANUAL leaves the set of a HELD run (R93). -/
def State.leaveManual (s : State) (slot : Nat) : State :=
  s.modRun slot fun x => { x with causes := { x.causes with manual := false } }

/-- RESUME: AUTOMATIC at once, MANUAL out of every HELD run's set (R93). -/
def State.resume (s : State) : State :=
  let t := s.onDrg fun d => { d with mode := .automatic }
  let held := s.heldRuns fun r => r.causes.manual
  (held.foldl State.leaveManual t).settleMerges s held

/-- SET_REGULATION by its action. -/
def State.settleAction (s : State) (r : Req) : Reply × State :=
  if !s.inService then s.reply .badState
  else match r.regAction with
    | none => s.reply .outOfRange
    | some .halt => if s.drg.mode = .automatic then (Reply.just .ok, s.halt) else s.reply .noEffect
    | some .resume => if s.drg.mode = .automatic then s.reply .noEffect else (Reply.just .ok, s.resume)
    | some (.weight v) =>
      if 8 < v then s.reply .outOfRange
      else if v = s.lds.params.w then s.reply .noEffect
      else (Reply.just .ok, s.setParam (.weight v))

/-- SET_REGULATION (R92). -/
def settleSetRegulation (r : Req) (s : State) : Reply × State := thenServe s (s.settleAction r)

/-! ## LOOKUP_REGULATION (R99) -/

/-- A merge in the answer: last grant, free timer, holder, contenders in order of precedence. -/
def State.mergeAnswer (s : State) (m : Nat) : List Byte :=
  let a := s.arbiter m
  encClock a.lastGrant ++ encClock a.freeTimer ++ encHandle a.holder ++
    encList (sortBy (s.precedes m) (s.contenders m)) fun i => enc16 (s.runHandle i)

/-- LOOKUP_REGULATION (R99). -/
def settleLookupRegulation (_ : Req) (s : State) : Reply × State :=
  s.answer (enc8 s.drg.mode.code ++ enc8 s.lds.params.w ++ enc16 s.lds.params.tDep ++ enc16 s.drg.releasedCount ++
    encList ((ids 2).filter fun m => (s.mergeDef m).isSome) s.mergeAnswer)

/-! ## The commands -/

/-- HOLD_RUN. -/
def execHoldRun (r : Req) (s : State) : Host.Outcome State Fault Refusal :=
  .next (s.takeRequest .holdRun r (settleHoldRun r))

/-- UNHOLD_RUN. -/
def execUnholdRun (r : Req) (s : State) : Host.Outcome State Fault Refusal :=
  .next (s.takeRequest .unholdRun r (settleUnholdRun r))

/-- RELEASE_RUN. -/
def execReleaseRun (r : Req) (s : State) : Host.Outcome State Fault Refusal :=
  .next (s.takeRequest .releaseRun r (settleReleaseRun r))

/-- SET_REGULATION. -/
def execSetRegulation (r : Req) (s : State) : Host.Outcome State Fault Refusal :=
  .next (s.takeRequest .setRegulation r (settleSetRegulation r))

/-- LOOKUP_REGULATION. -/
def execLookupRegulation (r : Req) (s : State) : Host.Outcome State Fault Refusal :=
  .next (s.takeRequest .lookupRegulation r (settleLookupRegulation r))

/-- RELEASE_EVENT (R81): the expiry of a DWELLING run's release timer; nothing while it is not due. -/
def execReleaseEvent (slot : Nat) (s : State) : Host.Outcome State Fault Refusal :=
  .next <|
    match s.runAt slot with
    | some x => if x.state = .dwelling ∧ s.reached (s.reg slot).releaseTimer then (s.attempt slot).finish else s
    | none => s

/-- RETRY (R81, R84): a HELD run whose cause set has emptied. -/
def execRetry (slot : Nat) (s : State) : Host.Outcome State Fault Refusal :=
  .next <|
    match s.runAt slot with
    | some x => if x.state = .held ∧ x.causes = Causes.none then (s.attempt slot).finish else s
    | none => s

/-- The departure timeout of a RELEASED run (R86). -/
def State.timeout (s : State) (slot : Nat) : State :=
  let t := ((s.revoke slot).returnClaim slot).withdrawGrant slot
  let u := t.modReg slot fun x => { x with departureTimer := none, releaseSegment := none }
  (u.modRun slot fun x =>
    { x with state := .held, causes := { Causes.none with departureFailed := true } }).lowerReleased

/-- DEPARTURE_TIMEOUT (R86); nothing while the timer is not due. -/
def execDepartureTimeout (slot : Nat) (s : State) : Host.Outcome State Fault Refusal :=
  .next <|
    match s.runAt slot with
    | some x =>
      if x.state = .released ∧ s.reached (s.reg slot).departureTimer then
        ((s.timeout slot).serveLeft s).finish
      else s
    | none => s

/-- MERGE_FREE_TIMER_EXPIRY (R95, R96): a holder is chosen if there is none; nothing while the timer is not due. -/
def execMergeFreeTimerExpiry (merge : Nat) (s : State) : Host.Outcome State Fault Refusal :=
  .next <|
    if s.reached (s.arbiter merge).freeTimer then
      ((s.modArbiter merge fun a => { a with freeTimer := none }).chooseHolder merge).finish
    else s

end Sys2Proof.Machine
end

