-- ==== Sys2Proof/Machine/Traction.lean ====
section
/-! DEFINITION. The Traction Power Controller's requests, reports and timers (R100 to R125). -/

namespace Sys2Proof.Machine

/-! ## SET_WITHHOLD (R103) -/

/-- SET_WITHHOLD (R103). -/
def settleSetWithhold (r : Req) (s : State) : Reply × State :=
  let i := r.u8 0
  let w := r.u8 1
  if !s.inService then s.reply .badState
  else if i < 1 ∨ 8 < i ∨ 15 < w then s.reply .outOfRange
  else match s.sub i with
    | none => s.reply .notFound
    | some x =>
      if x.withheld = w then s.reply .noEffect
      else (Reply.just .ok, (s.modSub i fun y => { y with withheld := w }).serveSub i)

/-! ## ISOLATE_SECTION and ENERGISE_SECTION (R120, R121) -/

/-- An answer that carries a section's state (R120). -/
def State.isolateAnswer (s : State) (c : AnswerCode) (i : Nat) : Reply × State :=
  (⟨c, none, enc8 ((s.sec i).elim 0 fun x => x.state.code)⟩, s)

/-- ISOLATE_SECTION for a section of the locked description (R120). -/
def State.isolate (s : State) (i : Nat) : Reply × State :=
  if (s.sec i).any (·.manual) then s.isolateAnswer .noEffect i
  else ((s.modSec i fun x => { x with manual := true }).referenceAdded i).isolateAnswer .ok i

/-- ISOLATE_SECTION (R120). -/
def settleIsolateSection (r : Req) (s : State) : Reply × State :=
  thenServe s (s.withId r 16 (fun i => (s.sec i).isSome) s.isolate)

/-- An answer that carries a section's state and restriction references (R121). -/
def State.energiseAnswer (s : State) (c : AnswerCode) (i : Nat) : Reply × State :=
  (⟨c, none, (s.sec i).elim [] fun x => enc8 x.state.code ++ enc8 x.refs⟩, s)

/-- Orders a section's breaker closed (R121). -/
def State.close (s : State) (i : Nat) : State := (s.orderClose i).moveSection i .closing

/-- The action of ENERGISE_SECTION after the clearing of the manual isolation; `cleared` says whether it was set
(R121). A DRAINING section without references and a CLOSING one with them cannot occur. -/
def State.energiseAfter (s : State) (i : Nat) (cleared : Bool) : Reply × State :=
  match s.sec i with
  | none => s.energiseAnswer .notFound i
  | some x =>
    if 0 < x.refs then s.energiseAnswer .badState i
    else match x.state with
      | .unknown | .energised => s.energiseAnswer (if cleared then .ok else .noEffect) i
      | .draining => s.energiseAnswer .badState i
      | .opening => if x.unconfirmed then (s.close i).energiseAnswer .ok i else s.energiseAnswer .badState i
      | .isolated | .tripped => (s.close i).energiseAnswer .ok i
      | .closing => s.energiseAnswer .noEffect i

/-- ENERGISE_SECTION for a section of the locked description: first the manual isolation is cleared (R121). -/
def State.energise (s : State) (i : Nat) : Reply × State :=
  if (s.sec i).any (·.manual) then
    ((s.modSec i fun x => { x with manual := false }).referenceRemoved i).energiseAfter i true
  else s.energiseAfter i false

/-- ENERGISE_SECTION (R121). -/
def settleEnergiseSection (r : Req) (s : State) : Reply × State :=
  thenServe s (s.withId r 16 (fun i => (s.sec i).isSome) s.energise)

/-! ## Lookups (R124) -/

/-- A live claim in an answer about a substation. -/
def State.claimEntry (s : State) (slot : Nat) : List Byte :=
  match s.claim slot with
  | some c => enc16 (s.runHandle slot) ++ enc8 c.sec ++ enc8 c.cost ++ enc24 c.grantTime ++ encClock c.expiry
  | none => []

/-- The LOOKUP_SUBSTATION answer body. -/
def State.substationAnswer (s : State) (i : Nat) : List Byte :=
  match s.sub i with
  | some x =>
    enc8 (supplyCode x.state) ++ enc8 ((s.substationDef i).getD 0) ++ enc8 (s.effectiveCapacity i) ++
      enc8 x.withheld ++ enc8 x.inUse ++ enc8 (s.available i) ++
      encList ((ids 16).filter fun k => s.activeFeeder k == some i) enc8 ++
      encList ((ids 128).filter fun k => (s.claim k).any fun c => c.sub == i) s.claimEntry ++
      encList x.queue fun e => enc16 e.run ++ enc8 e.sec ++ enc8 e.cost ++ enc24 e.tRel
  | none => []

/-- LOOKUP_SUBSTATION (R124). -/
def settleLookupSubstation (r : Req) (s : State) : Reply × State :=
  s.withId r 8 (fun i => (s.sub i).isSome) fun i => s.answer (s.substationAnswer i)

/-- A live claim in an answer about a section. DESIGN CHOICE: R124 names no fields here; the run handle, then the five
fields of R105 in their order (log 48). -/
def State.sectionClaimEntry (s : State) (slot : Nat) : List Byte :=
  match s.claim slot with
  | some c =>
    enc16 (s.runHandle slot) ++ enc8 c.sub ++ enc8 c.sec ++ enc8 c.cost ++ enc24 c.grantTime ++ encClock c.expiry
  | none => []

/-- The LOOKUP_SECTION answer body. -/
def State.sectionAnswer (s : State) (i : Nat) : List Byte :=
  match s.sec i with
  | some x =>
    enc8 x.state.code ++ enc8 ((s.sectionDef i).elim 0 (·.primary)) ++
      enc8 (((s.sectionDef i).bind (·.secondary)).getD 0) ++ enc8 ((s.activeFeeder i).getD 0) ++
      encBool x.manual ++ enc8 x.refs ++ enc16 x.count ++ encClock x.drainTimer ++
      encClock (x.confirmTimer.map (·.1)) ++
      [(x.confirmTimer.map fun c => Config.awaitedCode c.2).getD Config.noAwaitedCode] ++ encBool x.unconfirmed ++
      encList (s.claimsOn i) s.sectionClaimEntry
  | none => []

/-- LOOKUP_SECTION (R124). -/
def settleLookupSection (r : Req) (s : State) : Reply × State :=
  s.withId r 16 (fun i => (s.sec i).isSome) fun i => s.answer (s.sectionAnswer i)

/-! ## SUBSTATION and BREAKER (R102, R116) -/

/-- Serves, ascending, the substations other than `i` whose wait queues differ between two states (R102, R113). -/
def State.serveMoved (v before after : State) (i : Nat) : State :=
  (ids 8).foldl (fun u k =>
    if k = i ∨ (before.sub k).map (·.queue) = (after.sub k).map (·.queue) then u else u.serveSub k) v

/-- A change of a substation's supply state: active feeders are formed again, waiting runs moved, queues served
(R102, R113). -/
def State.supplyChanged (s : State) (i : Nat) (st : SupplyState) : State :=
  let t := (s.modSub i fun x => { x with state := st }).switchFeeders s.drawings
  (t.serveSub i).serveMoved s t i

/-- Settles a SUBSTATION report (R102, R187). -/
def State.supplyReport (s : State) (i : Nat) (st : SupplyState) : State :=
  if (s.substationDef i).isNone then s.countUnmatched
  else match s.sub i with
    | none => s
    | some x => if x.state = st then s else s.supplyChanged i st

/-- A trip: the breaker of an ENERGISED section has opened without an order (R119). -/
def State.trip (s : State) (i : Nat) (x : SecLive) : State :=
  (s.forceOut i (if x.count = 0 then .tripped else .isolated)).requestAuto .trip (.ofSection i)

/-- OPEN reported for a section (R116, R117). -/
def State.breakerOpened (s : State) (i : Nat) (x : SecLive) : State :=
  match x.state with
  | .unknown => s.moveSection i .isolated
  | .energised => s.trip i x
  | .draining => (s.stopDrain i).forceOut i .isolated
  | .opening => (s.confirm i).moveSection i .isolated
  | .isolated | .closing | .tripped => s

/-- CLOSED reported for a section (R116). DESIGN CHOICE: an UNKNOWN section with references moves straight to DRAINING;
the ENERGISED that R116 names on the way is not handed to the regulator (log 51). -/
def State.breakerClosed (s : State) (i : Nat) (x : SecLive) : State :=
  match x.state with
  | .unknown => if x.count = 0 then s.moveSection i .energised else s.startDrain i
  | .isolated =>
    let t := s.moveSection i .energised
    if x.count = 0 then t else t.requestAuto .unexpectedEnergisation (.ofReferences i x.count)
  | .closing => (s.confirm i).moveSection i .energised
  | .tripped => s.moveSection i .energised
  | .energised | .draining | .opening => s

/-- A BREAKER report by its position (R116). -/
def State.breakerMoved (s : State) (i : Nat) (x : SecLive) : BreakerPos → State
  | .isOpen => s.breakerOpened i x
  | .isClosed => s.breakerClosed i x

/-- Settles a BREAKER report (R116, R187). -/
def State.breakerReport (s : State) (i : Nat) (pos : BreakerPos) : State :=
  if (s.sectionDef i).isNone then s.countUnmatched
  else match s.sec i with
    | none => s
    | some x => (s.breakerMoved i x pos).serveLeft s

/-- The drain timer of a DRAINING section has expired (R117). -/
def State.drainExpiry (s : State) (i : Nat) : State := ((s.stopDrain i).orderOpen i).forceOut i .opening

/-- The confirm timer of a section has expired (R118). -/
def State.confirmExpiry (s : State) (i : Nat) (awaited : BreakerOrder) : State :=
  (s.modSec i fun x => { x with confirmTimer := none, unconfirmed := true }).requestAuto .orderUnconfirmed
    (.ofOrder i awaited)

/-! ## The commands -/

/-- SET_WITHHOLD. -/
def execSetWithhold (r : Req) (s : State) : Host.Outcome State Fault Refusal :=
  .next (s.takeRequest .setWithhold r (settleSetWithhold r))

/-- ISOLATE_SECTION. -/
def execIsolateSection (r : Req) (s : State) : Host.Outcome State Fault Refusal :=
  .next (s.takeRequest .isolateSection r (settleIsolateSection r))

/-- ENERGISE_SECTION. -/
def execEnergiseSection (r : Req) (s : State) : Host.Outcome State Fault Refusal :=
  .next (s.takeRequest .energiseSection r (settleEnergiseSection r))

/-- LOOKUP_SUBSTATION. -/
def execLookupSubstation (r : Req) (s : State) : Host.Outcome State Fault Refusal :=
  .next (s.takeRequest .lookupSubstation r (settleLookupSubstation r))

/-- LOOKUP_SECTION. -/
def execLookupSection (r : Req) (s : State) : Host.Outcome State Fault Refusal :=
  .next (s.takeRequest .lookupSection r (settleLookupSection r))

/-- SUBSTATION (R102). -/
def execSubstation (sub : Byte) (st : SupplyState) (s : State) : Host.Outcome State Fault Refusal :=
  .next ((s.received 2).supplyReport sub.toNat st).finish

/-- BREAKER (R116). -/
def execBreaker (sec : Byte) (pos : BreakerPos) (s : State) : Host.Outcome State Fault Refusal :=
  .next ((s.received 2).breakerReport sec.toNat pos).finish

/-- CLAIM_TIMER_EXPIRY (R108): the claim is returned EXPIRED; nothing while the timer is not due. -/
def execClaimTimerExpiry (slot : Nat) (s : State) : Host.Outcome State Fault Refusal :=
  .next <|
    match s.claim slot with
    | some c => if s.reached c.expiry then ((s.returnClaim slot).serveLeft s).finish else s
    | none => s

/-- DRAIN_TIMER_EXPIRY (R117); nothing while the timer is not due. -/
def execDrainTimerExpiry (sec : Nat) (s : State) : Host.Outcome State Fault Refusal :=
  .next <|
    match s.sec sec with
    | some x => if x.state = .draining ∧ s.reached x.drainTimer then
        ((s.drainExpiry sec).serveLeft s).finish
      else s
    | none => s

/-- CONFIRM_TIMER_EXPIRY (R118); nothing while the timer is not due. -/
def execConfirmTimerExpiry (sec : Nat) (s : State) : Host.Outcome State Fault Refusal :=
  .next <|
    match s.sec sec with
    | some x =>
      match x.confirmTimer with
      | some (e, awaited) =>
        if (x.state = .opening ∨ x.state = .closing) ∧ e ≤ s.now then (s.confirmExpiry sec awaited).finish else s
      | none => s
    | none => s

end Sys2Proof.Machine
end

