-- ==== Sys2Proof/Machine/Incidents.lean ====
section
/-! DEFINITION. The Incident Table's requests and its escalation timer (R126 to R148). -/

namespace Sys2Proof.Machine

/-! ## Permissions -/

/-- Whether a role may add or lift a restriction of a kind (R135). -/
def Role.mayRestrict (r : Role) : RestrictionKind → Bool
  | .isolate => r == .power || r == .supervisor
  | .hold | .slow | .skip => r == .dispatch || r == .supervisor

/-- Whether a role may acknowledge, clear and retire an incident (R134, R141, R142). -/
def Incident.manages (i : Incident) (r : Role) : Bool := r == i.cls.role || r == .supervisor

/-! ## RAISE_INCIDENT (R130, R131) -/

/-- The first run of a list whose linked-incident list holds 4 handles. DESIGN CHOICE: where several named runs are full,
the first in body order is answered (R130, log 59). -/
def State.fullRun (s : State) (hs : List Nat) : Option Nat :=
  hs.find? fun h => (s.runOf h).any fun r => decide (4 ≤ r.incidents.length)

/-- Posts the announcement of a raise: the incident's list takes its handle before the channel is served. The answer is
the announcement status (R131 step 5). -/
def State.postForIncident (s : State) (slot : Nat) (x : AnnSpec) (owner : Owner) : State × AnswerCode :=
  match s.postRefusal x none with
  | some (c, _) => (s, c)
  | none =>
    match s.createAnn x owner (some (s.incHandle slot)) none with
    | (t, some h) => ((t.modInc slot fun i => { i with anns := h :: i.anns }).startAnn h, .ok)
    | (t, none) => (t, .full)

/-- Links a run, by its handle, to the incident in a slot. -/
def State.linkHandle (slot : Nat) (s : State) (h : Nat) : State :=
  match (s.resolveRun h).slot? with
  | some i => s.linkBoth slot i
  | none => s

/-- Makes the raise of a client's incident (R131): the new state and the announcement status. -/
def State.raise (s : State) (slot : Nat) (b : RaiseBody) (client : Nat) : State × AnswerCode :=
  let s₁ := s.raiseIn slot ⟨b.kind, b.severity, .client client, none, none, 1⟩
  let s₂ := b.restrictions.foldl (State.addRestriction slot) s₁
  let s₃ := b.runs.foldl (State.linkHandle slot) s₂
  match b.ann with
  | some x => s₃.postForIncident slot x (.client client)
  | none => (s₃, .ok)

/-- RAISE_INCIDENT before the service of the wait queues, in the order of R130's table, whose fourth row is the
resolution of the run handles: SETUP, the ranges (a run handle of 0 among them) and the role come before it. R31 would
resolve a handle before all of them and answer NO_EFFECT for 0, so the two rules cannot both hold. DEDUCED: the table of
the request itself is followed (log 46). -/
def State.settleRaise (s : State) (r : Req) : Reply × State :=
  if !s.inService then s.reply .badState
  else match r.raise with
    | none => s.reply .outOfRange
    | some b =>
      if !(b.ann.all s.timesInRange) then s.reply .outOfRange
      else if !(b.restrictions.all fun x => (s.roleOf r).mayRestrict x.kind) then s.reply .notPermitted
      else match s.unresolvedRun b.runs with
        | some (c, h) => s.replyHandle c h
        | none =>
          match s.fullRun b.runs with
          | some h => s.replyHandle .full h
          | none =>
            match s.freeInc with
            | none => s.reply .full
            | some i =>
              let x := s.raise i b r.from
              (⟨.ok, some (s.incHandle i),
                enc16 ((x.1.incAt i).elim 0 (·.number)) ++ enc8 x.2.code⟩, x.1)

/-- RAISE_INCIDENT (R130). -/
def settleRaiseIncident (r : Req) (s : State) : Reply × State := thenServe s (s.settleRaise r)

/-! ## ACK_INCIDENT and escalation (R133, R134) -/

/-- Takes an incident off its desk queue with a DESK notice (R132). -/
def State.offDesk (s : State) (slot desk : Nat) : State :=
  (s.leaveDesk desk (s.incHandle slot)).postDesk desk (s.incHandle slot)

/-- Acknowledges a RAISED incident (R134). -/
def State.acknowledge (s : State) (slot client desk : Nat) : State :=
  (s.modInc slot fun i => { i with state := .acknowledged, ackBy := some client, escalation := none }).offDesk slot
    desk

/-- ACK_INCIDENT for an incident that resolves. -/
def State.settleAck (s : State) (r : Req) (slot : Nat) (x : Incident) : Reply × State :=
  if !x.manages (s.roleOf r) then s.reply .notPermitted
  else match x.state with
    | .acknowledged => s.reply .noEffect
    | .cleared => s.reply .badState
    | .raised => (Reply.just .ok, s.acknowledge slot r.from x.desk)

/-- ACK_INCIDENT (R134). -/
def settleAckIncident (r : Req) (s : State) : Reply × State := s.withInc r (s.settleAck r)

/-- The escalation below severity 4: severity, timer and place in the queue (R133). -/
def State.escalate (s : State) (slot : Nat) (x : Incident) : State :=
  let h := s.incHandle slot
  let t := s.modInc slot fun i =>
    { i with severity := x.severity + 1, escalation := some (s.after (allowed (x.severity + 1))) }
  (t.placeOnDesk x.desk h).postDesk x.desk h

/-- The escalation at severity 4: the incident goes OVERDUE to its SUPERVISOR desk (R133). -/
def State.goOverdue (s : State) (slot : Nat) (x : Incident) : State :=
  let h := s.incHandle slot
  let d := s.deskFor .supervisor x.number
  let t := s.modInc slot fun i => { i with overdue := true, escalation := none, cls := .supervisor, desk := d }
  if d = x.desk then t.postDesk d h
  else (((t.leaveDesk x.desk h).postDesk x.desk h).placeOnDesk d h).postDesk d h

/-! ## ADD_RESTRICTION and LIFT_RESTRICTION (R135) -/

/-- ADD_RESTRICTION for an incident that resolves. -/
def State.settleAdd (s : State) (r : Req) (slot : Nat) (x : Incident) : Reply × State :=
  match r.restriction 0 with
  | none => s.reply .outOfRange
  | some spec =>
    if !(s.roleOf r).mayRestrict spec.kind then s.reply .notPermitted
    else if x.state = .cleared then s.reply .badState
    else match x.freeNumber with
      | none => s.reply .full
      | some n => (⟨.ok, none, enc8 n⟩, s.putInForce slot n spec)

/-- ADD_RESTRICTION (R135). -/
def settleAddRestriction (r : Req) (s : State) : Reply × State := thenServe s (s.withInc r (s.settleAdd r))

/-- LIFT_RESTRICTION for an incident that resolves. -/
def State.settleLift (s : State) (r : Req) (slot : Nat) (x : Incident) : Reply × State :=
  if r.u8 0 < 1 ∨ 4 < r.u8 0 then s.reply .outOfRange
  else match x.restrictions.find? fun y => y.number == r.u8 0 with
    | none => s.reply .noEffect
    | some y =>
      if !(s.roleOf r).mayRestrict y.spec.kind then s.reply .notPermitted
      else (Reply.just .ok, s.lift slot y)

/-- LIFT_RESTRICTION (R135). -/
def settleLiftRestriction (r : Req) (s : State) : Reply × State := thenServe s (s.withInc r (s.settleLift r))

/-! ## Links (R139, R140) -/

/-- LINK_RUN's LINK for an incident and a run that resolve. -/
def State.linkRun (s : State) (slot : Nat) (x : Incident) (runSlot : Nat) (run : Run) : Reply × State :=
  let h := s.runHandle runSlot
  if x.state = .cleared then s.reply .badState
  else if x.runs.contains h then s.reply .noEffect
  else if 4 ≤ x.runs.length then s.reply .full
  else if 4 ≤ run.incidents.length then s.replyHandle .full h
  else (Reply.just .ok, s.linkBoth slot runSlot)

/-- LINK_RUN's UNLINK for an incident and a run that resolve. -/
def State.unlinkRunFrom (s : State) (slot : Nat) (x : Incident) (runSlot : Nat) : Reply × State :=
  if x.runs.contains (s.runHandle runSlot) then (Reply.just .ok, s.unlinkBoth slot runSlot) else s.reply .noEffect

/-- LINK_RUN for an incident that resolves; the body is the run's handle and the action. DESIGN CHOICE: the answer for a
run handle that does not resolve carries the incident's handle (log 14). -/
def State.settleLinkRun (s : State) (r : Req) (slot : Nat) (x : Incident) : Reply × State :=
  let h := r.u16 0
  match (s.resolveRun h).refusal, (s.resolveRun h).slot?, readLink (r.u8 2) with
  | some c, _, _ => s.reply c
  | none, some i, some true =>
    match s.runAt i with
    | some run => s.linkRun slot x i run
    | none => s.reply .notFound
  | none, some i, some false => s.unlinkRunFrom slot x i
  | none, _, _ => s.reply .outOfRange

/-- LINK_RUN (R139). -/
def settleLinkRun (r : Req) (s : State) : Reply × State := s.withInc r (s.settleLinkRun r)

/-- LINK_ANNOUNCEMENT's LINK for an incident and an announcement that resolve. -/
def State.linkAnn (s : State) (slot : Nat) (x : Incident) (annSlot : Nat) (a : Announcement) : Reply × State :=
  let h := s.annHandle annSlot
  let hi := s.incHandle slot
  if x.state = .cleared then s.reply .badState
  else if x.anns.contains h then s.reply .noEffect
  else if a.linkedInc.isSome then s.reply .badState
  else if 4 ≤ x.anns.length then s.reply .full
  else (Reply.just .ok,
    (s.modInc slot fun i => { i with anns := i.anns ++ [h] }).modAnn annSlot fun y => { y with linkedInc := some hi })

/-- LINK_ANNOUNCEMENT's UNLINK for an incident and an announcement that resolve. -/
def State.unlinkAnnFrom (s : State) (slot : Nat) (x : Incident) (annSlot : Nat) : Reply × State :=
  let h := s.annHandle annSlot
  if x.anns.contains h then
    (Reply.just .ok, (s.modInc slot fun i => { i with anns := i.anns.filter (· != h) }).modAnn annSlot fun y =>
      { y with linkedInc := none })
  else s.reply .noEffect

/-- LINK_ANNOUNCEMENT for an incident that resolves; the body is the announcement's handle and the action. DESIGN
CHOICE: the answer for an announcement handle that does not resolve carries the incident's handle (log 14). -/
def State.settleLinkAnn (s : State) (r : Req) (slot : Nat) (x : Incident) : Reply × State :=
  let h := r.u16 0
  match (s.resolveAnn h).refusal, (s.resolveAnn h).slot?, readLink (r.u8 2) with
  | some c, _, _ => s.reply c
  | none, some i, some true =>
    match s.annAt i with
    | some a => s.linkAnn slot x i a
    | none => s.reply .notFound
  | none, some i, some false => s.unlinkAnnFrom slot x i
  | none, _, _ => s.reply .outOfRange

/-- LINK_ANNOUNCEMENT (R140). -/
def settleLinkAnnouncement (r : Req) (s : State) : Reply × State := s.withInc r (s.settleLinkAnn r)

/-! ## CLEAR_INCIDENT and RETIRE_INCIDENT (R141, R142) -/

/-- Clears an incident (R141). -/
def State.clear (s : State) (slot : Nat) (x : Incident) : State :=
  let s₁ := if x.state = .raised then (s.modInc slot fun i => { i with escalation := none }).offDesk slot x.desk else s
  let s₂ := x.restrictions.foldl (State.lift slot) s₁
  let s₃ := s₂.withdrawAll ((s₂.incAt slot).elim [] (·.anns))
  s₃.modInc slot fun i => { i with state := .cleared }

/-- CLEAR_INCIDENT for an incident that resolves. -/
def State.settleClear (s : State) (r : Req) (slot : Nat) (x : Incident) : Reply × State :=
  if !x.manages (s.roleOf r) then s.reply .notPermitted
  else if x.state = .cleared then s.reply .noEffect
  else (Reply.just .ok, s.clear slot x)

/-- CLEAR_INCIDENT (R141). -/
def settleClearIncident (r : Req) (s : State) : Reply × State := thenServe s (s.withInc r (s.settleClear r))

/-- Removes an incident from the linked-incident list of a run, by the run's handle. -/
def State.forgetIncident (h : Nat) (s : State) (run : Nat) : State :=
  match (s.resolveRun run).slot? with
  | some i => s.modRun i fun r => { r with incidents := r.incidents.filter (· != h) }
  | none => s

/-- Retires a CLEARED incident; the freed slot is taken by a pending raise, if any (R142). -/
def State.retireIncident (s : State) (slot : Nat) (x : Incident) : State :=
  ((x.runs.foldl (State.forgetIncident (s.incHandle slot)) s).retireIncSlot slot).raisePending slot

/-- RETIRE_INCIDENT for an incident that resolves. -/
def State.settleRetireInc (s : State) (r : Req) (slot : Nat) (x : Incident) : Reply × State :=
  if !x.manages (s.roleOf r) then s.reply .notPermitted
  else if x.state ≠ .cleared then s.reply .badState
  else (Reply.just .ok, s.retireIncident slot x)

/-- RETIRE_INCIDENT (R142). -/
def settleRetireIncident (r : Req) (s : State) : Reply × State := s.withInc r (s.settleRetireInc r)

/-! ## Lookups (R146) -/

/-- The detail of an automatic incident in an answer: its fields in the order of R143; one byte 0 where there is none
(R196; the width is log 33's choice). -/
def encDetail : AutoDetail → List Byte
  | .ofSection sec => enc8 sec
  | .ofOrder sec awaited => enc8 sec ++ [Config.awaitedCode awaited]
  | .ofReferences sec count => enc8 sec ++ enc16 count
  | .ofConflict run tp kind => enc16 run ++ enc8 tp ++ enc8 kind.code
  | .nothing => enc8 0

/-- A restriction in an answer. -/
def encRestriction (x : Restriction) : List Byte :=
  enc8 x.number ++ enc8 x.spec.kind.code ++ enc16 x.spec.lo ++ enc16 x.spec.hi ++ enc8 x.spec.dir.code ++
    enc16 x.spec.percent

/-- The LOOKUP_INCIDENT answer body. An absent detail or acknowledging client is 0 (R192, R196). -/
def incidentBody (x : Incident) : List Byte :=
  enc16 x.number ++ enc8 x.kind.index ++
    [(x.auto.map fun c => (BitVec.ofNat 8 c.code : Byte)).getD Config.absentCode] ++ encDetail (x.detail.getD .nothing) ++
    enc16 x.count ++ enc8 x.severity ++ enc8 x.state.code ++ encOwner x.source ++ enc24 x.raisedAt ++
    enc8 (x.ackBy.getD 0) ++ enc8 x.cls.code ++ enc8 x.desk ++ encClock x.escalation ++ encBool x.overdue ++
    encList x.restrictions encRestriction ++ encList x.runs enc16 ++ encList x.anns enc16

/-- LOOKUP_INCIDENT (R146). -/
def settleLookupIncident (r : Req) (s : State) : Reply × State :=
  match ((s.resolveInc r.principal).slot?).bind s.incAt with
  | none => s.reply (s.resolveInc r.principal).lookupRefusal
  | some x => s.answer (incidentBody x)

/-- An entry of a desk queue in an answer. -/
def State.deskEntry (s : State) (h : Nat) : List Byte :=
  match ((s.resolveInc h).slot?).bind s.incAt with
  | some x =>
    enc16 h ++ enc16 x.number ++ enc8 x.kind.index ++ enc8 x.severity ++ enc24 x.raisedAt ++ encBool x.overdue
  | none => enc16 h

/-- LOOKUP_DESK (R146). -/
def settleLookupDesk (r : Req) (s : State) : Reply × State :=
  if 7 < r.u8 0 then s.reply .outOfRange
  else s.answer (encList (s.desk (r.u8 0)) s.deskEntry ++ enc8 (deskSet fun d => !(s.desk d).isEmpty))

/-! ## The commands -/

/-- RAISE_INCIDENT. -/
def execRaiseIncident (r : Req) (s : State) : Host.Outcome State Fault Refusal :=
  .next (s.takeRequest .raiseIncident r (settleRaiseIncident r))

/-- ACK_INCIDENT. -/
def execAckIncident (r : Req) (s : State) : Host.Outcome State Fault Refusal :=
  .next (s.takeRequest .ackIncident r (settleAckIncident r))

/-- ADD_RESTRICTION. -/
def execAddRestriction (r : Req) (s : State) : Host.Outcome State Fault Refusal :=
  .next (s.takeRequest .addRestriction r (settleAddRestriction r))

/-- LIFT_RESTRICTION. -/
def execLiftRestriction (r : Req) (s : State) : Host.Outcome State Fault Refusal :=
  .next (s.takeRequest .liftRestriction r (settleLiftRestriction r))

/-- LINK_RUN. -/
def execLinkRun (r : Req) (s : State) : Host.Outcome State Fault Refusal :=
  .next (s.takeRequest .linkRun r (settleLinkRun r))

/-- LINK_ANNOUNCEMENT. -/
def execLinkAnnouncement (r : Req) (s : State) : Host.Outcome State Fault Refusal :=
  .next (s.takeRequest .linkAnnouncement r (settleLinkAnnouncement r))

/-- CLEAR_INCIDENT. -/
def execClearIncident (r : Req) (s : State) : Host.Outcome State Fault Refusal :=
  .next (s.takeRequest .clearIncident r (settleClearIncident r))

/-- RETIRE_INCIDENT. -/
def execRetireIncident (r : Req) (s : State) : Host.Outcome State Fault Refusal :=
  .next (s.takeRequest .retireIncident r (settleRetireIncident r))

/-- LOOKUP_INCIDENT. -/
def execLookupIncident (r : Req) (s : State) : Host.Outcome State Fault Refusal :=
  .next (s.takeRequest .lookupIncident r (settleLookupIncident r))

/-- LOOKUP_DESK. -/
def execLookupDesk (r : Req) (s : State) : Host.Outcome State Fault Refusal :=
  .next (s.takeRequest .lookupDesk r (settleLookupDesk r))

/-- ESCALATION_TIMER_EXPIRY (R133); nothing while the timer is not due. -/
def execEscalationTimerExpiry (slot : Nat) (s : State) : Host.Outcome State Fault Refusal :=
  .next <|
    match s.incAt slot with
    | some x =>
      if x.state = .raised ∧ s.reached x.escalation then
        (if x.severity < 4 then s.escalate slot x else s.goOverdue slot x).finish
      else s
    | none => s

end Sys2Proof.Machine
end

