-- ==== Sys2Proof/Machine/Passenger.lean ====
section
/-! DEFINITION. The Passenger Information Unit's requests, the reports of the public-address controllers, and its timers
(R149 to R172). -/

namespace Sys2Proof.Machine

/-! ## POST_ANNOUNCEMENT and WITHDRAW_ANNOUNCEMENT (R152, R153, R167) -/

/-- Makes a client's post that nothing refuses. -/
def State.post (s : State) (x : AnnSpec) (client : Nat) (run : Option Nat) : Reply × State :=
  match s.createAnn x (.client client) none run with
  | (t, some h) => (⟨.ok, some h, []⟩, t.startAnn h)
  | (t, none) => t.reply .full

/-- POST_ANNOUNCEMENT in the order of R152's table, whose third row is the resolution of the run handles: SETUP and the
ranges come before it, and a target of neither groups nor a run handle is out of range. R31 would resolve a handle before
both, so the two rules cannot both hold. DEDUCED: the table of the request itself is followed (log 46). -/
def settlePostAnnouncement (r : Req) (s : State) : Reply × State :=
  if !s.inService then s.reply .badState
  else match r.post with
    | none => s.reply .outOfRange
    | some (x, run) =>
      match s.postRefusal x run with
      | some (c, h) => (⟨c, h, []⟩, s)
      | none => s.post x r.from run

/-- Whether a client may withdraw an announcement (R167). -/
def Announcement.withdrawable (a : Announcement) (client : Nat) (role : Role) : Bool :=
  a.owner == .client client || role == .information || role == .supervisor

/-- WITHDRAW_ANNOUNCEMENT for an announcement that resolves. -/
def State.settleWithdraw (s : State) (r : Req) (slot : Nat) (a : Announcement) : Reply × State :=
  if a.withdrawable r.from (s.roleOf r) then (Reply.just .ok, s.endAndServe slot .withdrawn)
  else s.reply .notPermitted

/-- WITHDRAW_ANNOUNCEMENT (R167). -/
def settleWithdrawAnnouncement (r : Req) (s : State) : Reply × State := s.withAnn r (s.settleWithdraw r)

/-! ## The class map and the channels (R154 to R157, R163) -/

/-- Whether a live announcement has a class. -/
def State.classLive (s : State) (c : Nat) : Bool := s.liveAnns.any fun x => x.2.spec.cls == c

/-- SET_CLASS_MAP (R154); the body is the class and the channel. -/
def settleSetClassMap (r : Req) (s : State) : Reply × State :=
  match within 1 6 (r.u8 0), within 0 3 (r.u8 1) with
  | some k, some c =>
    let old := (get0 s.piu.classMap k).getD 0
    if c = old then s.reply .noEffect
    else if (s.chan old).state ≠ .disabled ∨ (s.chan c).state ≠ .disabled then s.reply .badState
    else if s.classLive k then s.reply .badState
    else (Reply.just .ok, s.onPiu fun p => { p with classMap := mod0 p.classMap k fun _ => c })
  | _, _ => s.reply .outOfRange

/-- Sets the state of a channel. -/
def State.setChan (s : State) (c : Nat) (x : ChanState) : State := s.modChan c fun ch => { ch with state := x }

/-- A PENDING channel becomes READY: the window is emptied and the channel served (R157). -/
def State.makeReady (s : State) (c : Nat) : State :=
  (s.modChan c fun ch => { ch with state := .ready, consumer := ch.producer }).serveChannel c

/-- ENABLE_CHANNEL (R156). -/
def settleEnableChannel (r : Req) (s : State) : Reply × State :=
  let c := r.u8 0
  if 3 < c then s.reply .outOfRange
  else if !s.inService then s.reply .badState
  else match (s.chan c).state with
    | .disabled =>
      let t := s.setChan c .pending
      (Reply.just .ok, if (s.chan c).lastStatus = some .ready then t.makeReady c else t)
    | .halting => (Reply.just .ok, (s.setChan c .ready).serveChannel c)
    | .pending | .ready => s.reply .noEffect

/-- DISABLE_CHANNEL (R156). -/
def settleDisableChannel (r : Req) (s : State) : Reply × State :=
  let c := r.u8 0
  let ch := s.chan c
  if 3 < c then s.reply .outOfRange
  else match ch.state with
    | .ready =>
      (Reply.just .ok, s.setChan c (if ch.onAir = none ∧ ch.occupancy = 0 then .disabled else .halting))
    | .pending => (Reply.just .ok, s.setChan c .disabled)
    | .halting | .disabled => s.reply .noEffect

/-- SET_CHANNEL_POLICY (R163). -/
def settleSetChannelPolicy (r : Req) (s : State) : Reply × State :=
  match within 0 3 (r.u8 0), WindowPolicy.ofCode (r.u8 1) with
  | some c, some p =>
    if (s.chan c).policy = p then s.reply .noEffect
    else (Reply.just .ok, (s.modChan c fun ch => { ch with policy := p }).serveChannel c)
  | _, _ => s.reply .outOfRange

/-! ## Zone levels (R160) -/

/-- The two stored levels of a zone. -/
def State.zone (s : State) (z : Nat) : ZoneLevels := (get1 s.piu.zones z).getD ⟨.none, .none⟩

/-- SET_ZONE_BLOCK (R160). -/
def settleSetZoneBlock (r : Req) (s : State) : Reply × State :=
  match within 1 32 (r.u8 0), BlockLevel.ofCode (r.u8 1) with
  | some z, some l =>
    if (s.zone z).set = l then s.reply .noEffect
    else (Reply.just .ok, s.onPiu fun p => { p with zones := mod1 p.zones z fun x => { x with set := l } })
  | _, _ => s.reply .outOfRange

/-! ## Lookups (R172) -/

/-- The target of an announcement in an answer: the zone groups, then the run, as a request carries them (log 11). -/
def encTarget : Target → List Byte
  | .groups gs => encList gs enc8 ++ enc16 0
  | .followRun h => encList [] enc8 ++ enc16 h

/-- The LOOKUP_ANNOUNCEMENT answer body: the fields of R150 in order, the handle standing in the header. -/
def announcementBody (a : Announcement) : List Byte :=
  encList a.spec.phrases enc16 ++ enc8 a.spec.cls ++ encTarget a.spec.target ++ enc8 a.channel ++
    enc16 a.spec.repeatCount ++ enc8 a.spec.interval ++ encClock a.spec.start ++ encClock a.spec.expiry ++
    encOwner a.owner ++ encHandle a.linkedInc ++ encHandle a.linkedRun ++ enc8 a.state.code ++ enc8 a.remaining ++
    encClock a.due ++ encClock a.nextDue ++ enc8 (a.token.getD 0)

/-- LOOKUP_ANNOUNCEMENT (R149, R172). -/
def settleLookupAnnouncement (r : Req) (s : State) : Reply × State :=
  match s.annOf r.principal with
  | none => s.reply (s.resolveAnn r.principal).lookupRefusal
  | some a => s.answer (announcementBody a)

/-- An entry of a channel queue in an answer: handle, class and due time. -/
def State.annEntry (s : State) (h : Nat) : List Byte :=
  enc16 h ++ enc8 (s.annClass h) ++ encClock ((s.annOf h).bind (·.due))

/-- The on-air announcement in an answer: handle, class and token, all 0 for an empty slot. -/
def State.onAirEntry (s : State) (h : Option Nat) : List Byte :=
  encHandle h ++ enc8 (h.elim 0 s.annClass) ++ enc8 ((h.bind s.annOf).elim 0 fun a => a.token.getD 0)

/-- The LOOKUP_CHANNEL answer body. -/
def State.channelBody (s : State) (ch : Channel) : List Byte :=
  enc8 ch.state.code ++ [ch.lastStatus.elim Config.absentCode fun x => BitVec.ofNat 8 (paStatusCode x)] ++
    enc8 ch.policy.code ++ encBool ch.deferred ++ enc16 ch.producer.toNat ++ enc16 ch.consumer.toNat ++
    enc8 ch.occupancy ++ enc8 ch.nextToken ++ s.onAirEntry ch.onAir ++ encList ch.stack enc16 ++
    encList ch.queue s.annEntry ++ s.piu.classMap.toList.flatMap enc8

/-- LOOKUP_CHANNEL (R172). -/
def settleLookupChannel (r : Req) (s : State) : Reply × State :=
  if 3 < r.u8 0 then s.reply .outOfRange else s.answer (s.channelBody (s.chan (r.u8 0)))

/-- The set, derived and effective level of a zone in an answer. -/
def ZoneLevels.entry (z : ZoneLevels) : List Byte := enc8 z.set.code ++ enc8 z.derived.code ++ enc8 z.effective.code

/-- LOOKUP_ZONES (R172). DESIGN CHOICE: the three levels of the 32 zones stand without a list count (log 33). -/
def settleLookupZones (_ : Req) (s : State) : Reply × State :=
  s.answer (s.piu.zones.toList.flatMap ZoneLevels.entry)

/-- A board line in an answer. -/
def BoardLine.entry (l : BoardLine) : List Byte :=
  enc16 (l.run.getD 0) ++ enc8 (l.minutes.getD 255) ++ encBool l.delay ++ encBool l.notStopping

/-- LOOKUP_BOARD (R172). -/
def settleLookupBoard (r : Req) (s : State) : Reply × State :=
  s.withId r 32 (fun p => (look s.piu.boards p).isSome) fun p =>
    match look s.piu.boards p with
    | some b => s.answer (b.line1.entry ++ b.line2.entry)
    | none => s.reply .notFound

/-! ## Reports of the public-address controllers (R157, R158, R165, R187) -/

/-- The on-air announcement returns to the queue without a CUT entry, its due time unchanged (R157). -/
def State.returnOnAir (s : State) (c : Nat) : State :=
  match (s.chan c).onAir with
  | none => s
  | some h =>
    (s.modChan c fun ch => { ch with onAir := none }).enqueue h c (((s.annOf h).bind (·.due)).getD 0)

/-- A READY report, by the channel's state (R157). -/
def State.reportReady (s : State) (c : Nat) : State :=
  match (s.chan c).state with
  | .pending => s.makeReady c
  | .disabled | .ready | .halting => s

/-- A NOT_READY report, by the channel's state (R157). -/
def State.reportNotReady (s : State) (c : Nat) : State :=
  match (s.chan c).state with
  | .ready => (s.setChan c .pending).returnOnAir c
  | .halting => (s.setChan c .disabled).returnOnAir c
  | .disabled | .pending => s

/-- A PA_STATUS report for a channel 0..3 (R157). -/
def State.settlePaStatus (s : State) (c : Nat) (x : PaStatus) : State :=
  let t := s.modChan c fun ch => { ch with lastStatus := some x }
  match x with
  | .ready => t.reportReady c
  | .notReady => t.reportNotReady c

/-- The slot of the announcement on air on a channel, if its output token is the one reported (R165). -/
def State.onAirWith (s : State) (c token : Nat) : Option Nat :=
  (s.chan c).onAir.bind fun h =>
    if ((s.annOf h).bind (·.token)) = some token then (s.resolveAnn h).slot? else none

/-- A PA_DONE report for a channel 0..3 (R165). -/
def State.settlePaDone (s : State) (c token : Nat) : State :=
  match s.onAirWith c token with
  | none => s.countUnmatched
  | some i => ((s.modChan c fun ch => { ch with onAir := none }).occurrenceDone i).serveOrHalt c

/-- A PA_TAKEN report for a channel 0..3 (R158). -/
def State.settlePaTaken (s : State) (c : Nat) (count : Half) : State :=
  let ch := s.chan c
  let advance := (count - ch.consumer).toNat
  if ch.occupancy < advance then s.countUnmatched
  else if advance = 0 then s
  else (s.modChan c fun x => { x with consumer := count }).serveOrHalt c

/-! ## Timers (R153, R165, R166) -/

/-- A SCHEDULED or RESTING announcement becomes QUEUED, due at its timer's expiry value, and its channel is served. -/
def State.becomeDue (s : State) (slot : Nat) (a : Announcement) : State :=
  (s.enqueue (s.annHandle slot) a.channel (a.nextDue.getD 0)).serveChannel a.channel

/-! ## The commands -/

/-- POST_ANNOUNCEMENT. -/
def execPostAnnouncement (r : Req) (s : State) : Host.Outcome State Fault Refusal :=
  .next (s.takeRequest .postAnnouncement r (settlePostAnnouncement r))

/-- WITHDRAW_ANNOUNCEMENT. -/
def execWithdrawAnnouncement (r : Req) (s : State) : Host.Outcome State Fault Refusal :=
  .next (s.takeRequest .withdrawAnnouncement r (settleWithdrawAnnouncement r))

/-- SET_CLASS_MAP. -/
def execSetClassMap (r : Req) (s : State) : Host.Outcome State Fault Refusal :=
  .next (s.takeRequest .setClassMap r (settleSetClassMap r))

/-- ENABLE_CHANNEL. -/
def execEnableChannel (r : Req) (s : State) : Host.Outcome State Fault Refusal :=
  .next (s.takeRequest .enableChannel r (settleEnableChannel r))

/-- DISABLE_CHANNEL. -/
def execDisableChannel (r : Req) (s : State) : Host.Outcome State Fault Refusal :=
  .next (s.takeRequest .disableChannel r (settleDisableChannel r))

/-- SET_CHANNEL_POLICY. -/
def execSetChannelPolicy (r : Req) (s : State) : Host.Outcome State Fault Refusal :=
  .next (s.takeRequest .setChannelPolicy r (settleSetChannelPolicy r))

/-- SET_ZONE_BLOCK. -/
def execSetZoneBlock (r : Req) (s : State) : Host.Outcome State Fault Refusal :=
  .next (s.takeRequest .setZoneBlock r (settleSetZoneBlock r))

/-- LOOKUP_ANNOUNCEMENT. -/
def execLookupAnnouncement (r : Req) (s : State) : Host.Outcome State Fault Refusal :=
  .next (s.takeRequest .lookupAnnouncement r (settleLookupAnnouncement r))

/-- LOOKUP_CHANNEL. -/
def execLookupChannel (r : Req) (s : State) : Host.Outcome State Fault Refusal :=
  .next (s.takeRequest .lookupChannel r (settleLookupChannel r))

/-- LOOKUP_ZONES. -/
def execLookupZones (r : Req) (s : State) : Host.Outcome State Fault Refusal :=
  .next (s.takeRequest .lookupZones r (settleLookupZones r))

/-- LOOKUP_BOARD. -/
def execLookupBoard (r : Req) (s : State) : Host.Outcome State Fault Refusal :=
  .next (s.takeRequest .lookupBoard r (settleLookupBoard r))

/-- PA_STATUS; a channel outside 0..3 is unmatched (R187). -/
def execPaStatus (channel : Byte) (st : PaStatus) (s : State) : Host.Outcome State Fault Refusal :=
  .next ((if 3 < channel.toNat then (s.received 2).countUnmatched
    else (s.received 2).settlePaStatus channel.toNat st).finish)

/-- PA_DONE; a channel outside 0..3 is unmatched (R187). -/
def execPaDone (channel : Byte) (token : Byte) (s : State) : Host.Outcome State Fault Refusal :=
  .next ((if 3 < channel.toNat then (s.received 2).countUnmatched
    else (s.received 2).settlePaDone channel.toNat token.toNat).finish)

/-- PA_TAKEN; a channel outside 0..3 is unmatched (R187). -/
def execPaTaken (channel : Byte) (count : Half) (s : State) : Host.Outcome State Fault Refusal :=
  .next ((if 3 < channel.toNat then (s.received 3).countUnmatched
    else (s.received 3).settlePaTaken channel.toNat count).finish)

/-- START_TIMER_EXPIRY (R153); nothing while the timer is not due. -/
def execStartTimerExpiry (slot : Nat) (s : State) : Host.Outcome State Fault Refusal :=
  .next <|
    match s.annAt slot with
    | some a => if a.state = .scheduled ∧ s.reached a.nextDue then (s.becomeDue slot a).finish else s
    | none => s

/-- REPEAT_TIMER_EXPIRY (R165); nothing while the timer is not due. -/
def execRepeatTimerExpiry (slot : Nat) (s : State) : Host.Outcome State Fault Refusal :=
  .next <|
    match s.annAt slot with
    | some a => if a.state = .resting ∧ s.reached a.nextDue then (s.becomeDue slot a).finish else s
    | none => s

/-- ANNOUNCEMENT_EXPIRY (R166); nothing while the timer is not due. -/
def execAnnouncementExpiry (slot : Nat) (s : State) : Host.Outcome State Fault Refusal :=
  .next <|
    match s.annAt slot with
    | some a => if s.reached a.expiryTimer then (s.endAndServe slot .expired).finish else s
    | none => s

end Sys2Proof.Machine
end

