-- ==== Sys2Proof/Machine/Port.lean ====
section
/-! DEFINITION. The Control Room Port's own commands: LINE_STATUS, a request with a header that cannot be read, the
writes of its registers, the port reset, the writing of a notice (R173 to R184), and power-on. -/

namespace Sys2Proof.Machine

/-! ## LINE_STATUS (R184) -/

/-- The last rollover in an answer: its cause, whose code is free (log 13), and its clock value (R29). -/
def encRollover : Option (RolloverCause × Nat) → List Byte
  | some (c, t) => Config.rolloverCode c :: encClock (some t)
  | none => Config.noRolloverCode :: encClock none

/-- The clock fields (R29): clock value, day number, band in force (0 while the table is unwritten), last rollover. -/
def State.clockFields (s : State) : List Byte :=
  enc24 s.now ++ enc16 s.lck.day ++ enc8 (s.lds.bands.elim 0 fun b => b.inForce s.now) ++ encRollover s.lck.lastRollover

/-- The port's fields: last reset cause, ring fault mark and cause. -/
def Crp.statusFields (c : Crp) : List Byte :=
  enc8 c.lastReset.code ++ encBool c.ringFault.isSome ++ enc8 (ringFaultCode c.ringFault)

/-- The entries of the pending set with their auto causes (R144). DESIGN CHOICE: ascending by cause code, which neither
R144 nor R184 states (log 33). -/
def Itb.pendingEntries (t : Itb) : List (AutoCause × PendingRaise) :=
  AutoCause.all.filterMap fun c => (look t.pendingSet c.code).map fun x => (c, x)

/-- The notice-lost marks of clients 0..7 in one byte: client `c`'s mark is bit `c` (log 33). -/
def Crp.lostMarks (c : Crp) : Nat := deskSet fun i => (get0 c.notices i).any (·.lost)

/-- The LINE_STATUS answer body. -/
def State.statusBody (s : State) : List Byte :=
  enc8 s.lds.mode.code ++ s.clockFields ++ enc8 s.drg.mode.code ++ enc16 s.drg.releasedCount ++
    encBool s.mvt.stale ++ s.crp.statusFields ++ enc16 s.fli.badFrames ++ enc16 s.fli.unmatched ++
    encList s.itb.pendingEntries (fun x => enc8 x.1.code ++ encDetail x.2.detail ++ enc16 x.2.count) ++
    enc8 s.crp.lostMarks

/-- Clears a client's notice-lost mark. -/
def State.clearLost (s : State) (client : Nat) : State :=
  s.onCrp fun c => { c with notices := mod0 c.notices client fun x => { x with lost := false } }

/-- LINE_STATUS (R184): the answer is formed before the requester's mark is cleared. -/
def settleLineStatus (r : Req) (s : State) : Reply × State := (⟨.ok, none, s.statusBody⟩, s.clearLost r.from)

/-! ## A request that cannot be read (R176) -/

/-- Whether the header of a request is refused MALFORMED: tag 0, an unknown kind, or a client outside 0..7. -/
def malformed (kind : Byte) (r : Req) : Bool :=
  r.tag == 0 || kind == 0 || decide (lastRequestCode < kind.toNat) || decide (7 < r.client.toNat)

/-- Takes a request whose header cannot be read: it is answered MALFORMED with its header fields back (R175, R178). -/
def State.takeMalformed (s : State) (kind : Byte) (r : Req) : State :=
  if s.canTake && malformed kind r then
    (s.recordRequest kind.toNat r).writeAnswer
      (answerBytes kind.toNat r AnswerCode.malformed.code r.principal [])
  else s

/-! ## Writes of the port's registers (R174, R183) -/

/-- A write of the request producer: accepted when its advance is at most the free slots. -/
def Crp.writeRequestProducer (c : Crp) (v : Half) : Crp :=
  if (v - c.reqProd).toNat ≤ c.reqFree then { c with reqProd := v }
  else { c with ringFault := some .requestProducer }

/-- A write of the answer consumer: accepted when its advance is at most the occupancy. -/
def Crp.writeAnswerConsumer (c : Crp) (v : Half) : Crp :=
  if (v - c.ansCons).toNat ≤ c.ansOccupancy then { c with ansCons := v }
  else { c with ringFault := some .answerConsumer }

/-- The port reset (R183). The rings' memory is not among what it clears (log 4). -/
def Crp.portReset (c : Crp) : Crp :=
  { c with
    reqProd := 0, reqCons := 0, ansProd := 0, ansCons := 0
    ringFault := none
    lastReset := .port
    notices := Vector.replicate 8 ⟨[], false⟩
    rotation := 7 }

/-! ## Writing a notice (R181) -/

/-- The clients in the order in which the rotation searches them, from the one after its position. -/
def Crp.searchOrder (c : Crp) : List Nat := (List.range 8).map fun i => (c.rotation + 1 + i) % 8

/-- The next notice: the head pair of the first client with a non-empty list. -/
def Crp.nextNotice (c : Crp) : Option (Nat × Notice) :=
  c.searchOrder.findSome? fun i => ((get0 c.notices i).bind fun x => x.list.head?).map fun n => (i, n)

/-- Writes the next notice when at least 4 answer slots are free and some list is not empty. -/
def Crp.writeNotice (c : Crp) : Crp :=
  if 4 ≤ c.ansFree then
    match c.nextNotice with
    | some (i, n) =>
      { c with
        answerRing := Memory.writeSlot c.answerRing (ringSlot c.ansProd) (noticeBytes i n)
        ansProd := c.ansProd + 1
        notices := mod0 c.notices i fun x => { x with list := x.list.drop 1 }
        rotation := i }
    | none => c
  else c

/-! ## The commands -/

/-- LINE_STATUS. -/
def execLineStatus (r : Req) (s : State) : Host.Outcome State Fault Refusal :=
  .next (s.takeRequest .lineStatus r (settleLineStatus r))

/-- MALFORMED_REQUEST; a request with a header that can be read is no such event (log 39). -/
def execMalformedRequest (kind : Byte) (r : Req) (s : State) : Host.Outcome State Fault Refusal :=
  .next (s.takeMalformed kind r)

/-- REQUEST_PRODUCER_WRITE (R174). -/
def execRequestProducerWrite (v : Half) (s : State) : Host.Outcome State Fault Refusal :=
  .next (s.onCrp (·.writeRequestProducer v))

/-- ANSWER_CONSUMER_WRITE (R174). -/
def execAnswerConsumerWrite (v : Half) (s : State) : Host.Outcome State Fault Refusal :=
  .next (s.onCrp (·.writeAnswerConsumer v))

/-- PORT_RESET (R183). -/
def execPortReset (s : State) : Host.Outcome State Fault Refusal := .next (s.onCrp Crp.portReset)

/-- DISCARDED_REGISTER_WRITE: a write of one of the part's own indices (R174), or of a value other than PORT_RESET to
the port control register (R183, log 32), changes nothing. -/
def execDiscardedRegisterWrite (_ : DiscardedWrite) (s : State) : Host.Outcome State Fault Refusal := .next s

/-- NOTICE_WRITE (R181). -/
def execNoticeWrite (s : State) : Host.Outcome State Fault Refusal := .next (s.onCrp Crp.writeNotice)

/-- POWER_ON: every record takes its value at power-on; the commands that wait are kept (log 31). -/
def execPowerOn (s : State) : Host.Outcome State Fault Refusal := .next { State.reset with pending := s.pending }

end Sys2Proof.Machine
end

