-- ==== Sys2Proof/Machine/Dispatch.lean ====
section
/-! DEFINITION. The dispatch: one arm per command, each one call of the command's meaning. -/

namespace Sys2Proof.Machine

/-- The effect of a command on everything but the queue. -/
def exec (i : Instr) (s : State) : Host.Outcome State Fault Refusal :=
  match i with
  | .defineTimingPoint r => Sys2Proof.Machine.execDefineTimingPoint r s
  | .defineSegment r => Sys2Proof.Machine.execDefineSegment r s
  | .defineRoute r => Sys2Proof.Machine.execDefineRoute r s
  | .defineMerge r => Sys2Proof.Machine.execDefineMerge r s
  | .defineSubstation r => Sys2Proof.Machine.execDefineSubstation r s
  | .defineSection r => Sys2Proof.Machine.execDefineSection r s
  | .defineTrainClass r => Sys2Proof.Machine.execDefineTrainClass r s
  | .defineZoneGroup r => Sys2Proof.Machine.execDefineZoneGroup r s
  | .defineDeskClass r => Sys2Proof.Machine.execDefineDeskClass r s
  | .mapIncidentKind r => Sys2Proof.Machine.execMapIncidentKind r s
  | .defineClient r => Sys2Proof.Machine.execDefineClient r s
  | .setLineParameter r => Sys2Proof.Machine.execSetLineParameter r s
  | .defineHeadwayBands r => Sys2Proof.Machine.execDefineHeadwayBands r s
  | .enterService r => Sys2Proof.Machine.execEnterService r s
  | .returnToSetup r => Sys2Proof.Machine.execReturnToSetup r s
  | .lookupLine r => Sys2Proof.Machine.execLookupLine r s
  | .setClock r => Sys2Proof.Machine.execSetClock r s
  | .endDay r => Sys2Proof.Machine.execEndDay r s
  | .loadRun r => Sys2Proof.Machine.execLoadRun r s
  | .amendRun r => Sys2Proof.Machine.execAmendRun r s
  | .cancelRun r => Sys2Proof.Machine.execCancelRun r s
  | .retireRun r => Sys2Proof.Machine.execRetireRun r s
  | .lookupRun r => Sys2Proof.Machine.execLookupRun r s
  | .findRun r => Sys2Proof.Machine.execFindRun r s
  | .lookupCounters r => Sys2Proof.Machine.execLookupCounters r s
  | .clearCounters r => Sys2Proof.Machine.execClearCounters r s
  | .lookupPoint r => Sys2Proof.Machine.execLookupPoint r s
  | .lookupSegment r => Sys2Proof.Machine.execLookupSegment r s
  | .holdRun r => Sys2Proof.Machine.execHoldRun r s
  | .unholdRun r => Sys2Proof.Machine.execUnholdRun r s
  | .releaseRun r => Sys2Proof.Machine.execReleaseRun r s
  | .setRegulation r => Sys2Proof.Machine.execSetRegulation r s
  | .lookupRegulation r => Sys2Proof.Machine.execLookupRegulation r s
  | .setWithhold r => Sys2Proof.Machine.execSetWithhold r s
  | .isolateSection r => Sys2Proof.Machine.execIsolateSection r s
  | .energiseSection r => Sys2Proof.Machine.execEnergiseSection r s
  | .lookupSubstation r => Sys2Proof.Machine.execLookupSubstation r s
  | .lookupSection r => Sys2Proof.Machine.execLookupSection r s
  | .raiseIncident r => Sys2Proof.Machine.execRaiseIncident r s
  | .ackIncident r => Sys2Proof.Machine.execAckIncident r s
  | .addRestriction r => Sys2Proof.Machine.execAddRestriction r s
  | .liftRestriction r => Sys2Proof.Machine.execLiftRestriction r s
  | .linkRun r => Sys2Proof.Machine.execLinkRun r s
  | .linkAnnouncement r => Sys2Proof.Machine.execLinkAnnouncement r s
  | .clearIncident r => Sys2Proof.Machine.execClearIncident r s
  | .retireIncident r => Sys2Proof.Machine.execRetireIncident r s
  | .lookupIncident r => Sys2Proof.Machine.execLookupIncident r s
  | .lookupDesk r => Sys2Proof.Machine.execLookupDesk r s
  | .postAnnouncement r => Sys2Proof.Machine.execPostAnnouncement r s
  | .withdrawAnnouncement r => Sys2Proof.Machine.execWithdrawAnnouncement r s
  | .setClassMap r => Sys2Proof.Machine.execSetClassMap r s
  | .enableChannel r => Sys2Proof.Machine.execEnableChannel r s
  | .disableChannel r => Sys2Proof.Machine.execDisableChannel r s
  | .setChannelPolicy r => Sys2Proof.Machine.execSetChannelPolicy r s
  | .setZoneBlock r => Sys2Proof.Machine.execSetZoneBlock r s
  | .lookupAnnouncement r => Sys2Proof.Machine.execLookupAnnouncement r s
  | .lookupChannel r => Sys2Proof.Machine.execLookupChannel r s
  | .lookupZones r => Sys2Proof.Machine.execLookupZones r s
  | .lookupBoard r => Sys2Proof.Machine.execLookupBoard r s
  | .lineStatus r => Sys2Proof.Machine.execLineStatus r s
  | .malformedRequest kind r => Sys2Proof.Machine.execMalformedRequest kind r s
  | .arrived run point => Sys2Proof.Machine.execArrived run point s
  | .departed run point => Sys2Proof.Machine.execDeparted run point s
  | .passed run point => Sys2Proof.Machine.execPassed run point s
  | .breaker section_ pos => Sys2Proof.Machine.execBreaker section_ pos s
  | .substation sub st => Sys2Proof.Machine.execSubstation sub st s
  | .paStatus channel st => Sys2Proof.Machine.execPaStatus channel st s
  | .paDone channel token => Sys2Proof.Machine.execPaDone channel token s
  | .paTaken channel count => Sys2Proof.Machine.execPaTaken channel count s
  | .badFrame bytes => Sys2Proof.Machine.execBadFrame bytes s
  | .requestProducerWrite value => Sys2Proof.Machine.execRequestProducerWrite value s
  | .answerConsumerWrite value => Sys2Proof.Machine.execAnswerConsumerWrite value s
  | .portReset => Sys2Proof.Machine.execPortReset s
  | .discardedRegisterWrite w => Sys2Proof.Machine.execDiscardedRegisterWrite w s
  | .powerOn => Sys2Proof.Machine.execPowerOn s
  | .minuteBoundary => Sys2Proof.Machine.execMinuteBoundary s
  | .clockEnd => Sys2Proof.Machine.execClockEnd s
  | .placementTimerExpiry slot => Sys2Proof.Machine.execPlacementTimerExpiry slot s
  | .releaseEvent slot => Sys2Proof.Machine.execReleaseEvent slot s
  | .retry slot => Sys2Proof.Machine.execRetry slot s
  | .departureTimeout slot => Sys2Proof.Machine.execDepartureTimeout slot s
  | .mergeFreeTimerExpiry merge => Sys2Proof.Machine.execMergeFreeTimerExpiry merge s
  | .describerStaleTimerExpiry => Sys2Proof.Machine.execDescriberStaleTimerExpiry s
  | .claimTimerExpiry slot => Sys2Proof.Machine.execClaimTimerExpiry slot s
  | .drainTimerExpiry section_ => Sys2Proof.Machine.execDrainTimerExpiry section_ s
  | .confirmTimerExpiry section_ => Sys2Proof.Machine.execConfirmTimerExpiry section_ s
  | .escalationTimerExpiry slot => Sys2Proof.Machine.execEscalationTimerExpiry slot s
  | .startTimerExpiry slot => Sys2Proof.Machine.execStartTimerExpiry slot s
  | .repeatTimerExpiry slot => Sys2Proof.Machine.execRepeatTimerExpiry slot s
  | .announcementExpiry slot => Sys2Proof.Machine.execAnnouncementExpiry slot s
  | .noticeWrite => Sys2Proof.Machine.execNoticeWrite s
  | .frameTransmitEnd => Sys2Proof.Machine.execFrameTransmitEnd s
  | .skipMarkingOnLoad slot => Sys2Proof.Machine.execSkipMarkingOnLoad slot s
  | .clockAdvance => Sys2Proof.Machine.execClockAdvance s

end Sys2Proof.Machine
end

