-- ==== Sys2Proof/WellFormed.lean ====
section
/-! DEFINITION. The operands that a command can have: what a ring slot, a field frame and the part's tables can
carry. A meaning is total, so an operand outside these bounds stops nothing. -/

namespace Sys2Proof

/-- A request's body fits the slot: bytes 6 to 255 (R194). -/
def Req.wf (r : Req) : Prop := r.body.length ≤ Config.bodyBytes

/-- A slot number of a table of `n` records numbered from 1. -/
def slotWf (n slot : Nat) : Prop := 1 ≤ slot ∧ slot ≤ n

/-- The bytes of a bad frame after its start code: kind, length, at most 63 body bytes and two check bytes (R185). -/
def badFrameWf (bytes : List Byte) : Prop := 2 ≤ bytes.length ∧ bytes.length ≤ 67

/-- The header of a request that cannot be read: tag 0, a kind outside 1..60, or a client outside 0..7 (R176). -/
def headerUnreadable (kind : Byte) (r : Req) : Prop := r.tag = 0 ∨ kind = 0 ∨ 60 < kind.toNat ∨ 7 < r.client.toNat

/-- The operands a command can have. -/
def WellFormed : Instr → Prop
  | .defineTimingPoint r => r.wf
  | .defineSegment r => r.wf
  | .defineRoute r => r.wf
  | .defineMerge r => r.wf
  | .defineSubstation r => r.wf
  | .defineSection r => r.wf
  | .defineTrainClass r => r.wf
  | .defineZoneGroup r => r.wf
  | .defineDeskClass r => r.wf
  | .mapIncidentKind r => r.wf
  | .defineClient r => r.wf
  | .setLineParameter r => r.wf
  | .defineHeadwayBands r => r.wf
  | .enterService r => r.wf
  | .returnToSetup r => r.wf
  | .lookupLine r => r.wf
  | .setClock r => r.wf
  | .endDay r => r.wf
  | .loadRun r => r.wf
  | .amendRun r => r.wf
  | .cancelRun r => r.wf
  | .retireRun r => r.wf
  | .lookupRun r => r.wf
  | .findRun r => r.wf
  | .lookupCounters r => r.wf
  | .clearCounters r => r.wf
  | .lookupPoint r => r.wf
  | .lookupSegment r => r.wf
  | .holdRun r => r.wf
  | .unholdRun r => r.wf
  | .releaseRun r => r.wf
  | .setRegulation r => r.wf
  | .lookupRegulation r => r.wf
  | .setWithhold r => r.wf
  | .isolateSection r => r.wf
  | .energiseSection r => r.wf
  | .lookupSubstation r => r.wf
  | .lookupSection r => r.wf
  | .raiseIncident r => r.wf
  | .ackIncident r => r.wf
  | .addRestriction r => r.wf
  | .liftRestriction r => r.wf
  | .linkRun r => r.wf
  | .linkAnnouncement r => r.wf
  | .clearIncident r => r.wf
  | .retireIncident r => r.wf
  | .lookupIncident r => r.wf
  | .lookupDesk r => r.wf
  | .postAnnouncement r => r.wf
  | .withdrawAnnouncement r => r.wf
  | .setClassMap r => r.wf
  | .enableChannel r => r.wf
  | .disableChannel r => r.wf
  | .setChannelPolicy r => r.wf
  | .setZoneBlock r => r.wf
  | .lookupAnnouncement r => r.wf
  | .lookupChannel r => r.wf
  | .lookupZones r => r.wf
  | .lookupBoard r => r.wf
  | .lineStatus r => r.wf
  | .malformedRequest kind r => r.wf ∧ headerUnreadable kind r
  | .arrived _ _ => True
  | .departed _ _ => True
  | .passed _ _ => True
  | .breaker _ _ => True
  | .substation _ _ => True
  | .paStatus _ _ => True
  | .paDone _ _ => True
  | .paTaken _ _ => True
  | .badFrame bytes => badFrameWf bytes
  | .requestProducerWrite _ => True
  | .answerConsumerWrite _ => True
  | .portReset => True
  | .discardedRegisterWrite w =>
    match w with
    | .requestConsumer _ => True
    | .answerProducer _ => True
    | .portControlOther _ => True
  | .powerOn => True
  | .minuteBoundary => True
  | .clockEnd => True
  | .placementTimerExpiry slot => slotWf 128 slot
  | .releaseEvent slot => slotWf 128 slot
  | .retry slot => slotWf 128 slot
  | .departureTimeout slot => slotWf 128 slot
  | .mergeFreeTimerExpiry merge => slotWf 2 merge
  | .describerStaleTimerExpiry => True
  | .claimTimerExpiry slot => slotWf 128 slot
  | .drainTimerExpiry sec => slotWf 16 sec
  | .confirmTimerExpiry sec => slotWf 16 sec
  | .escalationTimerExpiry slot => slotWf 48 slot
  | .startTimerExpiry slot => slotWf 96 slot
  | .repeatTimerExpiry slot => slotWf 96 slot
  | .announcementExpiry slot => slotWf 96 slot
  | .noticeWrite => True
  | .frameTransmitEnd => True
  | .skipMarkingOnLoad slot => slotWf 128 slot
  | .clockAdvance => True

end Sys2Proof
end

