-- ==== Sys2Proof/Safety.lean ====
section
/-! DEFINITION. The terms in which claims about the part are made: when a request reaches its owner, what the port does
with it, and the bounds that the spec gives parts of the state. No command stops the part, so a safe run is one that
keeps these bounds. -/

namespace Sys2Proof

open Machine

/-! ## Requests -/

/-- The kind and the slot contents of a request command with a known kind. -/
def Instr.request? : Instr → Option (ReqKind × Req)
  | .defineTimingPoint r => some (.defineTimingPoint, r)
  | .defineSegment r => some (.defineSegment, r)
  | .defineRoute r => some (.defineRoute, r)
  | .defineMerge r => some (.defineMerge, r)
  | .defineSubstation r => some (.defineSubstation, r)
  | .defineSection r => some (.defineSection, r)
  | .defineTrainClass r => some (.defineTrainClass, r)
  | .defineZoneGroup r => some (.defineZoneGroup, r)
  | .defineDeskClass r => some (.defineDeskClass, r)
  | .mapIncidentKind r => some (.mapIncidentKind, r)
  | .defineClient r => some (.defineClient, r)
  | .setLineParameter r => some (.setLineParameter, r)
  | .defineHeadwayBands r => some (.defineHeadwayBands, r)
  | .enterService r => some (.enterService, r)
  | .returnToSetup r => some (.returnToSetup, r)
  | .lookupLine r => some (.lookupLine, r)
  | .setClock r => some (.setClock, r)
  | .endDay r => some (.endDay, r)
  | .loadRun r => some (.loadRun, r)
  | .amendRun r => some (.amendRun, r)
  | .cancelRun r => some (.cancelRun, r)
  | .retireRun r => some (.retireRun, r)
  | .lookupRun r => some (.lookupRun, r)
  | .findRun r => some (.findRun, r)
  | .lookupCounters r => some (.lookupCounters, r)
  | .clearCounters r => some (.clearCounters, r)
  | .lookupPoint r => some (.lookupPoint, r)
  | .lookupSegment r => some (.lookupSegment, r)
  | .holdRun r => some (.holdRun, r)
  | .unholdRun r => some (.unholdRun, r)
  | .releaseRun r => some (.releaseRun, r)
  | .setRegulation r => some (.setRegulation, r)
  | .lookupRegulation r => some (.lookupRegulation, r)
  | .setWithhold r => some (.setWithhold, r)
  | .isolateSection r => some (.isolateSection, r)
  | .energiseSection r => some (.energiseSection, r)
  | .lookupSubstation r => some (.lookupSubstation, r)
  | .lookupSection r => some (.lookupSection, r)
  | .raiseIncident r => some (.raiseIncident, r)
  | .ackIncident r => some (.ackIncident, r)
  | .addRestriction r => some (.addRestriction, r)
  | .liftRestriction r => some (.liftRestriction, r)
  | .linkRun r => some (.linkRun, r)
  | .linkAnnouncement r => some (.linkAnnouncement, r)
  | .clearIncident r => some (.clearIncident, r)
  | .retireIncident r => some (.retireIncident, r)
  | .lookupIncident r => some (.lookupIncident, r)
  | .lookupDesk r => some (.lookupDesk, r)
  | .postAnnouncement r => some (.postAnnouncement, r)
  | .withdrawAnnouncement r => some (.withdrawAnnouncement, r)
  | .setClassMap r => some (.setClassMap, r)
  | .enableChannel r => some (.enableChannel, r)
  | .disableChannel r => some (.disableChannel, r)
  | .setChannelPolicy r => some (.setChannelPolicy, r)
  | .setZoneBlock r => some (.setZoneBlock, r)
  | .lookupAnnouncement r => some (.lookupAnnouncement, r)
  | .lookupChannel r => some (.lookupChannel, r)
  | .lookupZones r => some (.lookupZones, r)
  | .lookupBoard r => some (.lookupBoard, r)
  | .lineStatus r => some (.lineStatus, r)
  | .malformedRequest _ _ | .arrived _ _ | .departed _ _ | .passed _ _ | .breaker _ _ | .substation _ _ => none
  | .paStatus _ _ | .paDone _ _ | .paTaken _ _ | .badFrame _ | .requestProducerWrite _ => none
  | .answerConsumerWrite _ | .portReset | .discardedRegisterWrite _ | .powerOn | .minuteBoundary | .clockEnd => none
  | .placementTimerExpiry _ | .releaseEvent _ | .retry _ | .departureTimeout _ | .mergeFreeTimerExpiry _ => none
  | .describerStaleTimerExpiry | .claimTimerExpiry _ | .drainTimerExpiry _ | .confirmTimerExpiry _ => none
  | .escalationTimerExpiry _ | .startTimerExpiry _ | .repeatTimerExpiry _ | .announcementExpiry _ => none
  | .noticeWrite | .frameTransmitEnd | .skipMarkingOnLoad _ | .clockAdvance => none

/-- A request is taken and passes the port's checks, so that it reaches its owner (R175, R176). -/
def Passes (s : State) (k : ReqKind) (r : Req) : Prop := s.canTake = true ∧ s.portRefusal (some k) r = none

/-- The port after it has taken a request and written an answer: both slots written, the answer producer and the
request consumer one further (R175). -/
def exchanged (c : Crp) (request answer : List Byte) : Crp :=
  { c with
    requestRing := Memory.writeSlot c.requestRing (ringSlot c.reqCons) request
    answerRing := Memory.writeSlot c.answerRing (ringSlot c.ansProd) answer
    ansProd := c.ansProd + 1
    reqCons := c.reqCons + 1 }

/-- The state after an event that only takes a request and answers it; a frame begins if the line is free. -/
def answered (s : State) (k : ReqKind) (r : Req) (code : AnswerCode) (h : Nat) (body : List Byte) : State :=
  { s with
    crp := exchanged s.crp (requestBytes k.code r) (answerBytes k.code r code.code h body)
    fli := s.fli.startFrame }

/-- One exchange at the port: the request recorded, the answer written, both indices one further, and the rest of the
port as it was but for the pending notices (R175, R178). -/
def Answers (s t : State) (k : ReqKind) (r : Req) (code : AnswerCode) (h : Nat) (body : List Byte) : Prop :=
  ∃ notices, t.crp =
    { exchanged s.crp (requestBytes k.code r) (answerBytes k.code r code.code h body) with notices := notices }

/-- What the work of most events leaves alone: the description, the clock, the waiting commands, the receiver and the
bad-frame counter. -/
def Steady (s t : State) : Prop :=
  t.lds = s.lds ∧ t.lck = s.lck ∧ t.pending = s.pending ∧ t.fli.rx = s.fli.rx ∧ t.fli.badFrames = s.fli.badFrames

/-- What a field report with a body of `len` bytes leaves alone: the description, the clock, the waiting commands, the
port but for its pending notices, and the bad-frame counter; the receiver hunts on behind the frame. -/
def SteadyReport (len : Nat) (s t : State) : Prop :=
  t.lds = s.lds ∧ t.lck = s.lck ∧ t.pending = s.pending ∧ (∃ notices, t.crp = { s.crp with notices := notices }) ∧
    t.fli.rx = (s.fli.received len).rx ∧ t.fli.badFrames = s.fli.badFrames

/-- What the event of a timer leaves alone: the description, the clock, the waiting commands, the port but for its
pending notices, the receiver and the bad-frame counter. -/
def SteadyTimer (s t : State) : Prop := Steady s t ∧ ∃ notices, t.crp = { s.crp with notices := notices }

/-- An event creates the orders of a list in one stream, in this order: they join the stream's queue, whose head may
have gone onto a free line at the end of the event (R189). -/
def Created (s t : State) (st : Stream) (l : List Order) : Prop :=
  t.fli.queue st = s.fli.queue st ++ l ∨
    (s.fli.sending = none ∧ ∃ o, s.fli.queue st ++ l = o :: t.fli.queue st ∧ t.fli.sending = some o.frame)

/-- The clients that a notice is for, by their number and their entry (R179). -/
abbrev Recipients := Nat → Client → Bool

/-- Every client. -/
def everyClient : Recipients := fun _ _ => true

/-- The clients of the roles of a list. -/
def ofRole (roles : List Role) : Recipients := fun _ x => roles.contains x.role

/-- The clients that watch a desk. -/
def watching (desk : Nat) : Recipients := fun _ x => x.desk == some desk

/-- The client that owns a record; nobody where the part itself owns it. -/
def ownedBy (o : Owner) : Recipients := fun k _ => o == .client k

/-- An event posts the notices of a list, in this order, each to the configured clients among its recipients, and posts
no other: every client's pending list is what it was, joined by those of the notices that are for the client (R179,
R180). -/
def Posted (s t : State) (l : List (Notice × Recipients)) : Prop :=
  ∀ k x, get0 s.lds.clients k = some x → get0 t.crp.notices k = (get0 s.crp.notices k).map fun c =>
    l.foldl (fun c n => if x.configured && n.2 k x then c.join n.1 else c) c

/-- The notice of the horizon watch at a count: TIMETABLE_LOW to the DISPATCH clients where the count lies below the
low-water mark and the watch is armed (R50, R179). -/
def Machine.State.timetableNotice (s : State) (armed : Bool) (count : Nat) : List (Notice × Recipients) :=
  if count < s.lds.params.lwm ∧ armed = true then [(⟨.timetableLow, 0, count⟩, ofRole [.dispatch])] else []

/-- The HALTED notice to the DISPATCH and SUPERVISOR clients (R94, R179). -/
def haltedNotice : Notice × Recipients := (⟨.halted, 0, 0⟩, ofRole [.dispatch, .supervisor])

/-- The DESK notice of an incident to the watchers of a desk (R132, R179). -/
def deskNotice (h desk : Nat) : Notice × Recipients := (⟨.desk, h, desk⟩, watching desk)

/-- The ENDED notice of an announcement to the client that owns it (R151, R179). -/
def endedNotice (h : Nat) (a : Announcement) (why : EndReason) : Notice × Recipients :=
  (⟨.ended, h, why.code⟩, ownedBy a.owner)

/-- The LINE_EVENT notice to every client (R179). -/
def lineNotice (e : LineEvent) : Notice × Recipients := (⟨.lineEvent, 0, e.detail⟩, everyClient)

/-- No board is marked for re-evaluation: the state between two events (log 6). -/
def BetweenEvents (s : State) : Prop := s.piu.dirty = []

/-- The run in a slot waits in no substation's queue. -/
def WaitsNowhere (s : State) (slot : Nat) : Prop :=
  ∀ k x, s.sub k = some x → ∀ e ∈ x.queue, e.run ≠ s.runHandle slot

/-- No run waits for credits at any substation. -/
def NobodyWaits (s : State) : Prop := ∀ k x, s.sub k = some x → x.queue = []

/-- The permission table of R177, row by row: request kinds, and the roles that pass the port's role check. -/
def permissionTable : List (List ReqKind × List Role) :=
  [([.defineTimingPoint, .defineSegment, .defineRoute, .defineMerge, .defineSubstation, .defineSection,
      .defineTrainClass, .defineZoneGroup, .defineDeskClass, .defineClient, .mapIncidentKind, .defineHeadwayBands,
      .enterService, .returnToSetup, .setClock], [.supervisor]),
   ([.setLineParameter], [.supervisor]),
   ([.endDay, .clearCounters, .setRegulation], [.dispatch, .supervisor]),
   ([.loadRun, .amendRun, .cancelRun, .retireRun, .holdRun, .unholdRun, .releaseRun], [.dispatch]),
   ([.setWithhold], [.power]),
   ([.isolateSection, .energiseSection], [.power, .supervisor]),
   ([.raiseIncident, .ackIncident, .clearIncident, .retireIncident, .linkRun, .linkAnnouncement],
    [.dispatch, .power, .information, .supervisor]),
   ([.addRestriction, .liftRestriction], [.dispatch, .power, .supervisor]),
   ([.postAnnouncement], [.dispatch, .information, .supervisor]),
   ([.withdrawAnnouncement], [.dispatch, .power, .information, .supervisor]),
   ([.setClassMap, .enableChannel, .disableChannel, .setChannelPolicy, .setZoneBlock], [.information, .supervisor]),
   ([.lookupLine, .lookupRun, .findRun, .lookupCounters, .lookupPoint, .lookupSegment, .lookupRegulation,
      .lookupSubstation, .lookupSection, .lookupIncident, .lookupDesk, .lookupAnnouncement, .lookupChannel,
      .lookupZones, .lookupBoard, .lineStatus], [.dispatch, .power, .information, .supervisor, .view])]

/-- The kinds taken under setup access (R176). -/
def setupKinds : List ReqKind :=
  [.defineTimingPoint, .defineSegment, .defineRoute, .defineMerge, .defineSubstation, .defineSection,
    .defineTrainClass, .defineZoneGroup, .defineDeskClass, .defineClient, .mapIncidentKind, .setLineParameter,
    .defineHeadwayBands, .enterService, .setClock, .lookupLine, .lineStatus]

/-- A table of live records as the resolution of a handle sees it: how many slots, which are live, and the present
handle of each (R31, R127, R149). -/
structure HandleTable where
  slots  : Nat
  live   : Nat → Bool
  handle : Nat → Nat

/-- The runs as a handle table (R31). -/
def Machine.State.runTable (s : State) : HandleTable := ⟨128, fun i => (s.runAt i).isSome, s.runHandle⟩

/-- The incidents as a handle table (R127). -/
def Machine.State.incTable (s : State) : HandleTable := ⟨48, fun i => (s.incAt i).isSome, s.incHandle⟩

/-- The announcements as a handle table (R149). -/
def Machine.State.annTable (s : State) : HandleTable := ⟨96, fun i => (s.annAt i).isSome, s.annHandle⟩

/-- What a request that changes a record is answered for a handle that does not resolve (R31, R127, R149). -/
def HandleTable.refuses (x : HandleTable) (h : Nat) : AnswerCode → Prop
  | .noEffect => h = 0
  | .notFound => h ≠ 0 ∧ (h % 256 = 0 ∨ x.slots < h % 256 ∨ x.live (h % 256) = false)
  | .stale => x.live (h % 256) = true ∧ x.handle (h % 256) ≠ h
  | _ => False

/-- The table in which a request that changes a record resolves its principal handle. -/
def Machine.State.principalTable (s : State) : ReqKind → Option HandleTable
  | .amendRun | .cancelRun | .retireRun | .holdRun | .unholdRun | .releaseRun => some s.runTable
  | .ackIncident | .addRestriction | .liftRestriction | .linkRun | .linkAnnouncement => some s.incTable
  | .clearIncident | .retireIncident => some s.incTable
  | .withdrawAnnouncement => some s.annTable
  | _ => none

/-! ## Bounds -/

/-- At most 32 requests wait and at most 32 answers are unread (R173). -/
def RingsSound (c : Crp) : Prop := c.reqOccupancy ≤ Config.ringSlots ∧ c.ansOccupancy ≤ Config.ringSlots

/-- Both rings' memories are in canonical form (log 4). -/
def RingMemoryWf (c : Crp) : Prop := Memory.wf c.requestRing = true ∧ Memory.wf c.answerRing = true

/-- A pending list holds no pair twice and at most 16 pairs (R180). -/
def NoticeListSound (l : List Notice) : Prop :=
  l.length ≤ 16 ∧ l.Pairwise fun a b => ¬(a.kind = b.kind ∧ a.handle = b.handle)

/-- Every pending list is sound, and the rotation position is a client (R180, R181). -/
def NoticesSound (c : Crp) : Prop := (∀ i x, get0 c.notices i = some x → NoticeListSound x.list) ∧ c.rotation ≤ 7

/-- The bounds that the spec gives the port. -/
def PortSound (s : State) : Prop := RingMemoryWf s.crp ∧ RingsSound s.crp ∧ NoticesSound s.crp

/-- The clock stands below the end of the service day, and the day number has 16 bits (R18, R27). -/
def ClockSound (s : State) : Prop := s.lck.clock ≤ lastSecond ∧ s.lck.day < 65536

/-- No segment queue holds more than 8 runs (R55); a merge's order list holds at most 8, none twice (R56). -/
def TrackBounds (s : State) : Prop :=
  (∀ g, (s.seg g).queue.length ≤ 8) ∧ ∀ m, (s.mergeList m).length ≤ 8 ∧ (s.mergeList m).Nodup

/-- A channel's resume stack holds at most 4; its window holds at most 16 entries while an announcement is on air, and
one CUT more behind its end; the next token is 1..255 (R155, R158, R162, R164). -/
def ChannelBounds (s : State) : Prop :=
  ∀ c x, get0 s.piu.channels c = some x →
    x.stack.length ≤ 4 ∧ x.occupancy ≤ 17 ∧ (x.onAir ≠ none → x.occupancy ≤ 16) ∧ 1 ≤ x.nextToken ∧ x.nextToken ≤ 255

/-- A desk's queue holds exactly the RAISED incidents of that desk, none twice (R132). In SETUP no incident is live, no
section has a record and the describer stale timer is stopped (R16, R71, R114, R147). -/
def DeskQueues (s : State) : Prop :=
  (∀ d, d < 8 → (s.desk d).Nodup ∧ ∀ h, h ∈ s.desk d ↔
    ∃ i x, s.incAt i = some x ∧ x.desk = d ∧ x.state = .raised ∧ h = s.incHandle i) ∧
    (s.inService = false → (∀ i, s.incAt i = none) ∧ (∀ k, s.sec k = none) ∧ s.mvt.staleTimer = none)

/-- Every desk queue stands in its order: severity descending, raise time ascending, incident number ascending (R132).
-/
def DeskOrder (s : State) : Prop :=
  ∀ d, (s.desk d).Pairwise fun a b => ∀ i j x y, s.resolveInc a = .live i → s.incAt i = some x →
    s.resolveInc b = .live j → s.incAt j = some y →
    y.severity < x.severity ∨ (x.severity = y.severity ∧
      (x.raisedAt < y.raisedAt ∨ (x.raisedAt = y.raisedAt ∧ x.number ≤ y.number)))

/-- Every entry of a substation's wait queue names a live run that is HELD for POWER alone; no run waits twice (R106,
R111). -/
def WaitingRuns (s : State) : Prop :=
  (∀ k z, s.sub k = some z → (z.queue.map (·.run)).Nodup ∧ ∀ e ∈ z.queue, ∃ i x,
    s.resolveRun e.run = .live i ∧ s.runAt i = some x ∧ x.state = .held ∧ x.causes = Causes.onlyPower) ∧
    ∀ k l y z, s.sub k = some y → s.sub l = some z → ∀ a ∈ y.queue, ∀ b ∈ z.queue, a.run = b.run → k = l

/-- The live claims are those of RELEASED and RUNNING runs, which show them; a substation's credits in use are the sum
of the costs of its live claims; in SETUP no run is live (R16, R105). -/
def Credits (s : State) : Prop :=
  (∀ i c, s.claim i = some c → ∃ x, s.runAt i = some x ∧ (x.state = .released ∨ x.state = .running)) ∧
    (∀ i x, s.runAt i = some x → (x.claimPresent = true ↔ s.claim i ≠ none)) ∧
    (∀ k z, s.sub k = some z →
      z.inUse = ((ids 128).map fun i => match s.claim i with
        | some c => if c.sub = k then c.cost else 0
        | none => 0).sum) ∧
    (s.inService = false → ∀ i, s.runAt i = none)

/-- Run numbers are 1..9999 and no two live runs share one (R32, R35); the released count is the number of RELEASED runs
(R75); a run in a segment queue is RUNNING, or CANCELLED on the track, and stands in one queue only, once (R55). -/
def RunTableSound (s : State) : Prop :=
  (∀ i x, s.runAt i = some x → 1 ≤ x.number ∧ x.number ≤ 9999) ∧
    (∀ i j x y, s.runAt i = some x → s.runAt j = some y → x.number = y.number → i = j) ∧
    s.drg.releasedCount = ((ids 128).filter fun i => (s.runAt i).any fun x => x.state == .released).length ∧
    (∀ g, (s.seg g).queue.Nodup ∧ ∀ h ∈ (s.seg g).queue, ∃ i x, s.resolveRun h = .live i ∧ s.runAt i = some x ∧
      (x.state = .running ∨ x.state = .cancelled)) ∧
    (∀ g k h, h ∈ (s.seg g).queue → h ∈ (s.seg k).queue → g = k) ∧
    (s.inService = false → ∀ i, s.runAt i = none)

/-- The links of runs and incidents agree: each handle of an incident's list names a live run whose list holds the
incident, and the other way round; a list holds at most 4 handles, none twice (R32, R46, R128, R139). -/
def LinksAgree (s : State) : Prop :=
  (∀ i x, s.incAt i = some x → x.runs.length ≤ 4 ∧ x.runs.Nodup ∧ ∀ h ∈ x.runs, ∃ j y, s.resolveRun h = .live j ∧
    s.runAt j = some y ∧ s.incHandle i ∈ y.incidents) ∧
    ∀ j y, s.runAt j = some y → y.incidents.length ≤ 4 ∧ y.incidents.Nodup ∧ ∀ h ∈ y.incidents, ∃ i x,
      s.resolveInc h = .live i ∧ s.incAt i = some x ∧ s.runHandle j ∈ x.runs

/-- What the description request set may not change in SERVICE: everything but the line mode and the four adjustable
parameters (R2, R13). -/
def lockedPart (d : Lds) : Lds :=
  { d with
    mode := .setup
    params := { d.params with w := 0, tDep := 0, delay := 0, template := none } }

/-! ## Words for single rules -/

/-- What the rollover in SERVICE leaves of the announcements: those that name a run have ended; the others that are live
have a due time of 0 and their expiry timers with the remaining time, and where none has ended, so that no channel was
served, each is the same but for its due time and its timers, and the channels for the order of their queues (R21, R159,
R168, R171). -/
def AnnouncementsCarried (s t : State) (at_ : Nat) : Prop :=
  (∀ i a, s.annAt i = some a → a.linkedRun ≠ none ∨ (∃ h, a.spec.target = .followRun h) → t.annAt i = none) ∧
    (∀ i b, t.annAt i = some b → ∃ a, s.annAt i = some a ∧ b.spec = a.spec ∧ b.due = some 0 ∧
      b.expiryTimer = a.expiryTimer.map (· - at_)) ∧
    ((∀ i a, s.annAt i = some a → a.linkedRun = none ∧ ∀ h, a.spec.target ≠ .followRun h) →
      (∀ i a, s.annAt i = some a → t.annAt i = some { a with
        due := some 0
        nextDue := a.nextDue.map (· - at_)
        expiryTimer := a.expiryTimer.map (· - at_) }) ∧
      ∀ c, ∃ q, t.chan c = { s.chan c with queue := q } ∧ q.Perm (s.chan c).queue)

/-- The CLEARED incidents have been retired, the generations of their slots one further and every other as it was; what
stands in such a slot is an automatic incident that was pending (R145, R148). -/
def ClearedRetired (s t : State) : Prop :=
  (∀ i x y, get1 s.itb.slots i = some x → get1 t.itb.slots i = some y →
    y.gen = if x.inc.any (fun z => z.state == .cleared) then (x.gen + 1) % 256 else x.gen) ∧
    (∀ i x, s.incAt i = some x → x.state = .cleared → ∀ z, t.incAt i = some z → z.auto ≠ none ∧ z.state = .raised) ∧
    ((∀ c, look s.itb.pendingSet c = none) → ∀ i x, s.incAt i = some x → x.state = .cleared → t.incAt i = none)

/-- Every live run is retired, its slot's generation one further, and the live state of the day is cleared: what the
service-day rollover leaves in SERVICE (R26, R54, R71, R99, R125, R148, R171). `t` is the state after it. -/
def DayCleared (s t : State) (cause : RolloverCause) (at_ : Nat) : Prop :=
  t.lck = { s.lck with clock := 0, day := (s.lck.day + 1) % 65536, lastRollover := some (cause, at_) } ∧
    t.lds = s.lds ∧ t.pending = s.pending ∧ (∀ i, t.runAt i = none) ∧
    (∀ i x y, get1 s.rtb.slots i = some x → get1 t.rtb.slots i = some y →
      y.gen = if x.run.isSome then (x.gen + 1) % 256 else x.gen) ∧
    t.rtb.counters = zeroCounters ∧
    (∀ g, (t.seg g).queue = [] ∧ (t.seg g).holdCount = (s.seg g).holdCount ∧ (t.seg g).slow = (s.seg g).slow) ∧
    (∀ m, t.mergeList m = []) ∧ (∀ p, t.tp p = TpLive.empty) ∧ t.mvt.stale = s.mvt.stale ∧
    t.mvt.staleTimer = some s.lds.params.tStale ∧ (∀ i, t.reg i = RegRec.clear) ∧
    (∀ m, t.arbiter m = Arbiter.clear) ∧ t.drg.releasedCount = 0 ∧
    t.drg.mode = (if s.drg.mode = .halting then .manual else s.drg.mode) ∧ (∀ i, t.claim i = none) ∧
    (∀ i x, s.sub i = some x → t.sub i = some { x with inUse := 0, queue := [] }) ∧
    (∀ i x, s.sec i = some x → t.sec i = some { x with
      drainTimer := x.drainTimer.map (· - at_)
      confirmTimer := x.confirmTimer.map fun c => (c.1 - at_, c.2) }) ∧
    (∀ i x, s.incAt i = some x → x.state ≠ .cleared → ∃ z, t.incAt i = some z ∧ z.number = x.number ∧
      z.state = x.state ∧ z.runs = [] ∧ z.escalation = x.escalation.map (· - at_) ∧
      z.restrictions = x.restrictions) ∧
    (∀ p b, look s.piu.boards p = some b → look t.piu.boards p = some Board.empty) ∧
    Created s t .release ((ids 128).filterMap fun i => (s.runAt i).bind fun x =>
      if x.state = .released then some (.revoke x.number (x.tpAt x.cur) ((s.reg i).releaseSegment.getD 0)) else none) ∧
    Created s t .board ((ids 32).filterMap fun p => (look s.piu.boards p).map fun _ =>
      .boardUpdate p Board.empty.line1 Board.empty.line2) ∧
    ClearedRetired s t ∧
    (∀ k x, get0 s.lds.clients k = some x → x.configured = true → ∃ n, get0 t.crp.notices k = some n ∧
      ⟨.lineEvent, 0, LineEvent.rollover.detail⟩ ∈ n.list) ∧
    t.rtb.horizonCount = 0 ∧ t.rtb.armed = decide (s.lds.params.lwm = 0) ∧ AnnouncementsCarried s t at_

/-- An amendment that R41 accepts for a run: `k` is the first stop, `es` the new pairs of scheduled times. -/
def AmendmentFits (x : Run) (k : Nat) (es : List (Option Nat × Option Nat)) : Prop :=
  x.state ≠ .terminated ∧ x.state ≠ .cancelled ∧ 1 ≤ k ∧ k + es.length - 1 ≤ x.count ∧
    (∀ j e, es[j]? = some e → ∃ st, x.stopAt (k + j) = some st ∧ timesFit x.count (k + j) st.kind e.1 e.2 = true) ∧
    nonDecreasing (schedule (amendStops x.stops k es)) = true ∧
    (∀ j e, es[j]? = some e → x.amendable (k + j) e.1 = true) ∧ amendStops x.stops k es ≠ x.stops

/-- A stop without what the regulator computes: the part that only the Run Table and the movement reports write. -/
def Machine.Stop.plan (st : Stop) : Stop := { st with release := none }

/-- The stops of a run without their computed releases. -/
def Machine.Run.plan (r : Run) : List Stop := r.stops.map Stop.plan

/-- What the statements about a movement report suppose: no event in hand, a known timing point, a run number in range,
and the live run that holds it. -/
def Reported (s : State) (run : Half) (p i : Nat) (x : Run) : Prop :=
  BetweenEvents s ∧ s.point p ≠ none ∧ 1 ≤ run.toNat ∧ run.toNat ≤ 9999 ∧ s.runNumbered run.toNat = some (i, x)

/-- A run stands at the head of a segment's queue and, where its next timing point has a merge whose list holds it, at
the head of that list. -/
def InOrder (s : State) (i g p : Nat) : Prop :=
  s.queueOf (s.runHandle i) = some g ∧ (s.seg g).queue.head? = some (s.runHandle i) ∧
    ∀ m, s.mergeAt p = some m → s.runHandle i ∈ s.mergeList m → (s.mergeList m).head? = some (s.runHandle i)

/-- The entry with which a run asks for power: its computed release, or now, and the next joining number (R106, R111,
log 30). -/
def Machine.State.waitEntry (s : State) (i : Nat) (x : Run) : WaitEntry :=
  ⟨s.runHandle i, s.drawSection x, s.startCost x, (x.curStop.bind (·.release)).getD s.lck.clock, s.tpc.joinSeq⟩

/-- What the release of the run `x` of a slot does to the merges: the merge of its span, if it has one, is granted at
the present time, with the run at the end of its order list, its free timer set, no holder, and the grant in the run's
record; every other merge stays as it is, and so does an earlier grant where the span has no merge (R83, R87, R95). A run
that the list holds already keeps its place (log 23). -/
def MergeGranted (s t : State) (i : Nat) (x : Run) : Prop :=
  (∀ m g, s.spanMerge x = some (m, g) →
    t.mergeList m = (if s.runHandle i ∈ s.mergeList m then s.mergeList m else s.mergeList m ++ [s.runHandle i]) ∧
    t.arbiter m =
      ⟨some s.lck.clock, some (min (s.lck.clock + (s.mergeDef m).elim 0 (·.hJ)) 107999), none⟩ ∧
    (t.reg i).grantedMerge = some m) ∧
    (s.spanMerge x = none → (t.reg i).grantedMerge = (s.reg i).grantedMerge) ∧
    ∀ m, (∀ g, s.spanMerge x ≠ some (m, g)) → t.mergeList m = s.mergeList m ∧ t.arbiter m = s.arbiter m

/-- The entries that wait at a substation after a change of the active feeders from those of `s` to those of `t`, once
each entry of a section that draws from another substation has moved there (R113). -/
def Machine.State.movedTo (s t : State) (k : Nat) : List WaitEntry :=
  (ids 8).flatMap fun j => (s.sub j).elim [] fun z => z.queue.filter fun e =>
    (if s.drawing e.sec = j then t.drawing e.sec else j) == k

/-- What a release leaves of a run: RELEASED with no causes, its claim recorded, the last release stamped, its timers
and its segment set, the merge of its span granted, one more run released, and a RELEASE order created (R83, R95, R105).
-/
def Released (s t : State) (i : Nat) (x y : Run) (sub sec cost : Nat) : Prop :=
  t.runAt i = some y ∧ y.state = .released ∧ y.causes = Causes.none ∧ y.claimPresent = true ∧ y.plan = x.plan ∧
    t.claim i = some ⟨sub, sec, cost, s.lck.clock, none⟩ ∧ (t.tp (x.tpAt x.cur)).lr = some s.lck.clock ∧
    (t.reg i).releaseTimer = none ∧ (t.reg i).dispatcherHold = false ∧
    (t.reg i).departureTimer = some (min (s.lck.clock + s.lds.params.tDep) 107999) ∧
    (t.reg i).releaseSegment = some (s.firstSegment x) ∧ t.drg.releasedCount = s.drg.releasedCount + 1 ∧
    (∀ z, s.sub sub = some z → (t.sub sub).map (·.inUse) = some (z.inUse + cost)) ∧
    Created s t .release [.release x.number (x.tpAt x.cur) (s.firstSegment x)] ∧ MergeGranted s t i x ∧
    ∀ g, t.seg g = s.seg g

/-- The credits that come back to a substation when the claims of a selection are returned (R109). -/
def Machine.State.comingBack (s : State) (returned : Nat → Claim → Bool) (k : Nat) : Nat :=
  ((ids 128).map fun i => match s.claim i with
    | some c => if c.sub = k ∧ returned i c = true then c.cost else 0
    | none => 0).sum

/-- The service of the wait queues that ends an event (R109, R112). `back` gives the credits that have come back to each
substation, and `stays` the entries that the event has not taken out before. A queue that has lost an entry, or whose
substation has credits back, is served from its head: each run granted has its release completed under a claim, until
the head does not fit. Every other queue stays as it was. -/
def QueuesServed (s t : State) (back : Nat → Nat) (stays : WaitEntry → Bool) : Prop :=
  ∀ k y, s.sub k = some y → ∃ (w : SubLive) (served : List WaitEntry), t.sub k = some w ∧ w.state = y.state ∧
    w.withheld = y.withheld ∧ served ++ w.queue = y.queue.filter stays ∧
    w.inUse = y.inUse - back k + (served.map (·.cost)).sum ∧
    (∀ e ∈ served, ∃ i x, s.resolveRun e.run = .live i ∧ t.runAt i = some x ∧ x.state = .released ∧
      t.claim i = some ⟨k, e.sec, e.cost, s.lck.clock, none⟩) ∧
    (served = [] ∨ (served.map (·.cost)).sum ≤ t.effectiveCapacity k - y.withheld - (y.inUse - back k)) ∧
    if y.queue.filter stays = y.queue ∧ y.inUse - back k = y.inUse then served = []
    else ∀ e, w.queue.head? = some e → t.available k < e.cost

/-- An event changes nothing of the run in a slot but that it may grant it the power it has waited for: it was HELD for
POWER alone, and its release is completed under a claim (R83, R112). -/
def UnchangedOrGranted (s t : State) (j : Nat) : Prop :=
  (t.runAt j = s.runAt j ∧ t.claim j = s.claim j) ∨
    ∃ x y, s.runAt j = some x ∧ x.state = .held ∧ x.causes = Causes.onlyPower ∧ t.runAt j = some y ∧
      y.state = .released ∧ y.causes = Causes.none ∧ y.claimPresent = true ∧ y.plan = x.plan ∧ t.claim j ≠ none

/-- The causes that a run leaving its wait queue takes in place of POWER: every other gate that is closed for it (R85).
That of MERGE depends on the arbiter and is left out. -/
def ClosedInPlaceOfPower (s : State) (j : Nat) (x : Run) (c : Causes) : Prop :=
  c.power = false ∧ c.departureFailed = false ∧ c.restriction = s.restrictionClosed x ∧
    c.capacity = s.capacityClosed x ∧ c.dispatcher = (s.reg j).dispatcherHold

/-- Whether the span of a run's release has a segment in a section (R81). -/
def Machine.State.spanIn (s : State) (sec : Nat) (x : Run) : Bool :=
  (s.span x).any fun g => (s.segment g).any fun d => d.sec == sec

/-- The wait entries of runs whose span has no segment in a section. -/
def Machine.State.spanOutside (s : State) (sec : Nat) (e : WaitEntry) : Bool :=
  !(s.runOf e.run).any (s.spanIn sec)

/-- A section has left ENERGISED: every run that waited for credits and has a segment of the section in its span waits
nowhere, and is HELD with SECTION and every other closed cause in place of POWER (R85, R111, R114). -/
def WaitersTakenOut (s t : State) (sec : Nat) : Prop :=
  ∀ j x, s.runAt j = some x → x.state = .held → x.causes = Causes.onlyPower → s.spanIn sec x = true →
    ∃ y, t.runAt j = some y ∧ y.state = .held ∧ y.plan = x.plan ∧ y.causes.section_ = true ∧
      y.causes.manual = decide (s.drg.mode ≠ .automatic) ∧ ClosedInPlaceOfPower s j x y.causes ∧ WaitsNowhere t j

/-- The record of a section after a reference has been added to it (R115): an ENERGISED one drains, a CLOSING one is
ordered open, a TRIPPED one counts as ISOLATED. -/
def Machine.SecLive.referenced (x : SecLive) (drain confirm : Nat) : SecLive :=
  match x.state with
  | .energised => { x with state := .draining, drainTimer := some drain }
  | .closing => { x with state := .opening, confirmTimer := some (confirm, .openOrder), unconfirmed := false }
  | .tripped => { x with state := .isolated }
  | .unknown | .draining | .opening | .isolated => x

/-- What a breaker report makes of a section's record (R116, R119). -/
def Machine.SecLive.reported (x : SecLive) (pos : BreakerPos) (drain : Nat) : SecLive :=
  match pos, x.state with
  | .isOpen, .unknown => { x with state := .isolated }
  | .isOpen, .energised => { x with state := if x.count = 0 then .tripped else .isolated }
  | .isOpen, .draining => { x with state := .isolated, drainTimer := none }
  | .isOpen, .opening => { x with state := .isolated, confirmTimer := none, unconfirmed := false }
  | .isClosed, .unknown =>
    if x.count = 0 then { x with state := .energised } else { x with state := .draining, drainTimer := some drain }
  | .isClosed, .isolated => { x with state := .energised }
  | .isClosed, .closing => { x with state := .energised, confirmTimer := none, unconfirmed := false }
  | .isClosed, .tripped => { x with state := .energised }
  | .isOpen, .isolated | .isOpen, .closing | .isOpen, .tripped => x
  | .isClosed, .energised | .isClosed, .draining | .isClosed, .opening => x

/-- The announcement of a slot has ended: the slot is empty under the next generation, its channel holds the handle
nowhere, and one that was on air has been cut (R149, R151, R158). -/
def AnnouncementGone (s t : State) (i : Nat) (a : Announcement) : Prop :=
  t.annAt i = none ∧
    (∀ y z, get1 s.piu.slots i = some y → get1 t.piu.slots i = some z → z.gen = (y.gen + 1) % 256) ∧
    s.annHandle i ∉ (t.chan a.channel).queue ∧ s.annHandle i ∉ (t.chan a.channel).stack ∧
    (t.chan a.channel).onAir ≠ some (s.annHandle i) ∧
    (a.channel ≤ 3 → (s.chan a.channel).onAir = some (s.annHandle i) →
      ∃ l, Created s t .output (.cut a.channel (a.token.getD 0) :: l)) ∧
    t.mvt = s.mvt ∧ t.drg = s.drg ∧ t.tpc = s.tpc ∧ t.rtb.counters = s.rtb.counters

/-- The notices of the ending of an announcement: ENDED to its owner, and, where its channel is served because it stood
on air or on the stack, those of announcements that this service ends (R151, R162, R179). -/
def EndingPosted (s t : State) (i : Nat) (a : Announcement) (why : EndReason) : Prop :=
  ∃ others, Posted s t (endedNotice (s.annHandle i) a why :: others) ∧
    (∀ n ∈ others, n.1.kind = .ended ∧ n.1.handle ≠ s.annHandle i) ∧
    ((s.chan a.channel).onAir ≠ some (s.annHandle i) → s.annHandle i ∉ (s.chan a.channel).stack → others = [])

/-- The part of R36 that a LOAD_RUN body's route, stops and times must meet. -/
def LoadFits (s : State) (b : LoadBody) : Prop :=
  1 ≤ b.number ∧ b.number ≤ 9999 ∧ 1 ≤ b.cls ∧ b.cls ≤ 4 ∧
    (∃ l k, s.routeDef b.route = some l ∧ k < l.length ∧ (l.drop k).take b.stops.length = b.stops.map (·.tp)) ∧
    (∀ k st, b.stops[k]? = some st →
      (st.kind = .stop ∨ (0 < k ∧ k + 1 < b.stops.length)) ∧ (st.schedArr.isSome = true ↔ 0 < k) ∧
        (st.schedDep.isSome = true ↔ k + 1 < b.stops.length) ∧ (st.kind = .pass → st.schedArr = st.schedDep)) ∧
    (schedule b.stops).Pairwise (· ≤ ·)

/-- The movement reports that are discarded, each with the conflict it carries (R59, R61, R63 to R66). `i` is the slot
of the run `x`, `p` the timing point named. -/
def Discards (s : State) (i : Nat) (x : Run) (p : Nat) : Instr → ConflictKind → Prop
  | .arrived _ _, .unexpectedPoint =>
    match x.state with
    | .planned => x.tpAt 1 ≠ p
    | .dwelling | .held | .released => x.tpAt x.cur ≠ p
    | .running => x.ahead p = none ∧ x.tpAt (x.cur - 1) ≠ p
    | .cancelled => s.queueOf (s.runHandle i) = none ∨ (x.ahead p = none ∧ x.tpAt (x.cur - 1) ≠ p)
    | .terminated => True
  | .arrived _ _, .platformOccupied =>
    (s.tp p).occupant ≠ none ∧
      ((x.state = .planned ∧ x.tpAt 1 = p) ∨ (x.state = .running ∧ ∃ m, x.ahead p = some m ∧ m ≠ x.count))
  | .departed _ _, .unexpectedPoint =>
    match x.state with
    | .planned | .dwelling | .held | .released | .terminated => x.tpAt x.cur ≠ p
    | .running => x.tpAt (x.cur - 1) ≠ p
    | .cancelled => (if s.queueOf (s.runHandle i) = none then x.tpAt x.cur else x.tpAt (x.cur - 1)) ≠ p
  | .departed _ _, .queueFull =>
    x.tpAt x.cur = p ∧
      ((x.state = .released ∧ ∃ g, (s.reg i).releaseSegment = some g ∧ 8 ≤ (s.seg g).queue.length) ∨
        ((x.state = .planned ∨ x.state = .dwelling ∨ x.state = .held ∨
            (x.state = .cancelled ∧ s.queueOf (s.runHandle i) = none)) ∧
          8 ≤ (s.seg (s.segmentAfter x x.cur)).queue.length))
  | .passed _ _, .unexpectedPoint =>
    match x.state with
    | .planned => x.tpAt 1 ≠ p
    | .running => x.ahead p = none ∧ x.tpAt (x.cur - 1) ≠ p
    | .cancelled => s.queueOf (s.runHandle i) = none ∨ (x.ahead p = none ∧ x.tpAt (x.cur - 1) ≠ p)
    | .dwelling | .held | .released | .terminated => True
  | .passed _ _, .queueFull =>
    (x.state = .planned ∧ x.tpAt 1 = p ∧ 8 ≤ (s.seg (s.segmentAfter x x.cur)).queue.length) ∨
      ((x.state = .running ∨ (x.state = .cancelled ∧ s.queueOf (s.runHandle i) ≠ none)) ∧
        ∃ m, x.ahead p = some m ∧ m ≠ x.count ∧ 8 ≤ (s.seg (s.segmentAfter x m)).queue.length)
  | _, _ => False

/-- The movement reports that repeat a step already taken (R61, R63, R66). -/
def Repeats (s : State) (i : Nat) (x : Run) (p : Nat) : Instr → Prop
  | .arrived _ _ =>
    ((x.state = .dwelling ∨ x.state = .held ∨ x.state = .released) ∧ x.tpAt x.cur = p) ∨
      ((x.state = .running ∨ (x.state = .cancelled ∧ s.queueOf (s.runHandle i) ≠ none)) ∧ x.ahead p = none ∧
        x.tpAt (x.cur - 1) = p)
  | .departed _ _ =>
    (x.state = .terminated ∧ x.tpAt x.cur = p) ∨
      ((x.state = .running ∨ (x.state = .cancelled ∧ s.queueOf (s.runHandle i) ≠ none)) ∧ x.tpAt (x.cur - 1) = p)
  | .passed _ _ =>
    (x.state = .running ∨ (x.state = .cancelled ∧ s.queueOf (s.runHandle i) ≠ none)) ∧ x.ahead p = none ∧
      x.tpAt (x.cur - 1) = p
  | _ => False

/-- The conflict that a report taken at stop `m` carries for a run in the queue of segment `g`, in the order of R59's
table; `last` is the kind that applies where no earlier one does (R61, R66). -/
def Carries (s : State) (i g p m : Nat) (x : Run) (last : Option ConflictKind) : Option ConflictKind → Prop
  | some .missedSteps => x.cur < m
  | some .outOfOrder => m = x.cur ∧ (s.seg g).queue.head? ≠ some (s.runHandle i)
  | some .mergeOrder => m = x.cur ∧ (s.seg g).queue.head? = some (s.runHandle i) ∧
    ∃ k, s.mergeAt p = some k ∧ s.runHandle i ∈ s.mergeList k ∧ (s.mergeList k).head? ≠ some (s.runHandle i)
  | k => k = last ∧ m = x.cur ∧ InOrder s i g p

/-- An automatic incident of cause REPORT_CONFLICT stands in a slot, for a run, a timing point and a kind (R59, R143).
-/
def ConflictRaised (t : State) (j h p : Nat) (k : ConflictKind) : Prop :=
  ∃ z, t.incAt j = some z ∧ z.auto = some .reportConflict ∧ z.detail = some (.ofConflict h p k) ∧
    z.kind = .signalData ∧ z.severity = 1 ∧ z.state = .raised ∧ z.source = .engine

/-- The conflict of a report is raised in the slot `j`, the lowest that was free; a report without one raises nothing.
-/
def ConflictSettled (s t : State) (j h p : Nat) : Option ConflictKind → Prop
  | some k => ConflictRaised t j h p k
  | none => t.itb.nextNumber = s.itb.nextNumber

/-- A run has been placed at its first stop: DWELLING there with the present time as arrival, its placement timer
stopped (R38, R40). -/
def Placed (s : State) (y : Run) : Prop :=
  y.cur = 1 ∧ y.placeTimer = none ∧ y.placeWaiting = false ∧ ∃ st, y.stopAt 1 = some st ∧ st.actArr = some s.lck.clock

/-- What the comparison of a computed lateness with the delay threshold leaves of the run `x` of a slot, which is `y` in
the state `t` after it (R97, R98). A post in a channel whose full window drops it ends at once (R163). -/
def DelayCompared (s t : State) (slot : Nat) (x y : Run) (late : Int) : Prop :=
  (x.autoDelay = none → late < (s.lds.params.delay : Int) ∨ s.freeAnn = none ∨ x.state = .terminated ∨
      x.state = .cancelled → y.autoDelay = none ∧ t.piu.slots = s.piu.slots) ∧
    (∀ j c, x.autoDelay = none → (s.lds.params.delay : Int) ≤ late → x.state ≠ .terminated → x.state ≠ .cancelled →
      s.freeAnn = some j → get0 s.piu.classMap 2 = some c →
      (s.chan c).state ≠ .ready ∨ ((s.chan c).policy ≠ .drop ∧ (s.chan 0).policy ≠ .drop) →
      y.autoDelay = some (s.annHandle j) ∧ ∃ a, t.annAt j = some a ∧
        a.spec = ⟨s.lds.params.template.getD [], 2, .followRun (s.runHandle slot), 0, 10, none, none⟩ ∧
        a.owner = .engine ∧ a.linkedRun = some (s.runHandle slot) ∧ a.linkedInc = none) ∧
    (∀ h, x.autoDelay = some h → ((s.lds.params.delay / 2 : Nat) : Int) ≤ late →
      y.autoDelay = some h ∧ t.piu.slots = s.piu.slots) ∧
    ∀ h i, x.autoDelay = some h → late < ((s.lds.params.delay / 2 : Nat) : Int) → s.resolveAnn h = .live i →
      (∀ j z, s.runAt j = some z → z.autoDelay = some h → j = slot) → y.autoDelay = none ∧ t.annAt i = none

/-- The last two times of R152's range row: an expiry at or before the clock, or at or before the start. -/
def Late (s : State) (x : AnnSpec) : Prop :=
  ∃ e, x.expiry = some e ∧ (e ≤ s.lck.clock ∨ ∃ b, x.start = some b ∧ e ≤ b)

/-- The refusals of a post whose body can be read, in SERVICE: R152's rows in order, each where no row before it applies,
with the code and the handle answered. Of a follow-run target and a linked run the first comes first (log 52). -/
def PostRefused (s : State) (x : AnnSpec) (run : Option Nat) (code : AnswerCode) (h : Nat) : Prop :=
  (Late s x ∧ code = .outOfRange ∧ h = 0) ∨
    (¬Late s x ∧ ∃ before after, postedRuns x run = before ++ h :: after ∧
      (∀ g ∈ before, ∃ i, s.resolveRun g = .live i) ∧ s.runTable.refuses h code) ∨
    (¬Late s x ∧ (∀ g ∈ postedRuns x run, ∃ i, s.resolveRun g = .live i) ∧
      ((code = .badState ∧ ∃ before after, postedRuns x run = before ++ h :: after ∧
          (∀ g ∈ before, ∃ y, s.runOf g = some y ∧ y.state ≠ .terminated ∧ y.state ≠ .cancelled) ∧
          ∃ y, s.runOf h = some y ∧ (y.state = .terminated ∨ y.state = .cancelled)) ∨
        (code = .full ∧ h = 0 ∧ (∀ i, 1 ≤ i → i ≤ 96 → s.annAt i ≠ none) ∧
          ∀ g ∈ postedRuns x run, ∃ y, s.runOf g = some y ∧ y.state ≠ .terminated ∧ y.state ≠ .cancelled)))

/-- A list of announcements stands in the order of a channel's queue: class descending, due time ascending, handle
ascending; every one of them is live (R159). -/
def QueueOrdered (s : State) (l : List Nat) : Prop :=
  (∀ h ∈ l, s.annOf h ≠ none) ∧ l.Pairwise fun a b => ∀ x y, s.annOf a = some x → s.annOf b = some y →
    y.spec.cls < x.spec.cls ∨ (x.spec.cls = y.spec.cls ∧
      (x.due.getD 0 < y.due.getD 0 ∨ (x.due.getD 0 = y.due.getD 0 ∧ a ≤ b)))

/-- The announcement of a slot falls due with `e`: its start timer where it is SCHEDULED, its repeat timer where it is
RESTING (R153, R165). -/
def FallsDue (s : State) (c : Instr) (i e : Nat) (a : Announcement) : Prop :=
  BetweenEvents s ∧ s.annAt i = some a ∧ a.nextDue = some e ∧ e ≤ s.lck.clock ∧ a.channel ≤ 3 ∧
    ((c = .startTimerExpiry i ∧ a.state = .scheduled) ∨ (c = .repeatTimerExpiry i ∧ a.state = .resting))

/-- An announcement that has joined its channel's queue, due at `e` (R153). -/
def Machine.Announcement.queuedAt (a : Announcement) (e : Nat) : Announcement :=
  { a with state := .queued, due := some e, nextDue := none, token := none }

/-- The content that a board has once it is re-evaluated: formed anew, or held while the line is STALE (R170). -/
def Machine.State.boardNow (s : State) (p : Nat) (b : Board) : Board := if s.mvt.stale then b.hold else s.boardContent p

/-- A new regulation weight: the parameter alone is written in the description, and every DWELLING run's release is
computed again with it (R13, R79, R92). -/
def WeightWritten (s t : State) (v : Nat) : Prop :=
  t.lds = { s.lds with params := { s.lds.params with w := v } } ∧ t.lck = s.lck ∧ t.pending = s.pending ∧
    (∀ j, (t.runAt j).map Run.plan = (s.runAt j).map Run.plan) ∧ (∀ g, t.seg g = s.seg g) ∧ t.drg.mode = s.drg.mode ∧
    ∀ j x, s.runAt j = some x → x.state = .dwelling → x.computable = true → x.causes.departureFailed = false →
      ∃ y st, t.runAt j = some y ∧ y.stopAt x.cur = some st ∧
        st.release = some ({ s.releaseInputs x with w := v }.releaseTime s.lck.clock)

/-- The place of a stream in the order of the rotation: release, breaker, output, board (R189). -/
def Machine.Stream.number : Stream → Nat
  | .release => 0
  | .breaker => 1
  | .output => 2
  | .board => 3

end Sys2Proof
end

