-- ==== Sys2Proof/Certificates/Slice0/Obligations.lean ====
section
/-! DEFINITION. The statements for the provers: what the commands of the LK-240 do, what they leave alone, and the bounds
that every step keeps. Handles, readers of request bodies and answer bodies are named by the model's own functions. -/

open Sys2Proof Sys2Proof.Machine

/-! ## The step and the state after power-on -/

/-- The command at the front of the queue runs on the state with the queue's rest; on an empty queue the part idles,
which is the model's choice (log 2). -/
def Obligations.StepRunsFrontCommand : Prop :=
  (∀ (c : Instr) (q : List Instr) (s : State), step (s.withPending (c :: q)) = exec c (s.withPending q)) ∧
    ∀ s : State, s.pending = [] → step s = .next s

/-- POWER_ON gives every record its value at power-on (R1, R11, R12, R18, R30, R51, R71, R75, R126, R149, R154, R155,
R173, R180, R185, R189); the commands that wait are kept (log 31). The values without a rule of the spec are the model's
(log 4 for the rings' memory). The bounds and the other invariants hold after power-on, and no event is in hand. -/
def Obligations.PowerOnValues : Prop :=
  (PortSound State.reset ∧ ClockSound State.reset ∧ BetweenEvents State.reset ∧ TrackBounds State.reset ∧
    ChannelBounds State.reset ∧ DeskQueues State.reset ∧ DeskOrder State.reset ∧ WaitingRuns State.reset ∧
    Credits State.reset ∧ RunTableSound State.reset ∧ LinksAgree State.reset) ∧
  ∀ s : State, ∃ t, exec .powerOn s = .next t ∧ t = State.reset.withPending s.pending ∧
    (t.lds.mode = .setup ∧ (∀ i, look t.lds.points i = none) ∧ (∀ i, look t.lds.segments i = none) ∧
      (∀ i, look t.lds.routes i = none) ∧ (∀ i, look t.lds.merges i = none) ∧ (∀ i, look t.lds.substations i = none) ∧
      (∀ i, look t.lds.sections i = none) ∧ (∀ i, look t.lds.classes i = none) ∧
      (∀ i x, get0 t.lds.clients i = some x → x.configured = false) ∧
      t.lds.params = ⟨4, 120, 30, 20, 3600, 4, 300, none⟩ ∧ t.lds.bands = none) ∧
    (t.lck.clock = 0 ∧ t.lck.day = 0 ∧ t.lck.lastRollover = none) ∧
    ((∀ i x, get1 t.rtb.slots i = some x → x.gen = 0 ∧ x.run = none) ∧
      (∀ i x, get1 t.itb.slots i = some x → x.gen = 0 ∧ x.inc = none) ∧
      (∀ i x, get1 t.piu.slots i = some x → x.gen = 0 ∧ x.ann = none) ∧ t.rtb.counters = zeroCounters) ∧
    (t.drg.mode = .automatic ∧ t.mvt.stale = false ∧ t.itb.nextNumber = 1 ∧
      t.piu.classMap = #v[0, 0, 0, 0, 1, 1, 2, 3] ∧
      (∀ c x, get0 t.piu.channels c = some x → x.state = .disabled ∧ x.producer = 0 ∧ x.consumer = 0 ∧
        x.nextToken = 1 ∧ x.policy = .wait)) ∧
    (t.crp.reqProd = 0 ∧ t.crp.reqCons = 0 ∧ t.crp.ansProd = 0 ∧ t.crp.ansCons = 0 ∧ t.crp.ringFault = none ∧
      t.crp.lastReset = .powerOn ∧ t.crp.rotation = 7 ∧ irqLine t = false) ∧
    (t.fli.rx = .hunt ∧ t.fli.badFrames = 0 ∧ t.fli.unmatched = 0 ∧ t.fli.sending = none ∧ t.fli.rotation = .board)

/-! ## What every step keeps -/

/-- Every step keeps the port's bounds: at most 32 entries in a ring, at most 16 different pairs in a pending list, the
rings' memories in canonical form. -/
def Obligations.PortSoundKept : Prop := ∀ s t : State, PortSound s → step s = .next t → PortSound t

/-- Every step keeps the clock below the end of the service day and the day number in 16 bits, and leaves no board
marked, as the model's marks live within one event only (log 6). -/
def Obligations.ClockSoundKept : Prop :=
  ∀ s t : State, step s = .next t → (ClockSound s → ClockSound t) ∧ (BetweenEvents s → BetweenEvents t)

/-- In SERVICE no step but POWER_ON changes the description, the four adjustable parameters and the line mode apart. -/
def Obligations.DescriptionStaysLocked : Prop :=
  ∀ s t : State, s.inService = true → s.pending.head? ≠ some .powerOn → step s = .next t →
    lockedPart t.lds = lockedPart s.lds

/-- Every step keeps the bounds of the track's lists: at most 8 runs in a segment's queue, at most 8 in a merge's order
list and none twice there (R55, R56, R59). -/
def Obligations.TrackBoundsKept : Prop := ∀ s t : State, TrackBounds s → step s = .next t → TrackBounds t

/-- Every step keeps the bounds of the output channels: at most 4 announcements in a resume stack, at most 16 entries in
a window with an announcement on air and one CUT more behind its end, tokens within 1..255 (R155, R158, R162, R163,
R164). -/
def Obligations.ChannelBoundsKept : Prop := ∀ s t : State, ChannelBounds s → step s = .next t → ChannelBounds t

/-- Every step keeps the desk queues: a desk's queue holds exactly the RAISED incidents of that desk, each once, and
where every queue stands by severity, raise time and number, every queue does after the step, an escalation too (R131 to
R134, R141, R147, R148). -/
def Obligations.DeskQueuesKept : Prop :=
  ∀ s t : State, DeskQueues s → step s = .next t → DeskQueues t ∧ (DeskOrder s → DeskOrder t)

/-- Every step keeps the wait queues: an entry names a live run that is HELD for POWER alone, and no run waits twice
(R85, R106, R111, R112, R113). -/
def Obligations.WaitingRunsKept : Prop := ∀ s t : State, WaitingRuns s → step s = .next t → WaitingRuns t

/-- Every step keeps the start credits: a live claim belongs to a RELEASED or RUNNING run that shows it, and a
substation's credits in use are the sum of the costs of its live claims (R105, R107, R109, R110, R112). -/
def Obligations.CreditsKept : Prop :=
  ∀ s t : State, WaitingRuns s → Credits s → step s = .next t → Credits t

/-- Every step keeps the run table: run numbers are in range and of one live run each, the released count is the number
of RELEASED runs, and a segment queue holds only runs that are RUNNING, or CANCELLED on the track, each in one queue.
Every step keeps the agreement of the links: an incident lists a run exactly where the run lists the incident, both
live, at most four on either side (R35, R46, R55, R64, R75, R83, R86, R94, R139). -/
def Obligations.RunTableKept : Prop :=
  (∀ s t : State, WaitingRuns s → RunTableSound s → step s = .next t → RunTableSound t) ∧
    ∀ s t : State, LinksAgree s → step s = .next t → LinksAgree t

/-- Every command of a known request kind that is taken is answered by exactly one entry, under its own tag, client and
kind; nothing else moves an index of the port, and the waiting commands stay. -/
def Obligations.RequestsAnsweredOnce : Prop :=
  ∀ (c : Instr) (k : ReqKind) (r : Req) (s : State), c.request? = some (k, r) → s.canTake = true →
    ∃ t code h body, exec c s = .next t ∧ Answers s t k r code h body ∧ t.pending = s.pending

/-! ## The Control Room Port -/

/-- A command whose event is not enabled changes nothing, which is the model's reading of such a command (log 1): a
request with no request available or no free answer slot (R175), a timer that is not due (R20), a retry of a run that
still has a cause, the end of a frame with no frame on the line, a minute boundary that is not due. -/
def Obligations.NotEnabledChangesNothing : Prop :=
  ∀ s : State,
    (∀ c k r, c.request? = some (k, r) → s.canTake = false → exec c s = .next s) ∧
    (∀ slot, (∀ x, s.runAt slot = some x → x.state = .planned → s.reached x.placeTimer = false) →
      exec (.placementTimerExpiry slot) s = .next s) ∧
    (∀ slot, (∀ x, s.runAt slot = some x → x.state = .dwelling → s.reached (s.reg slot).releaseTimer = false) →
      exec (.releaseEvent slot) s = .next s) ∧
    (∀ slot, (∀ x, s.runAt slot = some x → x.state = .held → x.causes ≠ Causes.none) → exec (.retry slot) s = .next s) ∧
    (∀ slot, (∀ x, s.runAt slot = some x → x.state = .released → s.reached (s.reg slot).departureTimer = false) →
      exec (.departureTimeout slot) s = .next s) ∧
    (∀ m, s.reached (s.arbiter m).freeTimer = false → exec (.mergeFreeTimerExpiry m) s = .next s) ∧
    (s.reached s.mvt.staleTimer = false → exec .describerStaleTimerExpiry s = .next s) ∧
    (∀ slot, (∀ c, s.claim slot = some c → s.reached c.expiry = false) → exec (.claimTimerExpiry slot) s = .next s) ∧
    (∀ sec, (∀ x, s.sec sec = some x → x.state = .draining → s.reached x.drainTimer = false) →
      exec (.drainTimerExpiry sec) s = .next s) ∧
    (∀ sec, (∀ x, s.sec sec = some x → s.reached (x.confirmTimer.map (·.1)) = false) →
      exec (.confirmTimerExpiry sec) s = .next s) ∧
    (∀ slot, (∀ x, s.incAt slot = some x → s.reached x.escalation = false) →
      exec (.escalationTimerExpiry slot) s = .next s) ∧
    (∀ slot, (∀ a, s.annAt slot = some a → s.reached a.nextDue = false) →
      exec (.startTimerExpiry slot) s = .next s ∧ exec (.repeatTimerExpiry slot) s = .next s) ∧
    (∀ slot, (∀ a, s.annAt slot = some a → s.reached a.expiryTimer = false) →
      exec (.announcementExpiry slot) s = .next s) ∧
    (s.fli.sending = none → exec .frameTransmitEnd s = .next s) ∧
    (s.lck.minuteDue = false → exec .minuteBoundary s = .next s)

/-- A taken request that the port refuses reaches no owner: the answer carries its header back with an empty body, and
nothing but the exchange happens. The checks are made in R176's order; the kinds under setup access and the roles that
pass each kind are those of R176 and of R177's table, row by row. A header that cannot be read is answered MALFORMED;
MALFORMED_REQUEST with one that can is no such event (log 39). -/
def Obligations.RefusedAtThePort : Prop :=
  (∀ (c : Instr) (k : ReqKind) (r : Req) (s : State) (code : AnswerCode), c.request? = some (k, r) →
    s.canTake = true → s.portRefusal (some k) r = some code →
    exec c s = .next { s with
      crp := exchanged s.crp (requestBytes k.code r) (answerBytes k.code r code.code r.principal []) }) ∧
  (∀ (s : State) (k : ReqKind) (r : Req),
    (r.tag = 0 → s.portRefusal (some k) r = some .malformed) ∧
    (r.tag ≠ 0 → 7 < r.client.toNat → s.portRefusal (some k) r = some .malformed) ∧
    (r.tag ≠ 0 → r.client.toNat ≤ 7 → s.lds.mode = .setup → k ∈ setupKinds → s.portRefusal (some k) r = none) ∧
    (∀ x, r.tag ≠ 0 → r.client.toNat ≤ 7 → ¬(s.lds.mode = .setup ∧ k ∈ setupKinds) →
      get0 s.lds.clients r.client.toNat = some x →
      ((x.configured = true ∧ ∃ row ∈ permissionTable, k ∈ row.1 ∧ x.role ∈ row.2) →
        s.portRefusal (some k) r = none) ∧
      (¬(x.configured = true ∧ ∃ row ∈ permissionTable, k ∈ row.1 ∧ x.role ∈ row.2) →
        s.portRefusal (some k) r = some .notPermitted))) ∧
  (∀ (k : ReqKind) (role : Role),
    (k.permits role = true ↔ ∃ row ∈ permissionTable, k ∈ row.1 ∧ role ∈ row.2) ∧
    (k.setupAccess = true ↔ k ∈ setupKinds)) ∧
  ∀ (kind : Byte) (r : Req) (s : State),
    (s.canTake = true → headerUnreadable kind r →
      exec (.malformedRequest kind r) s = .next { s with
        crp := exchanged s.crp (requestBytes kind.toNat r) (answerBytes kind.toNat r 12 r.handle.toNat []) }) ∧
    (s.canTake = false ∨ ¬headerUnreadable kind r → exec (.malformedRequest kind r) s = .next s)

/-- A request that changes a record and whose handle does not resolve changes nothing: handle 0 is NO_EFFECT, a slot
that does not exist or is free NOT_FOUND, another generation STALE. So it is for the principal handle of every run,
incident and announcement request, and for the second handle of LINK_RUN and LINK_ANNOUNCEMENT once the incident has
resolved (R31, R127, R139, R140, R149). That the answer carries the incident's handle in this second case is the model's
choice (log 14). -/
def Obligations.HandlesRefused : Prop :=
  ∀ (c : Instr) (k : ReqKind) (r : Req) (s : State) (code : AnswerCode), BetweenEvents s → Passes s k r →
    c.request? = some (k, r) →
    (∀ x, s.principalTable k = some x → x.refuses r.principal code →
      exec c s = .next (answered s k r code r.principal [])) ∧
    (∀ i x, k = .linkRun ∨ k = .linkAnnouncement → s.resolveInc r.principal = .live i → s.incAt i = some x →
      (if k = .linkRun then s.runTable else s.annTable).refuses (r.u16 0) code →
      exec c s = .next (answered s k r code r.principal []))

/-- A write of the request producer or the answer consumer is accepted by its advance, else it sets the ring fault mark
with its cause; writes of the part's own indices are discarded. The mark stays set until a port reset or power-on. -/
def Obligations.IndexWrites : Prop :=
  ∀ (v : Half) (s : State),
    ((v - s.crp.reqProd).toNat ≤ 32 - (s.crp.reqProd - s.crp.reqCons).toNat →
      exec (.requestProducerWrite v) s = .next { s with crp := { s.crp with reqProd := v } }) ∧
    (32 - (s.crp.reqProd - s.crp.reqCons).toNat < (v - s.crp.reqProd).toNat →
      exec (.requestProducerWrite v) s = .next { s with crp := { s.crp with ringFault := some .requestProducer } }) ∧
    ((v - s.crp.ansCons).toNat ≤ (s.crp.ansProd - s.crp.ansCons).toNat →
      exec (.answerConsumerWrite v) s = .next { s with crp := { s.crp with ansCons := v } }) ∧
    ((s.crp.ansProd - s.crp.ansCons).toNat < (v - s.crp.ansCons).toNat →
      exec (.answerConsumerWrite v) s = .next { s with crp := { s.crp with ringFault := some .answerConsumer } }) ∧
    exec (.discardedRegisterWrite (.requestConsumer v)) s = .next s ∧
    exec (.discardedRegisterWrite (.answerProducer v)) s = .next s ∧
    ∀ c t, c ≠ .portReset → c ≠ .powerOn → exec c s = .next t → s.crp.ringFault ≠ none → t.crp.ringFault ≠ none

/-- PORT_RESET sets the indices to 0, clears the fault mark, the pending lists and the notice-lost marks, sets the
rotation position to 7 and the last reset cause to PORT, and changes no other record; any other value written to port
control is discarded. -/
def Obligations.PortResetClears : Prop :=
  ∀ s : State,
    (∃ t, exec .portReset s = .next t ∧ t = { s with crp := t.crp } ∧ t.crp.reqProd = 0 ∧ t.crp.reqCons = 0 ∧
      t.crp.ansProd = 0 ∧ t.crp.ansCons = 0 ∧ t.crp.ringFault = none ∧ t.crp.lastReset = .port ∧
      (∀ c x, get0 t.crp.notices c = some x → x.list = [] ∧ x.lost = false) ∧ t.crp.rotation = 7 ∧
      irqLine t = false) ∧
    ∀ v : Half, exec (.discardedRegisterWrite (.portControlOther v)) s = .next s

/-- A notice joins a client's list: its pair takes the new detail where it stands; a new pair joins the tail; a full
list loses its head and sets the notice-lost mark. NOTICE_WRITE writes the head pair of the first non-empty list after
the rotation position when at least 4 answer slots are free, takes it off its list and moves the rotation there; with
fewer free slots, or no pair pending, nothing is written. -/
def Obligations.NoticesJoinAndGo : Prop :=
  (∀ (c : ClientNotices) (n : Notice),
    (∀ pre post old, c.list = pre ++ old :: post → old.kind = n.kind → old.handle = n.handle → NoticeListSound c.list →
      c.join n = ⟨pre ++ n :: post, c.lost⟩) ∧
    ((∀ x ∈ c.list, ¬(x.kind = n.kind ∧ x.handle = n.handle)) → c.list.length < 16 →
      c.join n = ⟨c.list ++ [n], c.lost⟩) ∧
    (∀ old rest, (∀ x ∈ c.list, ¬(x.kind = n.kind ∧ x.handle = n.handle)) → c.list.length = 16 → c.list = old :: rest →
      c.join n = ⟨rest ++ [n], true⟩)) ∧
  ∀ s : State,
    (∀ d x n rest, d < 8 → 4 ≤ s.crp.ansFree →
      (∀ e y, e < d → get0 s.crp.notices ((s.crp.rotation + 1 + e) % 8) = some y → y.list = []) →
      get0 s.crp.notices ((s.crp.rotation + 1 + d) % 8) = some x → x.list = n :: rest →
      exec .noticeWrite s = .next { s with
        crp := { s.crp with
          answerRing := Memory.writeSlot s.crp.answerRing (ringSlot s.crp.ansProd)
            (noticeBytes ((s.crp.rotation + 1 + d) % 8) n)
          ansProd := s.crp.ansProd + 1
          notices := mod0 s.crp.notices ((s.crp.rotation + 1 + d) % 8) fun y => { y with list := rest }
          rotation := (s.crp.rotation + 1 + d) % 8 } }) ∧
    (s.crp.ansFree < 4 → exec .noticeWrite s = .next s) ∧
    ((∀ c x, get0 s.crp.notices c = some x → x.list = []) → exec .noticeWrite s = .next s)

/-- The interrupt line is asserted exactly while the answer producer differs from the answer consumer. An answer or a
notice written into an empty ring asserts it; a port reset, power-on, and the answer consumer's write that reaches the
answer producer deassert it. -/
def Obligations.InterruptLineFollows : Prop :=
  (∀ s : State, irqLine s = true ↔ s.crp.ansProd ≠ s.crp.ansCons) ∧
    (∀ s t : State, exec .portReset s = .next t → irqLine t = false) ∧
    (∀ s t : State, exec .powerOn s = .next t → t.crp.ansProd = 0 ∧ t.crp.ansCons = 0 ∧ irqLine t = false) ∧
    (∀ (s t : State) (k : ReqKind) (r : Req) (c : Instr), c.request? = some (k, r) → s.canTake = true →
      irqLine s = false → exec c s = .next t → irqLine t = true) ∧
    (∀ s t : State, irqLine s = false → exec .noticeWrite s = .next t → t.crp.ansProd ≠ s.crp.ansProd →
      irqLine t = true) ∧
    (∀ s t : State, exec (.answerConsumerWrite s.crp.ansProd) s = .next t → irqLine t = false)

/-! ## The Line Description Store -/

/-- In SETUP a DEFINE request whose body can be read writes the whole record and changes nothing else: timing points,
segments, routes, merges, substations, sections, train classes, zone groups, desk classes, the desk map and the headway
bands (R2 to R12). The bodies are laid out as the model reads them (log 11). REMOVE clears a defined record and changes
nothing else; a REMOVE of an undefined one is answered NO_EFFECT (R2, R9); a zone group takes the empty set. That REMOVE
reads no further field is the model's choice (log 11). A body that cannot be read is answered OUT_OF_RANGE and changes
nothing: an identifier outside its range, an action that is neither DEFINE nor REMOVE, or with DEFINE a field outside
its range. -/
def Obligations.DescriptionDefined : Prop :=
  (∀ (s : State) (r : Req) (i : Nat), s.inService = false → BetweenEvents s →
     (∀ x, Passes s .defineTimingPoint r → r.define 1 32 r.timingPoint = some (i, some x) →
       exec (.defineTimingPoint r) s = .next (answered
         { s with lds := { s.lds with points := put s.lds.points i (some x) } } .defineTimingPoint r .ok 0 [])) ∧
     (∀ x, Passes s .defineSegment r → r.define 1 48 r.segment = some (i, some x) →
       exec (.defineSegment r) s = .next (answered
         { s with lds := { s.lds with segments := put s.lds.segments i (some x) } } .defineSegment r .ok 0 [])) ∧
     (∀ x, Passes s .defineRoute r → r.define 1 4 r.route = some (i, some x) →
       exec (.defineRoute r) s = .next (answered
         { s with lds := { s.lds with routes := put s.lds.routes i (some x) } } .defineRoute r .ok 0 [])) ∧
     (∀ x, Passes s .defineMerge r → r.define 1 2 r.merge = some (i, some x) →
       exec (.defineMerge r) s = .next (answered
         { s with lds := { s.lds with merges := put s.lds.merges i (some x) } } .defineMerge r .ok 0 [])) ∧
     (∀ c, Passes s .defineSubstation r → r.define 1 8 (within 0 15 (r.u8 2)) = some (i, some c) →
       exec (.defineSubstation r) s = .next (answered
         { s with lds := { s.lds with substations := put s.lds.substations i (some c) } } .defineSubstation r .ok 0 [])) ∧
     (∀ x, Passes s .defineSection r → r.define 1 16 r.sectionFields = some (i, some x) →
       exec (.defineSection r) s = .next (answered
         { s with lds := { s.lds with sections := put s.lds.sections i (some x) } } .defineSection r .ok 0 [])) ∧
     (∀ x, Passes s .defineTrainClass r → r.define 1 4 r.trainClass = some (i, some x) →
       exec (.defineTrainClass r) s = .next (answered
         { s with lds := { s.lds with classes := put s.lds.classes i (some x) } } .defineTrainClass r .ok 0 [])) ∧
     (∀ z, Passes s .defineZoneGroup r → r.define 1 16 (some (r.zones 2)) = some (i, some z) →
       exec (.defineZoneGroup r) s = .next (answered
         { s with lds := { s.lds with zoneGroups := mod1 s.lds.zoneGroups i fun _ => z } } .defineZoneGroup r .ok 0 [])) ∧
     (∀ x, Passes s .defineDeskClass r → r.define 1 4 r.desks = some (i, some x) →
       exec (.defineDeskClass r) s = .next (answered
         { s with lds := { s.lds with deskClasses := put s.lds.deskClasses i (some x) } } .defineDeskClass r .ok 0 [])) ∧
     (∀ c, Passes s .mapIncidentKind r → r.define 1 6 (DeskClass.ofCode (r.u8 2)) = some (i, some c) →
       exec (.mapIncidentKind r) s = .next (answered
         { s with lds := { s.lds with kindMap := put s.lds.kindMap i (some c) } } .mapIncidentKind r .ok 0 [])) ∧
     (∀ b, Passes s .defineHeadwayBands r → r.headwayBands = some b →
       exec (.defineHeadwayBands r) s = .next (answered
         { s with lds := { s.lds with bands := some b } } .defineHeadwayBands r .ok 0 []))) ∧
  (∀ (α : Type) (r : Req) (lo hi : Nat) (fields : Option α), r.define lo hi fields = none ↔
    r.u8 0 < lo ∨ hi < r.u8 0 ∨ (r.u8 1 ≠ 1 ∧ r.u8 1 ≠ 2) ∨ (r.u8 1 = 1 ∧ fields = none)) ∧
  (∀ (s : State) (r : Req), s.inService = false → BetweenEvents s →
    (Passes s .defineTimingPoint r → r.define 1 32 r.timingPoint = none →
      exec (.defineTimingPoint r) s = .next (answered s .defineTimingPoint r .outOfRange 0 [])) ∧
    (Passes s .defineSegment r → r.define 1 48 r.segment = none →
      exec (.defineSegment r) s = .next (answered s .defineSegment r .outOfRange 0 [])) ∧
    (Passes s .defineRoute r → r.define 1 4 r.route = none →
      exec (.defineRoute r) s = .next (answered s .defineRoute r .outOfRange 0 [])) ∧
    (Passes s .defineMerge r → r.define 1 2 r.merge = none →
      exec (.defineMerge r) s = .next (answered s .defineMerge r .outOfRange 0 [])) ∧
    (Passes s .defineSubstation r → r.define 1 8 (within 0 15 (r.u8 2)) = none →
      exec (.defineSubstation r) s = .next (answered s .defineSubstation r .outOfRange 0 [])) ∧
    (Passes s .defineSection r → r.define 1 16 r.sectionFields = none →
      exec (.defineSection r) s = .next (answered s .defineSection r .outOfRange 0 [])) ∧
    (Passes s .defineTrainClass r → r.define 1 4 r.trainClass = none →
      exec (.defineTrainClass r) s = .next (answered s .defineTrainClass r .outOfRange 0 [])) ∧
    (Passes s .defineZoneGroup r → r.define 1 16 (some (r.zones 2)) = none →
      exec (.defineZoneGroup r) s = .next (answered s .defineZoneGroup r .outOfRange 0 [])) ∧
    (Passes s .defineDeskClass r → r.define 1 4 r.desks = none →
      exec (.defineDeskClass r) s = .next (answered s .defineDeskClass r .outOfRange 0 [])) ∧
    (Passes s .mapIncidentKind r → r.define 1 6 (DeskClass.ofCode (r.u8 2)) = none →
      exec (.mapIncidentKind r) s = .next (answered s .mapIncidentKind r .outOfRange 0 [])) ∧
    (Passes s .defineHeadwayBands r → r.headwayBands = none →
      exec (.defineHeadwayBands r) s = .next (answered s .defineHeadwayBands r .outOfRange 0 []))) ∧
  ∀ (s : State) (r : Req) (i : Nat), s.inService = false → BetweenEvents s → r.u8 1 = 2 → r.u8 0 = i → 1 ≤ i →
    (Passes s .defineTimingPoint r → i ≤ 32 → exec (.defineTimingPoint r) s = .next (
      if (look s.lds.points i).isSome then answered
        { s with lds := { s.lds with points := put s.lds.points i none } } .defineTimingPoint r .ok 0 []
      else answered s .defineTimingPoint r .noEffect 0 [])) ∧
    (Passes s .defineSegment r → i ≤ 48 → exec (.defineSegment r) s = .next (
      if (look s.lds.segments i).isSome then answered
        { s with lds := { s.lds with segments := put s.lds.segments i none } } .defineSegment r .ok 0 []
      else answered s .defineSegment r .noEffect 0 [])) ∧
    (Passes s .defineRoute r → i ≤ 4 → exec (.defineRoute r) s = .next (
      if (look s.lds.routes i).isSome then answered
        { s with lds := { s.lds with routes := put s.lds.routes i none } } .defineRoute r .ok 0 []
      else answered s .defineRoute r .noEffect 0 [])) ∧
    (Passes s .defineMerge r → i ≤ 2 → exec (.defineMerge r) s = .next (
      if (look s.lds.merges i).isSome then answered
        { s with lds := { s.lds with merges := put s.lds.merges i none } } .defineMerge r .ok 0 []
      else answered s .defineMerge r .noEffect 0 [])) ∧
    (Passes s .defineSubstation r → i ≤ 8 → exec (.defineSubstation r) s = .next (
      if (look s.lds.substations i).isSome then answered
        { s with lds := { s.lds with substations := put s.lds.substations i none } } .defineSubstation r .ok 0 []
      else answered s .defineSubstation r .noEffect 0 [])) ∧
    (Passes s .defineSection r → i ≤ 16 → exec (.defineSection r) s = .next (
      if (look s.lds.sections i).isSome then answered
        { s with lds := { s.lds with sections := put s.lds.sections i none } } .defineSection r .ok 0 []
      else answered s .defineSection r .noEffect 0 [])) ∧
    (Passes s .defineTrainClass r → i ≤ 4 → exec (.defineTrainClass r) s = .next (
      if (look s.lds.classes i).isSome then answered
        { s with lds := { s.lds with classes := put s.lds.classes i none } } .defineTrainClass r .ok 0 []
      else answered s .defineTrainClass r .noEffect 0 [])) ∧
    (Passes s .defineZoneGroup r → i ≤ 16 → exec (.defineZoneGroup r) s = .next (
      if get1 s.lds.zoneGroups i = some 0 then answered s .defineZoneGroup r .noEffect 0 []
      else answered
        { s with lds := { s.lds with zoneGroups := mod1 s.lds.zoneGroups i fun _ => 0 } } .defineZoneGroup r .ok 0 [])) ∧
    (Passes s .defineDeskClass r → i ≤ 4 → exec (.defineDeskClass r) s = .next (
      if (look s.lds.deskClasses i).isSome then answered
        { s with lds := { s.lds with deskClasses := put s.lds.deskClasses i none } } .defineDeskClass r .ok 0 []
      else answered s .defineDeskClass r .noEffect 0 [])) ∧
    (Passes s .mapIncidentKind r → i ≤ 6 → exec (.mapIncidentKind r) s = .next (
      if (look s.lds.kindMap i).isSome then answered
        { s with lds := { s.lds with kindMap := put s.lds.kindMap i none } } .mapIncidentKind r .ok 0 []
      else answered s .mapIncidentKind r .noEffect 0 []))

/-- In SERVICE every description request that would write is refused LOCKED with nothing changed, and so is a line
parameter that is not adjustable; ENTER_SERVICE is answered NO_EFFECT (R2, R12, R15). -/
def Obligations.DescriptionLocked : Prop :=
  ∀ (c : Instr) (k : ReqKind) (r : Req) (s : State), s.inService = true → BetweenEvents s → Passes s k r →
    (c.request? = some (k, r) → k ∈ [ReqKind.defineTimingPoint, .defineSegment, .defineRoute, .defineMerge,
        .defineSubstation, .defineSection, .defineTrainClass, .defineZoneGroup, .defineDeskClass, .mapIncidentKind,
        .defineClient, .defineHeadwayBands] →
      exec c s = .next (answered s k r .locked 0 [])) ∧
    (k = .setLineParameter → r.u8 0 ∈ [3, 4, 5, 6] →
      exec (.setLineParameter r) s = .next (answered s k r .locked 0 [])) ∧
    (k = .enterService → exec (.enterService r) s = .next (answered s k r .noEffect 0 []))

/-- DEFINE_CLIENT in SETUP writes the client's entry; removing a client or giving it another role or desk empties its
pending list and clears its notice-lost mark (R11, R180). SET_LINE_PARAMETER writes the one parameter it names where it
may, in SERVICE an adjustable one; a new regulation weight in SERVICE has every DWELLING run's release computed again
(R12, R13, R79). A client number, an action or a field outside its range, and a parameter or a value outside its range,
are answered OUT_OF_RANGE with nothing changed, and so is the removal of the template in SERVICE. The body layouts and
the absent desk's code are the model's (logs 11, 12). -/
def Obligations.ClientsAndParametersSet : Prop :=
  ∀ (s : State) (r : Req), BetweenEvents s →
    (∀ i x, s.inService = false → Passes s .defineClient r → r.define 0 7 r.clientFields = some (i, some x) →
      exec (.defineClient r) s = .next (answered
        { s with
          lds := { s.lds with clients := mod0 s.lds.clients i fun _ => x }
          crp := { s.crp with
            notices := if get0 s.lds.clients i = some x then s.crp.notices
              else mod0 s.crp.notices i fun _ => ⟨[], false⟩ } } .defineClient r .ok 0 [])) ∧
    (∀ i x, s.inService = false → Passes s .defineClient r → r.define 0 7 r.clientFields = some (i, none) →
      get0 s.lds.clients i = some x → exec (.defineClient r) s = .next (
        if x.configured then answered
          { s with
            lds := { s.lds with clients := mod0 s.lds.clients i fun _ => ⟨false, .view, none⟩ }
            crp := { s.crp with notices := mod0 s.crp.notices i fun _ => ⟨[], false⟩ } } .defineClient r .ok 0 []
        else answered s .defineClient r .noEffect 0 [])) ∧
    (s.inService = false → Passes s .defineClient r → r.define 0 7 r.clientFields = none →
      exec (.defineClient r) s = .next (answered s .defineClient r .outOfRange 0 [])) ∧
    (Passes s .setLineParameter r → ParamKind.ofCode (r.u8 0) = none ∨
        (∃ k, ParamKind.ofCode (r.u8 0) = some k ∧ (s.inService = true → k.adjustable = true) ∧
          (r.paramSetting k = none ∨ (s.inService = true ∧ r.paramSetting k = some (.template none)))) →
      exec (.setLineParameter r) s = .next (answered s .setLineParameter r .outOfRange 0 [])) ∧
    (∀ k x, Passes s .setLineParameter r → ParamKind.ofCode (r.u8 0) = some k → r.paramSetting k = some x →
      (s.inService = true → k.adjustable = true ∧ x ≠ .template none) →
      (s.lds.params.set x = s.lds.params →
        exec (.setLineParameter r) s = .next (answered s .setLineParameter r .noEffect 0 [])) ∧
      (s.lds.params.set x ≠ s.lds.params → (s.inService = true → k ≠ .weight) →
        exec (.setLineParameter r) s = .next (answered
          { s with lds := { s.lds with params := s.lds.params.set x } } .setLineParameter r .ok 0 [])) ∧
      (∀ v, s.inService = true → x = .weight v → v ≠ s.lds.params.w →
        ∃ t, exec (.setLineParameter r) s = .next t ∧ Answers s t .setLineParameter r .ok 0 [] ∧ WeightWritten s t v))

/-- A description that passes validation has what every row of R14's table asks for: every train class; feeders that
exist and differ; timing points with a segment, at most two in and two out, and two in only at a merge; segments between
two different timing points of one direction that no other segment joins, inside their section; merges at timing points
of their own, whose incoming segments are the two feeds; a route, and routes of different, joined timing points; a
SUPERVISOR desk class, desk classes within desk 7 that share no desk; a class for every mapped incident kind; a
configured SUPERVISOR client; headway bands and a delay template. -/
def Obligations.ValidatedDescription : Prop :=
  ∀ d : Lds, d.validate = none →
    (∀ i, 1 ≤ i → i ≤ 4 → (look d.classes i).isSome) ∧ (∃ i, (look d.routes i).isSome) ∧ d.bands.isSome ∧
    d.params.template.isSome ∧
    (∀ i x, look d.sections i = some x → (look d.substations x.primary).isSome ∧
      ∀ y, x.secondary = some y → (look d.substations y).isSome ∧ y ≠ x.primary) ∧
    (∀ p x, look d.points p = some x →
      (∃ i g, look d.segments i = some g ∧ (g.fromTp = p ∨ g.toTp = p)) ∧
      (d.incoming p).length ≤ 2 ∧ (d.outgoing p).length ≤ 2 ∧
      ((d.incoming p).length = 2 → ∃ i m, look d.merges i = some m ∧ m.tp = p)) ∧
    (∀ i g, look d.segments i = some g → g.fromTp ≠ g.toTp ∧
      (∃ a b, look d.points g.fromTp = some a ∧ look d.points g.toTp = some b ∧ a.dir = b.dir) ∧
      (∃ x, look d.sections g.sec = some x ∧ x.lo ≤ g.lo ∧ g.hi ≤ x.hi) ∧
      ∀ j h, look d.segments j = some h → h.fromTp = g.fromTp → h.toTp = g.toTp → j = i) ∧
    (∀ i m, look d.merges i = some m → (look d.points m.tp).isSome ∧
      (∀ j n, look d.merges j = some n → n.tp = m.tp → j = i) ∧
      ∀ g, (∃ x, look d.segments g = some x ∧ x.toTp = m.tp) ↔ g = m.main ∨ g = m.branch) ∧
    (∀ i l, look d.routes i = some l → l.Nodup ∧ (∀ p ∈ l, (look d.points p).isSome) ∧ d.joined l = true) ∧
    (look d.deskClasses DeskClass.supervisor.index).isSome ∧
    (∀ i x, look d.deskClasses i = some x → x.base + x.size ≤ 8 ∧
      ∀ j y, look d.deskClasses j = some y → i ≠ j → x.base + x.size ≤ y.base ∨ y.base + y.size ≤ x.base) ∧
    (∀ i c, look d.kindMap i = some c → (look d.deskClasses c.index).isSome) ∧
    (∃ i c, get0 d.clients i = some c ∧ c.configured = true ∧ c.role = .supervisor)

/-- ENTER_SERVICE on a valid description makes the mode SERVICE and starts every block's live state: the horizon watch
is armed and evaluated, which posts TIMETABLE_LOW below the low-water mark, and every board is sent blank, ascending,
and then evaluated; on a description that fails, the answer names the first failing check and nothing changes (R14, R15,
R53, R71, R99, R100, R105, R114, R147, R171). The order of the desk class checks and the answer's item are the model's
(logs 18, 33). RETURN_TO_SETUP drops the live state of every block and keeps the incident and announcement tables; it is
refused BAD_STATE while a run or an incident is live or a channel is not DISABLED, and NO_EFFECT in SETUP (R16, R53,
R72, R99, R147, R171). -/
def Obligations.ServiceEnteredAndLeft : Prop :=
  (∀ (s : State) (r : Req), s.inService = false → BetweenEvents s → Passes s .enterService r →
     (s.lds.validate = none → ∃ t, exec (.enterService r) s = .next t ∧ Answers s t .enterService r .ok 0 [] ∧
       t.lds = { s.lds with mode := .service } ∧ t.lck = s.lck ∧ t.pending = s.pending ∧ t.itb.slots = s.itb.slots ∧
       t.piu.slots = s.piu.slots ∧ t.piu.channels = s.piu.channels ∧ t.rtb.slots = s.rtb.slots ∧
       t.rtb.counters = s.rtb.counters ∧
       t.mvt = ⟨Vector.replicate 48 ⟨[], 0, []⟩, Vector.replicate 2 [], Vector.replicate 32 TpLive.empty, false,
         some (min (s.lck.clock + s.lds.params.tStale) 107999)⟩ ∧
       t.drg = { s.drg with recs := Vector.replicate 128 RegRec.clear, arbiters := Vector.replicate 2 Arbiter.clear } ∧
       (∀ i, t.sub i = (look s.lds.substations i).map fun _ => ⟨.offline, 0, 0, []⟩) ∧ (∀ i, t.claim i = none) ∧
       (∀ i, t.sec i = (look s.lds.sections i).map fun _ => ⟨.unknown, false, 0, none, none, false⟩) ∧
       (∀ d, t.desk d = []) ∧ (∀ c, look t.itb.pendingSet c = none) ∧
       (∀ z x y, get1 s.piu.zones z = some x → get1 t.piu.zones z = some y → y = { x with derived := .none }) ∧
       (∀ p x, look s.lds.points p = some x → ((look t.piu.boards p).isSome ↔ x.board = true)) ∧
       t.rtb.horizonCount = t.horizon ∧ t.rtb.armed = decide (s.lds.params.lwm ≤ t.horizon) ∧
       ((∀ i, s.runAt i = none) → t.rtb.horizonCount = 0) ∧ Posted s t (s.timetableNotice true t.horizon) ∧
       (∀ p b, look t.piu.boards p = some b → b = t.boardContent p) ∧
       Created s t .board
         (((ids 32).filterMap fun p => (look t.piu.boards p).map fun _ =>
             .boardUpdate p Board.empty.line1 Board.empty.line2) ++
           (ids 32).filterMap fun p => (look t.piu.boards p).bind fun b =>
             if b = Board.empty then none else some (.boardUpdate p b.line1 b.line2))) ∧
     (∀ k i f, s.lds.validate = some (k, i, f) →
       exec (.enterService r) s =
         .next (answered s .enterService r .outOfRange 0 (enc8 k.code ++ enc8 i ++ enc8 f.code)))) ∧
  ∀ (s : State) (r : Req), BetweenEvents s → Passes s .returnToSetup r →
    (s.inService = false → exec (.returnToSetup r) s = .next (answered s .returnToSetup r .noEffect 0 [])) ∧
    (s.inService = true →
      (∃ i x, s.runAt i = some x) ∨ (∃ i x, s.incAt i = some x) ∨
        (∃ c x, get0 s.piu.channels c = some x ∧ x.state ≠ .disabled) →
      exec (.returnToSetup r) s = .next (answered s .returnToSetup r .badState 0 [])) ∧
    (s.inService = true → (∀ i, s.runAt i = none) → (∀ i, s.incAt i = none) →
      (∀ c x, get0 s.piu.channels c = some x → x.state = .disabled) →
      ∃ t, exec (.returnToSetup r) s = .next t ∧ Answers s t .returnToSetup r .ok 0 [] ∧
        t.lds = { s.lds with mode := .setup } ∧ t.lck = s.lck ∧ t.pending = s.pending ∧
        t.rtb = { s.rtb with horizonCount := 0, armed := true } ∧
        t.mvt = ⟨Vector.replicate 48 ⟨[], 0, []⟩, Vector.replicate 2 [], Vector.replicate 32 TpLive.empty, false, none⟩ ∧
        t.drg = { s.drg with recs := Vector.replicate 128 RegRec.clear, arbiters := Vector.replicate 2 Arbiter.clear } ∧
        (∀ i, t.sub i = none) ∧ (∀ i, t.claim i = none) ∧ (∀ i, t.sec i = none) ∧
        t.itb = { s.itb with desks := Vector.replicate 8 [], pendingSet := Vector.replicate 5 none } ∧
        t.piu.slots = s.piu.slots ∧ t.piu.channels = s.piu.channels ∧ t.piu.classMap = s.piu.classMap ∧
        (∀ p, look t.piu.boards p = none) ∧ t.fli = s.fli.startFrame)

/-! ## The lookups -/

/-- A lookup that names an object of the locked description by number answers its live record, and changes nothing; the
forms that name nothing are BAD_STATE, OUT_OF_RANGE or NOT_FOUND (R73, R124, R172). The layouts and widths of the
answers are the model's (logs 13, 14, 16, 17, 33). A lookup by handle answers the live record, and changes nothing; a
handle that resolves to no live record is STALE or NOT_FOUND. LOOKUP_RUN answers at most 12 stops from the one it names;
FIND_RUN answers the handle and the state of the live run with a number (R47, R48, R146, R172, R195). The layouts and
widths of the answers are the model's (logs 14, 16, 33). -/
def Obligations.RecordLookups : Prop :=
  (∀ (c : Instr) (k : ReqKind) (r : Req) (s : State) (n : Nat) (known : Nat → Bool) (body : Nat → List Byte),
     (c, k, n, known, body) ∈
       [(.lookupPoint r, ReqKind.lookupPoint, 32, fun i => (s.point i).isSome, s.pointAnswer),
        (.lookupSegment r, .lookupSegment, 48, fun i => (s.segment i).isSome, s.segmentAnswer),
        (.lookupSubstation r, .lookupSubstation, 8, fun i => (s.sub i).isSome, s.substationAnswer),
        (.lookupSection r, .lookupSection, 16, fun i => (s.sec i).isSome, s.sectionAnswer),
        (.lookupBoard r, .lookupBoard, 32, fun p => (look s.piu.boards p).isSome,
          fun p => (look s.piu.boards p).elim [] fun b => b.line1.entry ++ b.line2.entry)] →
     BetweenEvents s → Passes s k r →
     exec c s = .next (
       if s.inService = false then answered s k r .badState 0 []
       else if r.u8 0 < 1 ∨ n < r.u8 0 then answered s k r .outOfRange 0 []
       else if known (r.u8 0) = true then answered s k r .ok 0 (body (r.u8 0))
       else answered s k r .notFound 0 [])) ∧
  ∀ (r : Req) (s : State), BetweenEvents s →
    (Passes s .lookupRun r →
      (∀ i x, s.resolveRun r.principal = .live i → s.runAt i = some x →
        exec (.lookupRun r) s = .next (
          if 1 ≤ r.u8 0 ∧ r.u8 0 ≤ x.count then answered s .lookupRun r .ok r.principal (
            enc16 x.number ++ enc8 x.route ++ enc8 x.cls ++ enc8 x.state.code ++ enc8 x.count ++ enc8 x.cur ++
              enc8 x.causes.byte ++ encBool x.claimPresent ++ encFourHandles x.incidents ++ encHandle x.autoDelay ++
              encLateness x.lateness ++ enc8 (r.u8 0) ++ enc8 (min 12 (x.count - (r.u8 0 - 1))) ++
              ((x.stops.drop (r.u8 0 - 1)).take 12).flatMap encStop)
          else answered s .lookupRun r .outOfRange r.principal [])) ∧
      (s.resolveRun r.principal = .stale →
        exec (.lookupRun r) s = .next (answered s .lookupRun r .stale r.principal [])) ∧
      (s.resolveRun r.principal = .notFound ∨ s.resolveRun r.principal = .zero →
        exec (.lookupRun r) s = .next (answered s .lookupRun r .notFound r.principal []))) ∧
    (Passes s .findRun r →
      (∀ i x, 1 ≤ r.u16 0 → r.u16 0 ≤ 9999 → s.runAt i = some x → x.number = r.u16 0 →
        (∀ j y, s.runAt j = some y → y.number = r.u16 0 → j = i) →
        exec (.findRun r) s = .next (answered s .findRun r .ok 0 (enc16 (s.runHandle i) ++ enc8 x.state.code))) ∧
      (1 ≤ r.u16 0 → r.u16 0 ≤ 9999 → (∀ j y, s.runAt j = some y → y.number ≠ r.u16 0) →
        exec (.findRun r) s = .next (answered s .findRun r .notFound 0 [])) ∧
      (r.u16 0 = 0 ∨ 9999 < r.u16 0 → exec (.findRun r) s = .next (answered s .findRun r .outOfRange 0 []))) ∧
    (Passes s .lookupIncident r →
      (∀ i x, s.resolveInc r.principal = .live i → s.incAt i = some x → exec (.lookupIncident r) s =
        .next (answered s .lookupIncident r .ok r.principal (incidentBody x))) ∧
      (s.resolveInc r.principal = .stale →
        exec (.lookupIncident r) s = .next (answered s .lookupIncident r .stale r.principal [])) ∧
      (s.resolveInc r.principal = .notFound ∨ s.resolveInc r.principal = .zero →
        exec (.lookupIncident r) s = .next (answered s .lookupIncident r .notFound r.principal []))) ∧
    (Passes s .lookupAnnouncement r →
      (∀ i a, s.resolveAnn r.principal = .live i → s.annAt i = some a → exec (.lookupAnnouncement r) s =
        .next (answered s .lookupAnnouncement r .ok r.principal (announcementBody a))) ∧
      (s.resolveAnn r.principal = .stale →
        exec (.lookupAnnouncement r) s = .next (answered s .lookupAnnouncement r .stale r.principal [])) ∧
      (s.resolveAnn r.principal = .notFound ∨ s.resolveAnn r.principal = .zero →
        exec (.lookupAnnouncement r) s = .next (answered s .lookupAnnouncement r .notFound r.principal [])))

/-- The lookups of a whole block, in SETUP and in SERVICE, answer from the state at the moment they are taken and change
nothing, but for LINE_STATUS, which clears the requester's notice-lost mark after its answer is formed (R17, R29, R52,
R99, R146, R172, R184). The layouts and widths of the answers are the model's (logs 13, 15, 16, 17, 33, 45). -/
def Obligations.WholeLookups : Prop :=
  ∀ (r : Req) (s : State), BetweenEvents s →
    (∀ k, Passes s .lookupLine r → ItemKind.ofCode (r.u8 0) = some k → r.u8 1 ≤ k.last →
      exec (.lookupLine r) s = .next ((s.lds.itemBody k (r.u8 1)).elim (answered s .lookupLine r .notFound 0 [])
        fun b => answered s .lookupLine r .ok 0 b)) ∧
    (Passes s .lookupLine r → (∀ k, ItemKind.ofCode (r.u8 0) = some k → k.last < r.u8 1) →
      exec (.lookupLine r) s = .next (answered s .lookupLine r .outOfRange 0 [])) ∧
    (Passes s .lookupCounters r → exec (.lookupCounters r) s = .next (answered s .lookupCounters r .ok 0 (
      (ids 4).flatMap fun i =>
        if (look s.lds.routes i).isSome then
          ((get1 s.rtb.counters i).elim [] fun c =>
            enc16 c.onTime ++ enc16 c.late ++ enc16 c.veryLate ++ enc16 c.cancelled)
        else enc16 0 ++ enc16 0 ++ enc16 0 ++ enc16 0))) ∧
    (Passes s .lookupRegulation r → exec (.lookupRegulation r) s = .next (answered s .lookupRegulation r .ok 0 (
      enc8 s.drg.mode.code ++ enc8 s.lds.params.w ++ enc16 s.lds.params.tDep ++ enc16 s.drg.releasedCount ++
        encList ((ids 2).filter fun m => (s.mergeDef m).isSome) s.mergeAnswer))) ∧
    (Passes s .lookupDesk r → exec (.lookupDesk r) s = .next (
      if r.u8 0 ≤ 7 then answered s .lookupDesk r .ok 0
        (encList (s.desk (r.u8 0)) s.deskEntry ++ enc8 (deskSet fun d => !(s.desk d).isEmpty))
      else answered s .lookupDesk r .outOfRange 0 [])) ∧
    (Passes s .lookupChannel r → exec (.lookupChannel r) s = .next (
      if r.u8 0 ≤ 3 then answered s .lookupChannel r .ok 0 (s.channelBody (s.chan (r.u8 0)))
      else answered s .lookupChannel r .outOfRange 0 [])) ∧
    (Passes s .lookupZones r → exec (.lookupZones r) s = .next (answered s .lookupZones r .ok 0 (
      s.piu.zones.toList.flatMap fun z => enc8 z.set.code ++ enc8 z.derived.code ++ enc8 z.effective.code))) ∧
    (Passes s .lineStatus r → exec (.lineStatus r) s = .next (answered
      { s with crp := { s.crp with notices := mod0 s.crp.notices r.client.toNat fun x => { x with lost := false } } }
      .lineStatus r .ok 0 s.statusBody))

/-! ## The Line Clock and the service day -/

/-- CLOCK_ADVANCE moves the clock one second on below the last second of the day; onto a multiple of 60 a minute
boundary is marked due, which is the model's mark (log 9). Nothing else changes; CLOCK_END below that second is no event
(log 10). SET_CLOCK writes clock and day in SETUP; in SERVICE it steps at most 3,600 s forward within the day. The
refusals change nothing (R18, R19, R22, R23, R24, R27); a multiple of 60 stepped over marks a minute boundary due, which
is the model's mark (log 9). A due minute boundary is taken once: in SERVICE the horizon count is formed again,
TIMETABLE_LOW goes to the DISPATCH clients where it lies below the low-water mark while the watch is armed and no other
notice is posted, every board is re-evaluated, those whose content differs sent ascending by timing point, and nothing
else of the blocks' records changes; in SETUP nothing happens (R19, R49, R50, R170, R179). A board shows the first two
of its candidates: RUNNING runs in an incoming segment's queue and runs standing before an incoming segment with their
next stop there, in the order of R169, each with its minutes and marks. The mark of a due boundary is the model's (log
9). -/
def Obligations.ClockAdvancedAndSet : Prop :=
  ((∀ s : State, s.lck.clock < 107998 →
     exec .clockAdvance s = .next { s with
       lck := { s.lck with
         clock := s.lck.clock + 1
         minuteDue := s.lck.minuteDue || (s.lck.clock + 1) % 60 == 0 } } ∧
     exec .clockEnd s = .next s) ∧
   ∀ (s : State) (r : Req), BetweenEvents s → Passes s .setClock r →
     exec (.setClock r) s = .next (
       if 107998 < r.u24 0 then answered s .setClock r .outOfRange 0 []
       else if s.inService = false then
         if r.u24 0 = s.lck.clock ∧ r.u16 3 = s.lck.day then answered s .setClock r .noEffect 0 []
         else answered { s with lck := { s.lck with clock := r.u24 0, day := r.u16 3 } } .setClock r .ok 0 []
       else if r.u16 3 ≠ s.lck.day then answered s .setClock r .tooLate 0 []
       else if r.u24 0 = s.lck.clock then answered s .setClock r .noEffect 0 []
       else if r.u24 0 < s.lck.clock ∨ s.lck.clock + 3600 < r.u24 0 then answered s .setClock r .outOfRange 0 []
       else answered
         { s with lck := { s.lck with
           clock := r.u24 0
           minuteDue := s.lck.minuteDue || decide (s.lck.clock / 60 < r.u24 0 / 60) } } .setClock r .ok 0 [])) ∧
  (∀ (s : State) (p : Nat),
    (s.boardCandidates p).Pairwise (fun a b => a.arrival < b.arrival ∨ (a.arrival = b.arrival ∧ a.key ≤ b.key)) ∧
    (∀ c, c ∈ s.boardCandidates p ↔ s.predict c.run p = some c.arrival ∧ ∃ g ∈ s.lds.incoming p,
      (∃ q h, (s.seg g).queue[q]? = some h ∧ s.runOf h = some c.run ∧ c.run.state = .running ∧
        c.key = 256 * g + q) ∨
      (∃ d i, s.segment g = some d ∧ s.runAt i = some c.run ∧
        (c.run.state = .dwelling ∨ c.run.state = .held ∨ c.run.state = .released) ∧
        c.run.tpAt c.run.cur = d.fromTp ∧ c.run.nextTp = p ∧ c.key = 65536 + 256 * g)) ∧
    ∀ n line, (n = 0 ∧ line = (s.boardContent p).line1) ∨ (n = 1 ∧ line = (s.boardContent p).line2) →
      ((s.boardCandidates p)[n]? = none → line = ⟨none, none, false, false⟩) ∧
      ∀ c, (s.boardCandidates p)[n]? = some c → line.run = some c.run.number ∧
        line.minutes = some (min 30 ((c.arrival - s.lck.clock + 59) / 60)) ∧
        (line.delay = true ↔ c.run.autoDelay ≠ none) ∧
        ∀ m st, c.run.indexAt p = some m → c.run.stopAt m = some st →
          (line.notStopping = true ↔ st.kind = .pass ∨ st.skipped = true)) ∧
  ∀ s : State, s.lck.minuteDue = true → BetweenEvents s →
    (s.inService = false → exec .minuteBoundary s = .next { s with lck := { s.lck with minuteDue := false } }) ∧
    (s.inService = true → ∃ t, exec .minuteBoundary s = .next t ∧ t.lck = { s.lck with minuteDue := false } ∧
      t.rtb = { s.rtb with
        horizonCount := s.horizon
        armed := decide (s.lds.params.lwm ≤ s.horizon) } ∧
      (∀ p b, look s.piu.boards p = some b →
        look t.piu.boards p = some (if s.mvt.stale then b.hold else s.boardContent p)) ∧
      Created s t .board ((ids 32).filterMap fun p => (look s.piu.boards p).bind fun b =>
        if s.boardNow p b = b then none
        else some (.boardUpdate p (s.boardNow p b).line1 (s.boardNow p b).line2)) ∧
      (∃ notices, t.crp = { s.crp with notices := notices }) ∧ Posted s t (s.timetableNotice s.rtb.armed s.horizon) ∧
      t.lds = s.lds ∧ t.mvt = s.mvt ∧ t.drg = s.drg ∧
      t.tpc = s.tpc ∧ t.itb = s.itb ∧ t.piu.slots = s.piu.slots ∧ t.piu.channels = s.piu.channels ∧
      t.piu.zones = s.piu.zones ∧ t.pending = s.pending)

/-- END_DAY, CLOCK_END and the clock's advance from its last second take the rollover, in SERVICE over every block; in
SETUP the clock and the announcements' times alone (R26, R27, R28); what each block does then is R54, R71, R72, R99,
R125, R148 and R171, with R21 for the timers carried and R50 for the horizon watch: REVOKE for every RELEASED run, the
CLEARED incidents retired, a BOARD_UPDATE for every board, and a LINE_EVENT notice to every configured client. END_DAY
is BAD_STATE in SETUP and TOO_LATE for another day. The order of the steps and the clock's end are the model's (logs 10,
28), and so are the minute mark that is kept (log 9) and the expiry time that an announcement keeps as given while its
timer is carried (log 24). -/
def Obligations.DayRollsOver : Prop :=
  ∀ (s : State), BetweenEvents s →
    (s.inService = true → 107998 ≤ s.lck.clock →
      (∃ t, exec .clockAdvance s = .next t ∧ DayCleared s t .clockEnd 107999) ∧
      (∃ t, exec .clockEnd s = .next t ∧ DayCleared s t .clockEnd 107999)) ∧
    (s.inService = false → 107998 ≤ s.lck.clock →
      ∀ c ∈ [Instr.clockAdvance, Instr.clockEnd], ∃ t, exec c s = .next t ∧
        t.lck = { s.lck with clock := 0, day := (s.lck.day + 1) % 65536, lastRollover := some (.clockEnd, 107999) } ∧
        t.lds = s.lds ∧ t.rtb = s.rtb ∧ t.mvt = s.mvt ∧ t.drg = s.drg ∧ t.tpc = s.tpc ∧ t.itb = s.itb ∧
        t.crp = s.crp ∧ t.pending = s.pending ∧
        ∀ i a, s.annAt i = some a → t.annAt i = some (a.carry 107999)) ∧
    (∀ r : Req, Passes s .endDay r →
      (s.inService = false → exec (.endDay r) s = .next (answered s .endDay r .badState 0 [])) ∧
      (s.inService = true → r.u16 0 ≠ s.lck.day →
        exec (.endDay r) s = .next (answered s .endDay r .tooLate 0 [])) ∧
      (s.inService = true → r.u16 0 = s.lck.day → ∃ t, exec (.endDay r) s = .next t ∧
        Answers s t .endDay r .ok 0 [] ∧ DayCleared s t .endDay s.lck.clock))

/-! ## The Run Table -/

/-- LOAD_RUN of a valid run with a free number makes the lowest free slot live, PLANNED, with its placement timer set,
and answers its handle; the horizon count is formed again, with its notice; every other run, the track, the power and
the incidents stay. In SETUP it is BAD_STATE, an invalid body OUT_OF_RANGE, a live run's number DUPLICATE and a full
table FULL, in this order and with nothing changed (R35, R36, R37, R50). The body layout is the model's (log 11). -/
def Obligations.RunLoaded : Prop :=
  (∀ (s : State) (b : LoadBody), s.loadValid b = true ↔ LoadFits s b) ∧
  ∀ (s : State) (r : Req), BetweenEvents s → Passes s .loadRun r →
    (s.inService = false → exec (.loadRun r) s = .next (answered s .loadRun r .badState 0 [])) ∧
    (s.inService = true → r.load = none ∨ (∃ b, r.load = some b ∧ ¬LoadFits s b) →
      exec (.loadRun r) s = .next (answered s .loadRun r .outOfRange 0 [])) ∧
    (∀ b, s.inService = true → r.load = some b → LoadFits s b →
      ((∃ j x, s.runAt j = some x ∧ x.number = b.number) →
        exec (.loadRun r) s = .next (answered s .loadRun r .duplicate 0 [])) ∧
      ((∀ j x, s.runAt j = some x → x.number ≠ b.number) → (∀ i, 1 ≤ i → i ≤ 128 → s.runAt i ≠ none) →
        exec (.loadRun r) s = .next (answered s .loadRun r .full 0 [])) ∧
      (∀ i, (∀ j x, s.runAt j = some x → x.number ≠ b.number) → 1 ≤ i → i ≤ 128 → s.runAt i = none →
        (∀ j, 1 ≤ j → j < i → s.runAt j ≠ none) →
        ∃ t, exec (.loadRun r) s = .next t ∧ Answers s t .loadRun r .ok (s.runHandle i) [] ∧ Steady s t ∧
          (∃ x, t.runAt i = some x ∧ x.number = b.number ∧ x.route = b.route ∧ x.cls = b.cls ∧ x.state = .planned ∧
            x.stops = b.stops ∧ x.cur = 1 ∧ x.causes = Causes.none ∧ x.claimPresent = false ∧ x.incidents = [] ∧
            x.autoDelay = none ∧ x.lateness = none ∧ x.placeWaiting = false ∧
            x.placeTimer = some (((x.stopAt 1).bind (·.schedDep)).getD 0 - (s.point (x.tpAt 1)).elim 0 (·.dMin))) ∧
          (∀ j, j ≠ i → t.runAt j = s.runAt j) ∧ (∀ j, t.runHandle j = s.runHandle j) ∧
          t.rtb.counters = s.rtb.counters ∧ t.rtb.horizonCount = t.horizon ∧
          t.rtb.armed = decide (s.lds.params.lwm ≤ t.horizon) ∧
          Posted s t (s.timetableNotice s.rtb.armed t.horizon) ∧ t.mvt = s.mvt ∧ t.tpc = s.tpc ∧
          t.itb = s.itb ∧ t.piu = s.piu ∧
          t.drg = { s.drg with recs := mod1 s.drg.recs i fun _ => RegRec.clear } ∧ t.fli = s.fli.startFrame))

/-- AMEND_RUN with an amendment that fits writes the new scheduled times and no other part of any stop but the computed
release of the current one: with the scheduled departure of a stop at which the run stands moved, a DWELLING run's
release is computed again, and a HELD run returns to DWELLING where the new release lies ahead; any other release stays.
A PLANNED run whose first departure moves gets its new placement time, goes on waiting where that is not ahead of the
clock, and the horizon count is formed again, with its notice. A TERMINATED or CANCELLED run is BAD_STATE; a stop
outside the list or times that break the order OUT_OF_RANGE; a stop arrived at BAD_STATE; the times that stand already
NO_EFFECT, in this order and with nothing changed (R41, R42, R50, R79, R80). The body layout is the model's (log 11), and
so is it that a skipped stop of kind STOP may get an arrival and a departure that differ (log 58). -/
def Obligations.RunAmended : Prop :=
  ∀ (s : State) (r : Req) (i : Nat) (x : Run), BetweenEvents s →
    Passes s .amendRun r → s.resolveRun r.principal = .live i → s.runAt i = some x →
    (x.state = .terminated ∨ x.state = .cancelled →
      exec (.amendRun r) s = .next (answered s .amendRun r .badState r.principal [])) ∧
    (x.state ≠ .terminated → x.state ≠ .cancelled →
      (r.amend = none → exec (.amendRun r) s = .next (answered s .amendRun r .outOfRange r.principal [])) ∧
      ∀ k es, r.amend = some (k, es) →
        (k < 1 ∨ x.count < k + es.length - 1 →
          exec (.amendRun r) s = .next (answered s .amendRun r .outOfRange r.principal [])) ∧
        (1 ≤ k → k + es.length - 1 ≤ x.count →
          (∃ j e st, es[j]? = some e ∧ x.stopAt (k + j) = some st ∧
              timesFit x.count (k + j) st.kind e.1 e.2 = false) ∨
            nonDecreasing (schedule (amendStops x.stops k es)) = false →
          exec (.amendRun r) s = .next (answered s .amendRun r .outOfRange r.principal [])) ∧
        (1 ≤ k → k + es.length - 1 ≤ x.count →
          (∀ j e st, es[j]? = some e → x.stopAt (k + j) = some st →
            timesFit x.count (k + j) st.kind e.1 e.2 = true) →
          nonDecreasing (schedule (amendStops x.stops k es)) = true →
          ((∃ j e, es[j]? = some e ∧ x.amendable (k + j) e.1 = false) →
            exec (.amendRun r) s = .next (answered s .amendRun r .badState r.principal [])) ∧
          ((∀ j e, es[j]? = some e → x.amendable (k + j) e.1 = true) → amendStops x.stops k es = x.stops →
            exec (.amendRun r) s = .next (answered s .amendRun r .noEffect r.principal []))) ∧
        (AmendmentFits x k es →
          ∃ t y, exec (.amendRun r) s = .next t ∧ Answers s t .amendRun r .ok r.principal [] ∧ Steady s t ∧
            t.runAt i = some y ∧ y.plan = (amendStops x.stops k es).map Stop.plan ∧ y.number = x.number ∧
            y.cur = x.cur ∧
            (x.state = .planned → y.state = .planned ∧ y.placeTimer =
              if (y.stopAt 1).map (·.schedDep) = (x.stopAt 1).map (·.schedDep) then x.placeTimer
              else some (((y.stopAt 1).bind (·.schedDep)).getD 0 - (s.point (y.tpAt 1)).elim 0 (·.dMin))) ∧
            (x.state = .planned → (y.stopAt 1).map (·.schedDep) = (x.stopAt 1).map (·.schedDep) →
              y.placeWaiting = x.placeWaiting ∧ t.rtb.horizonCount = s.rtb.horizonCount ∧ Posted s t []) ∧
            (x.state = .planned → s.inService = true → (y.stopAt 1).map (·.schedDep) ≠ (x.stopAt 1).map (·.schedDep) →
              (y.placeWaiting = true ↔ x.placeWaiting = true ∧ ∀ e, y.placeTimer = some e → e ≤ s.lck.clock) ∧
              t.rtb.horizonCount = t.horizon ∧ Posted s t (s.timetableNotice s.rtb.armed t.horizon)) ∧
            (∀ j, j ≠ x.cur → (y.stopAt j).map (·.release) = (x.stopAt j).map (·.release)) ∧
            ((x.state ≠ .dwelling ∧ x.state ≠ .held) ∨ y.curDep = x.curDep ∨ x.computable = false ∨
                x.causes.departureFailed = true → y.state = x.state ∧ y.stops = amendStops x.stops k es) ∧
            (y.curDep ≠ x.curDep → x.computable = true → x.causes.departureFailed = false →
              (x.state = .dwelling → y.state = .dwelling ∧ (y.stopAt x.cur).bind (·.release) =
                some ((s.releaseInputs { x with stops := amendStops x.stops k es }).releaseTime s.lck.clock)) ∧
              (x.state = .held →
                if (s.releaseInputs { x with stops := amendStops x.stops k es }).limited ≤ (s.lck.clock : Int) then
                  y.state = .held ∧ y.stops = amendStops x.stops k es
                else y.state = .dwelling ∧ (y.stopAt x.cur).bind (·.release) =
                  some ((s.releaseInputs { x with stops := amendStops x.stops k es }).limited.toNat))) ∧
            (∀ j, j ≠ i → (t.runAt j).map Run.plan = (s.runAt j).map Run.plan) ∧ t.rtb.counters = s.rtb.counters ∧
            (∀ g, t.seg g = s.seg g)))

/-- CANCEL_RUN of a run that is not at its end makes it CANCELLED with no causes and counts it; a RELEASED run is
revoked, and a run at a platform leaves regulation and any wait queue. A CANCELLED run is answered NO_EFFECT and a
TERMINATED one BAD_STATE, with nothing changed (R43). The dispatcher hold is cleared with the cancellation (R74); that
the release segment becomes none with it is the model's reading (log 22). -/
def Obligations.RunCancelled : Prop :=
  ∀ (s : State) (r : Req) (i : Nat) (x : Run), BetweenEvents s → Passes s .cancelRun r →
    s.resolveRun r.principal = .live i → s.runAt i = some x →
    (x.state = .cancelled → exec (.cancelRun r) s = .next (answered s .cancelRun r .noEffect r.principal [])) ∧
    (x.state = .terminated → exec (.cancelRun r) s = .next (answered s .cancelRun r .badState r.principal [])) ∧
    (x.state ≠ .cancelled → x.state ≠ .terminated → (x.state = .released ∨ x.state = .running → WaitsNowhere s i) →
      ∃ t y, exec (.cancelRun r) s = .next t ∧ Answers s t .cancelRun r .ok r.principal [] ∧ Steady s t ∧
        t.runAt i = some y ∧ y.state = .cancelled ∧ y.causes = Causes.none ∧ y.stops = x.stops ∧ y.cur = x.cur ∧
        t.rtb.counters = mod1 s.rtb.counters x.route (fun c => { c with cancelled := satInc c.cancelled }) ∧
        (x.state = .planned → y.placeTimer = none ∧ y.placeWaiting = false) ∧
        (x.state = .dwelling ∨ x.state = .held → (t.reg i).releaseTimer = none ∧ (t.reg i).dispatcherHold = false ∧
          WaitsNowhere t i ∧ (t.tp (x.tpAt x.cur)).occupant ≠ some (s.runHandle i)) ∧
        (x.state = .released → (t.reg i).departureTimer = none ∧ (t.reg i).dispatcherHold = false ∧
          (t.reg i).releaseSegment = none ∧ t.claim i = none ∧
          (∀ m, (s.reg i).grantedMerge = some m → s.runHandle i ∉ t.mergeList m) ∧
          ∃ l, Created s t .release (.revoke x.number (x.tpAt x.cur) ((s.reg i).releaseSegment.getD 0) :: l)) ∧
        (x.state = .running → t.claim i = none) ∧ (∀ g, t.seg g = s.seg g))

/-- RETIRE_RUN empties the slot of a TERMINATED or PLANNED run, or of a CANCELLED one that stands in no queue, and
advances its generation; where the links agree, the run's handle leaves the list of every incident, and nothing else of
these lists changes. Any other run is answered BAD_STATE. CLEAR_COUNTERS sets every counter to 0, or has NO_EFFECT (R30,
R45, R46, R52, R74). -/
def Obligations.RunRetired : Prop :=
  ∀ (s : State) (r : Req), BetweenEvents s →
    (∀ i x, Passes s .retireRun r → s.resolveRun r.principal = .live i → s.runAt i = some x →
      (x.state = .terminated ∨ x.state = .planned ∨ (x.state = .cancelled ∧ s.queueOf (s.runHandle i) = none) →
        ∃ t, exec (.retireRun r) s = .next t ∧ Answers s t .retireRun r .ok r.principal [] ∧ Steady s t ∧
          t.runAt i = none ∧
          (∀ y z, get1 s.rtb.slots i = some y → get1 t.rtb.slots i = some z → z.gen = (y.gen + 1) % 256) ∧
          (∀ j, j ≠ i → (t.runAt j).map Run.plan = (s.runAt j).map Run.plan ∧ t.runHandle j = s.runHandle j) ∧
          t.reg i = RegRec.clear ∧ t.rtb.counters = s.rtb.counters ∧ t.mvt = s.mvt ∧ t.tpc = s.tpc ∧
          (LinksAgree s → ∀ j y, s.incAt j = some y → ∃ z, t.incAt j = some z ∧
            z.runs = y.runs.filter (· != s.runHandle i) ∧ t.incHandle j = s.incHandle j) ∧
          (∀ j y, j ≠ i → s.runAt j = some y → (t.runAt j).map (·.incidents) = some y.incidents)) ∧
      (x.state = .dwelling ∨ x.state = .held ∨ x.state = .released ∨ x.state = .running ∨
        (x.state = .cancelled ∧ s.queueOf (s.runHandle i) ≠ none) →
        exec (.retireRun r) s = .next (answered s .retireRun r .badState r.principal []))) ∧
    (Passes s .clearCounters r → exec (.clearCounters r) s = .next (
      if s.rtb.counters = zeroCounters then answered s .clearCounters r .noEffect 0 []
      else answered { s with rtb := { s.rtb with counters := zeroCounters } } .clearCounters r .ok 0 []))

/-- The due placement timer of a PLANNED run places it at a free platform, DWELLING at its first stop with the present
time as arrival and with a computed release where it halts there; at an occupied platform it waits (R37, R38, R57, R76).
SKIP_MARKING_ON_LOAD marks every stop of a loaded run that is of kind STOP, neither first nor last, without an arrival,
and at a covered timing point; nothing else of the run changes (R138). -/
def Obligations.RunPlacedAndMarked : Prop :=
  (∀ (s : State) (i : Nat) (x : Run), BetweenEvents s → s.runAt i = some x → x.state = .planned →
     s.reached x.placeTimer = true → x.stopAt 1 ≠ none →
     ((s.tp (x.tpAt 1)).occupant = none →
       ∃ t y st, exec (.placementTimerExpiry i) s = .next t ∧ SteadyTimer s t ∧ t.runAt i = some y ∧
         y.state = .dwelling ∧ y.cur = 1 ∧ y.placeTimer = none ∧ y.placeWaiting = false ∧ y.stopAt 1 = some st ∧
         st.actArr = some s.lck.clock ∧ y.count = x.count ∧
         t.mvt = { s.mvt with
           points := mod1 s.mvt.points (x.tpAt 1) fun p => { p with occupant := some (s.runHandle i) } } ∧
         (st.halts = true → 1 < x.count → st.release = (t.reg i).releaseTimer ∧ st.release ≠ none) ∧
         (∀ j, j ≠ i → (t.runAt j).map Run.plan = (s.runAt j).map Run.plan) ∧ t.tpc = s.tpc) ∧
     ((s.tp (x.tpAt 1)).occupant ≠ none →
       exec (.placementTimerExpiry i) s = .next
         { s.modRun i (fun y => { y with placeTimer := none, placeWaiting := true }) with fli := s.fli.startFrame })) ∧
  ∀ (s : State) (i : Nat) (x : Run), BetweenEvents s → s.runAt i = some x → x.state = .planned →
    ∃ t stops, exec (.skipMarkingOnLoad i) s = .next t ∧ SteadyTimer s t ∧ t.runAt i = some { x with stops := stops } ∧
      stops.length = x.stops.length ∧
      (∀ k st, stops[k]? = some st ↔ ∃ st', x.stops[k]? = some st' ∧ st =
        if st'.kind = .stop ∧ st'.actArr = none ∧ 0 < k ∧ k + 1 < x.count ∧ s.covered st'.tp = true
        then { st' with skipped := true } else st') ∧
      (∀ j, j ≠ i → (t.runAt j).map (·.stops) = (s.runAt j).map (·.stops)) ∧ t.mvt = s.mvt ∧ t.tpc = s.tpc

/-! ## The Movement Tracker -/

/-- ARRIVED of the first run of a queue at its next timing point, with the platform free: the run leaves the queue and
the merge's list, stands DWELLING as occupant with the present time as arrival, a release time is computed, its claim is
returned and the stale timer starts again. At its last stop it is TERMINATED and no occupant. At an occupied platform it
stays where it is, and a REPORT_CONFLICT incident is raised (R55, R56, R57, R59, R60, R62, R71, R109). -/
def Obligations.ArrivalTaken : Prop :=
  ∀ (s : State) (run : Half) (point : Byte) (i g : Nat) (x : Run) (st : Stop), Reported s run point.toNat i x →
    x.state = .running → x.indexAt point.toNat = some x.cur → x.stopAt x.cur = some st →
    (InOrder s i g point.toNat → WaitsNowhere s i → st.halts = true → x.cur < x.count →
      (s.tp point.toNat).occupant = none →
      ∃ t y st', exec (.arrived run point) s = .next t ∧ SteadyReport 3 s t ∧ t.runAt i = some y ∧
        y.state = .dwelling ∧ y.cur = x.cur ∧ y.number = x.number ∧ y.stopAt x.cur = some st' ∧
        st'.actArr = some s.lck.clock ∧ st'.release = (t.reg i).releaseTimer ∧ st'.release ≠ none ∧
        (t.tp point.toNat).occupant = some (s.runHandle i) ∧
        (t.seg g).queue = (s.seg g).queue.filter (· != s.runHandle i) ∧ (∀ q, q ≠ g → t.seg q = s.seg q) ∧
        (∀ m, s.mergeAt point.toNat = some m → s.runHandle i ∉ t.mergeList m) ∧ t.claim i = none ∧
        t.mvt.stale = false ∧ t.mvt.staleTimer = some (min (s.lck.clock + s.lds.params.tStale) 107999) ∧
        t.itb.nextNumber = s.itb.nextNumber ∧ t.fli.unmatched = s.fli.unmatched) ∧
    (InOrder s i g point.toNat → WaitsNowhere s i → x.cur = x.count →
      ∃ t y st', exec (.arrived run point) s = .next t ∧ SteadyReport 3 s t ∧ t.runAt i = some y ∧
        y.state = .terminated ∧ y.stopAt x.cur = some st' ∧ st'.actArr = some s.lck.clock ∧
        (t.tp point.toNat).occupant = (s.tp point.toNat).occupant ∧
        (t.seg g).queue = (s.seg g).queue.filter (· != s.runHandle i) ∧ (∀ q, q ≠ g → t.seg q = s.seg q) ∧
        t.claim i = none ∧ t.itb.nextNumber = s.itb.nextNumber) ∧
    (∀ j, x.cur < x.count → (s.tp point.toNat).occupant ≠ none → s.freeInc = some j → WaitsNowhere s i →
      ∃ t y z, exec (.arrived run point) s = .next t ∧ SteadyReport 3 s t ∧ t.runAt i = some y ∧ y.state = .running ∧
        y.plan = x.plan ∧ (∀ q, t.seg q = s.seg q) ∧ t.incAt j = some z ∧ z.auto = some .reportConflict ∧
        z.detail = some (.ofConflict (s.runHandle i) point.toNat .platformOccupied) ∧ z.kind = .signalData ∧
        z.severity = 1 ∧ z.state = .raised ∧ z.source = .engine)

/-- DEPARTED of a RELEASED run at its timing point completes the release: the run joins the queue of the segment it was
released into and is RUNNING to its next stop, the departure is stamped and counted, its timers stop, and its claim's
timer starts (R52, R55, R57, R64, R74, R75, R94, R108). That the release segment becomes none with it is the model's
reading (log 22). The released count and the regulator mode are stated where no run waits for credits, so that the event
makes no release. -/
def Obligations.DepartureTaken : Prop :=
  ∀ (s : State) (run : Half) (point : Byte) (i g : Nat) (x : Run) (st : Stop), Reported s run point.toNat i x →
    x.state = .released → x.stopAt x.cur = some st → st.tp = point.toNat → (s.reg i).releaseSegment = some g →
    1 ≤ g → g ≤ 48 → (s.seg g).queue.length < 8 → WaitsNowhere s i →
    ∃ t y st', exec (.departed run point) s = .next t ∧ SteadyReport 3 s t ∧ t.runAt i = some y ∧
      y.state = .running ∧ y.cur = x.cur + 1 ∧ y.causes = Causes.none ∧ y.stopAt x.cur = some st' ∧
      st'.actDep = some s.lck.clock ∧ st'.actArr = st.actArr ∧
      (t.seg g).queue = (s.seg g).queue ++ [s.runHandle i] ∧ (∀ q, q ≠ g → t.seg q = s.seg q) ∧
      (t.tp point.toNat).ld = some s.lck.clock ∧ (t.tp point.toNat).lastDeparted = some (s.runHandle i) ∧
      (t.tp point.toNat).occupant ≠ some (s.runHandle i) ∧ (t.reg i).departureTimer = none ∧
      (t.reg i).releaseSegment = none ∧ (t.reg i).dispatcherHold = false ∧
      (NobodyWaits s → t.drg.releasedCount = s.drg.releasedCount - 1 ∧
        t.drg.mode = (if s.drg.releasedCount - 1 = 0 ∧ s.drg.mode = .halting then .manual else s.drg.mode)) ∧
      (∀ c, s.claim i = some c → t.claim i = some { c with
        expiry := some (min (s.lck.clock + (look s.lds.classes x.cls).elim 0 (·.tStart)) 107999) }) ∧
      t.rtb.counters = (if st.halts then
        mod1 s.rtb.counters x.route (fun c => c.count (lateness s.lck.clock (st.schedDep.getD 0)))
      else s.rtb.counters)

/-- PASSED of the first run of a queue through a stop at which it does not halt: the run goes from its segment's queue
into the next one's with the present time as arrival and departure, and its claim is returned (R55, R66, R109). -/
def Obligations.PassTaken : Prop :=
  ∀ (s : State) (run : Half) (point : Byte) (i g n : Nat) (x : Run) (st : Stop), Reported s run point.toNat i x →
    x.state = .running → x.indexAt point.toNat = some x.cur → x.stopAt x.cur = some st → st.halts = false →
    x.cur < x.count → InOrder s i g point.toNat →
    s.lds.joining (x.tpAt x.cur) (x.tpAt (x.cur + 1)) = some n → n ≠ g → (s.seg n).queue.length < 8 → NobodyWaits s →
    ∃ t y st', exec (.passed run point) s = .next t ∧ SteadyReport 3 s t ∧ t.runAt i = some y ∧ y.state = .running ∧
      y.cur = x.cur + 1 ∧ y.stopAt x.cur = some st' ∧ st'.actArr = some s.lck.clock ∧ st'.actDep = some s.lck.clock ∧
      (t.seg g).queue = (s.seg g).queue.filter (· != s.runHandle i) ∧
      (t.seg n).queue = (s.seg n).queue ++ [s.runHandle i] ∧ (∀ q, q ≠ g → q ≠ n → t.seg q = s.seg q) ∧
      (∀ m, s.mergeAt point.toNat = some m → s.runHandle i ∉ t.mergeList m) ∧ t.claim i = none ∧
      (∀ p, (t.tp p).occupant = (s.tp p).occupant) ∧ t.mvt.stale = false ∧ t.itb.nextNumber = s.itb.nextNumber

/-- The movement reports that depart from what the part expects. One that is discarded changes nothing but the stale
timer and the conflict it raises, which joins the pending set where the incident table is full. ARRIVED at a later stop,
from behind another run, out of a merge's order, or at a stop passed without halting is taken with its conflict; at the
last stop, and for a CANCELLED run in a queue at any stop, it ends the run's movement, which leaves every merge order
list. ARRIVED of a PLANNED run at its first stop places it. PASSED is taken in the same ways into the next segment (R59,
R61, R62, R63, R66, R144). -/
def Obligations.IrregularReports : Prop :=
  ∀ (s : State) (run : Half) (point : Byte) (i : Nat) (x : Run), Reported s run point.toNat i x →
    (∀ (c : Instr) (k : ConflictKind), s.mvt.stale = false →
      c ∈ [Instr.arrived run point, Instr.departed run point, Instr.passed run point] →
      Discards s i x point.toNat c k →
      ∃ t, exec c s = .next t ∧ SteadyReport 3 s t ∧
        t.mvt = { s.mvt with staleTimer := some (min (s.lck.clock + s.lds.params.tStale) 107999) } ∧ t.drg = s.drg ∧
        t.tpc = s.tpc ∧ t.rtb.counters = s.rtb.counters ∧ t.fli.unmatched = s.fli.unmatched ∧
        (∀ j, s.freeInc = some j → ConflictRaised t j (s.runHandle i) point.toNat k ∧
          t.runAt i = some { x with
            incidents := if x.incidents.length < 4 then x.incidents ++ [s.incHandle j] else x.incidents }) ∧
        (s.freeInc = none → t.rtb = s.rtb ∧ look t.itb.pendingSet AutoCause.reportConflict.code =
          some (match look s.itb.pendingSet AutoCause.reportConflict.code with
            | none => ⟨.ofConflict (s.runHandle i) point.toNat k, 1⟩
            | some q => { q with count := min 255 (q.count + 1) }))) ∧
    (∀ g m j st k, x.state = .running → s.queueOf (s.runHandle i) = some g → x.indexAt point.toNat = some m →
      x.cur ≤ m → m < x.count → x.stopAt m = some st → WaitsNowhere s i → (s.tp point.toNat).occupant = none →
      s.freeInc = some j →
      Carries s i g point.toNat m x (if st.halts = true then none else some .stoppedAtPass) k →
      ∃ t y st', exec (.arrived run point) s = .next t ∧ SteadyReport 3 s t ∧
        ConflictSettled s t j (s.runHandle i) point.toNat k ∧ t.runAt i = some y ∧ y.state = .dwelling ∧ y.cur = m ∧
        (∀ n, n ≠ m → y.stopAt n = x.stopAt n) ∧ y.stopAt m = some st' ∧ st'.actArr = some s.lck.clock ∧
        (st.halts = true → st'.release = (t.reg i).releaseTimer ∧ st'.release ≠ none) ∧
        (st.halts = false → st'.release = st.release) ∧
        (t.tp point.toNat).occupant = some (s.runHandle i) ∧
        (t.seg g).queue = (s.seg g).queue.filter (· != s.runHandle i) ∧ (∀ q, q ≠ g → t.seg q = s.seg q) ∧
        (∀ l d, s.mergeDef l = some d → x.stopsAmong x.cur m d.tp = true → s.runHandle i ∉ t.mergeList l) ∧
        t.claim i = none) ∧
    (∀ g m j st k, (x.state = .running ∧ m = x.count) ∨ x.state = .cancelled →
      s.queueOf (s.runHandle i) = some g → x.indexAt point.toNat = some m → x.cur ≤ m → x.stopAt m = some st →
      WaitsNowhere s i → s.freeInc = some j → Carries s i g point.toNat m x none k →
      ∃ t y st', exec (.arrived run point) s = .next t ∧ SteadyReport 3 s t ∧
        ConflictSettled s t j (s.runHandle i) point.toNat k ∧ t.runAt i = some y ∧ y.state = .terminated ∧
        y.cur = m ∧ (∀ n, n ≠ m → y.stopAt n = x.stopAt n) ∧ y.stopAt m = some st' ∧
        st'.actArr = some s.lck.clock ∧ st'.release = st.release ∧
        (t.tp point.toNat).occupant = (s.tp point.toNat).occupant ∧
        (t.seg g).queue = (s.seg g).queue.filter (· != s.runHandle i) ∧ (∀ q, q ≠ g → t.seg q = s.seg q) ∧
        (∀ l, s.runHandle i ∉ t.mergeList l) ∧ t.claim i = none) ∧
    (x.state = .planned → x.tpAt 1 = point.toNat → (s.tp point.toNat).occupant = none → WaitsNowhere s i →
      ∃ t y, exec (.arrived run point) s = .next t ∧ SteadyReport 3 s t ∧ t.runAt i = some y ∧ y.state = .dwelling ∧
        Placed s y ∧ (t.tp point.toNat).occupant = some (s.runHandle i) ∧ (∀ q, t.seg q = s.seg q)) ∧
    (∀ g m n j st k, x.state = .running ∨ x.state = .cancelled → s.queueOf (s.runHandle i) = some g →
      x.indexAt point.toNat = some m → x.cur ≤ m → m < x.count → x.stopAt m = some st → WaitsNowhere s i →
      s.lds.joining (x.tpAt m) (x.tpAt (m + 1)) = some n → n ≠ g → (s.seg n).queue.length < 8 → s.freeInc = some j →
      Carries s i g point.toNat m x (if st.halts = true then some .passedStop else none) k →
      ∃ t y st', exec (.passed run point) s = .next t ∧ SteadyReport 3 s t ∧
        ConflictSettled s t j (s.runHandle i) point.toNat k ∧ t.runAt i = some y ∧ y.state = x.state ∧
        y.cur = m + 1 ∧ (∀ n, n ≠ m → y.stopAt n = x.stopAt n) ∧ y.stopAt m = some st' ∧
        st'.actArr = some s.lck.clock ∧ st'.actDep = some s.lck.clock ∧ st'.release = st.release ∧
        (t.seg g).queue = (s.seg g).queue.filter (· != s.runHandle i) ∧
        (t.seg n).queue = (s.seg n).queue ++ [s.runHandle i] ∧ (∀ q, q ≠ g → q ≠ n → t.seg q = s.seg q) ∧
        (∀ p, (t.tp p).occupant = (s.tp p).occupant ∧ (t.tp p).ld = (s.tp p).ld) ∧
        (∀ l d, s.mergeDef l = some d → x.stopsAmong x.cur m d.tp = true → s.runHandle i ∉ t.mergeList l) ∧
        t.claim i = none ∧ t.rtb.counters = s.rtb.counters) ∧
    (∀ g m j k, x.state = .running ∨ x.state = .cancelled → m = x.count →
      s.queueOf (s.runHandle i) = some g → x.indexAt point.toNat = some m → x.cur ≤ m → WaitsNowhere s i →
      s.freeInc = some j →
      Carries s i g point.toNat m x (if x.state = .running then some .passedStop else none) k →
      ∃ t y, exec (.passed run point) s = .next t ∧ SteadyReport 3 s t ∧
        ConflictSettled s t j (s.runHandle i) point.toNat k ∧ t.runAt i = some y ∧ y.state = .terminated ∧
        (t.seg g).queue = (s.seg g).queue.filter (· != s.runHandle i) ∧ (∀ l, s.runHandle i ∉ t.mergeList l) ∧
        t.claim i = none)

/-- DEPARTED of a run that holds no release from its timing point, where the next segment has room: the run joins that
segment's queue and is RUNNING, or stays CANCELLED; the departure is stamped, and counted unless it is CANCELLED; it
leaves regulation, wait queues and merge priority; no release is stamped and no grant recorded; UNRELEASED_DEPARTURE or
DEPARTED_AFTER_CANCEL is raised. A PLANNED run gets its arrival too and the occupant stays; PASSED out of its first stop
does the same but stamps and counts nothing at the timing point, which is the model's reading (R65, R87, log 19). -/
def Obligations.UnreleasedDepartures : Prop :=
  ∀ (s : State) (run : Half) (point : Byte) (i g j : Nat) (x : Run) (st : Stop), Reported s run point.toNat i x →
    x.stopAt x.cur = some st → st.tp = point.toNat →
    s.lds.joining (x.tpAt x.cur) (x.tpAt (x.cur + 1)) = some g → (s.seg g).queue.length < 8 → s.freeInc = some j →
    (∀ c, (c = .departed run point ∧ (x.state = .planned ∨ x.state = .dwelling ∨ x.state = .held ∨
          (x.state = .cancelled ∧ s.queueOf (s.runHandle i) = none))) ∨
        (c = .passed run point ∧ x.state = .planned ∧ x.cur = 1) →
      ∃ t y st', exec c s = .next t ∧ SteadyReport 3 s t ∧ t.runAt i = some y ∧
        y.state = (if x.state = .cancelled then .cancelled else .running) ∧ y.cur = x.cur + 1 ∧
        y.causes = Causes.none ∧ y.stopAt x.cur = some st' ∧ st'.actDep = some s.lck.clock ∧
        st'.actArr = (if x.state = .planned then some s.lck.clock else st.actArr) ∧
        (∀ n, n ≠ x.cur → y.stopAt n = x.stopAt n) ∧
        (x.state = .planned → y.placeTimer = none ∧ y.placeWaiting = false) ∧
        (t.seg g).queue = (s.seg g).queue ++ [s.runHandle i] ∧ (∀ q, q ≠ g → t.seg q = s.seg q) ∧
        (x.state = .planned → ∀ p, (t.tp p).occupant = (s.tp p).occupant) ∧
        (x.state ≠ .planned → (t.tp point.toNat).occupant ≠ some (s.runHandle i)) ∧
        (c = .departed run point → (t.tp point.toNat).ld = some s.lck.clock ∧
          (t.tp point.toNat).lastDeparted = some (s.runHandle i)) ∧
        (c = .passed run point → (t.tp point.toNat).ld = (s.tp point.toNat).ld) ∧
        (t.reg i).releaseTimer = none ∧ (t.reg i).dispatcherHold = false ∧ WaitsNowhere t i ∧
        (∀ m, (t.arbiter m).holder ≠ some (s.runHandle i)) ∧ t.claim i = s.claim i ∧
        t.rtb.counters = (if c = .departed run point ∧ x.state ≠ .cancelled ∧ st.halts = true then
          mod1 s.rtb.counters x.route (fun n => n.count (lateness s.lck.clock (st.schedDep.getD 0)))
        else s.rtb.counters) ∧
        ConflictRaised t j (s.runHandle i) point.toNat
          (if x.state = .cancelled then .departedAfterCancel else .unreleasedDeparture) ∧
        (NobodyWaits s → (∀ p, (t.tp p).lr = (s.tp p).lr) ∧ ∀ m, t.mergeList m = s.mergeList m))

/-- A movement report with an unknown timing point or a run number outside 1..9999 is counted unmatched and nothing else
happens; one for no live run is counted too, after the stale timer has started again; one that repeats a step already
taken restarts the stale timer alone (R58, R61, R63, R66, R71, R186, R187). That the receiver may hold the report's
bytes already is the model's choice (log 27). The due describer stale timer stops and marks the line STALE, which a
DESCRIBER_STALE incident reports unless one stands already; going STALE holds every board with DELAY on its lines and
posts LINE_EVENT to every client, before the ENDED notices of a delay announcement's service and the incident's DESK
notice; the report that ends it posts LINE_EVENT first and has every board formed anew (R71, R132, R143, R170, R179).
That LINE_EVENT is posted before the event's other notices is the model's order (log 5). -/
def Obligations.ReportsDiscardedAndStale : Prop :=
  (∀ (s : State) (run : Half) (point : Byte) (c : Instr), BetweenEvents s →
     c ∈ [Instr.arrived run point, Instr.departed run point, Instr.passed run point] →
     (s.point point.toNat = none ∨ run.toNat = 0 ∨ 9999 < run.toNat →
       exec c s = .next { s with
         fli := { s.fli.received 3 with unmatched := satInc s.fli.unmatched }.startFrame }) ∧
     (s.point point.toNat ≠ none → 1 ≤ run.toNat → run.toNat ≤ 9999 → s.mvt.stale = false →
       (∀ i x, s.runAt i = some x → x.number ≠ run.toNat) →
       exec c s = .next { s with
         mvt := { s.mvt with staleTimer := some (min (s.lck.clock + s.lds.params.tStale) 107999) }
         fli := { s.fli.received 3 with unmatched := satInc s.fli.unmatched }.startFrame }) ∧
     (∀ i x, Reported s run point.toNat i x → s.mvt.stale = false → Repeats s i x point.toNat c →
       exec c s = .next { s with
         mvt := { s.mvt with staleTimer := some (min (s.lck.clock + s.lds.params.tStale) 107999) }
         fli := (s.fli.received 3).startFrame })) ∧
  (∀ s : State, s.reached s.mvt.staleTimer = true →
    ∃ t, exec .describerStaleTimerExpiry s = .next t ∧ SteadyTimer s t ∧ t.mvt.stale = true ∧
      t.mvt.staleTimer = none ∧ (∀ g, t.seg g = s.seg g) ∧ t.rtb.counters = s.rtb.counters ∧
      (∀ j, s.staleStands = false → s.freeInc = some j → ∃ z, t.incAt j = some z ∧ z.auto = some .describerStale ∧
        z.kind = .signalData ∧ z.severity = 2 ∧ z.state = .raised ∧ z.source = .engine) ∧
      (s.staleStands = true → t.itb.nextNumber = s.itb.nextNumber)) ∧
  (∀ s : State, BetweenEvents s → s.reached s.mvt.staleTimer = true → s.mvt.stale = false →
    ∃ t, exec .describerStaleTimerExpiry s = .next t ∧ ∀ p b, look s.piu.boards p = some b →
      ∃ n, look t.piu.boards p = some n ∧ ∀ old new, (old, new) ∈ [(b.line1, n.line1), (b.line2, n.line2)] →
        new.run = old.run ∧ new.minutes = old.minutes ∧ new.notStopping = old.notStopping ∧
          (new.delay = true ↔ old.delay = true ∨ old.run ≠ none)) ∧
  (∀ s : State, BetweenEvents s → s.reached s.mvt.staleTimer = true →
    ∃ t ended, exec .describerStaleTimerExpiry s = .next t ∧ (∀ n ∈ ended, n.1.kind = .ended) ∧
      (s.mvt.stale = true → ended = []) ∧
      Posted s t ((if s.mvt.stale then [] else [lineNotice .staleSet]) ++ ended ++
        if s.staleStands then [] else s.freeInc.elim [] fun j =>
          (t.incAt j).elim [] fun z => [deskNotice (s.incHandle j) z.desk])) ∧
  ∀ (s : State) (run : Half) (point : Byte) (c : Instr), BetweenEvents s →
    c ∈ [Instr.arrived run point, Instr.departed run point, Instr.passed run point] → s.mvt.stale = true →
    s.point point.toNat ≠ none → 1 ≤ run.toNat → run.toNat ≤ 9999 →
    ∃ t others, exec c s = .next t ∧ t.mvt.stale = false ∧ (∀ n ∈ others, n.1.kind ≠ .lineEvent) ∧
      Posted s t (lineNotice .staleCleared :: others) ∧
      ∀ p b, look s.piu.boards p = some b → look t.piu.boards p = some (t.boardContent p)

/-! ## The Departure Regulator -/

/-- The release time by R77's stages: the blend is the timetable target and an eighth of the weighted difference to the
headway target, truncated toward zero; not before the earliest departure, then not past the hold cap, then not before
the separation from the last release, then at most the last second of the day, then not before the clock. So weight 0
leaves the timetable target and weight 8 the headway target. The inputs are those of R76's table. A computation writes
the time as the stop's release and the run's release timer (R76, R77, R78). A computed lateness at or above the delay
threshold posts the run's delay announcement where it has none and a slot is free, and the run's field holds it unless a
full window's DROP ends it at once; a lateness below half the threshold withdraws it, and one between leaves it as it is
(R97, R98, R163). -/
def Obligations.ReleaseTimeComputed : Prop :=
  (∀ (i : ReleaseInputs) (now : Nat) (early timetable headway product : Int), early = i.a + i.dMin →
    timetable = max early i.sdep → (i.ld = none → headway = timetable) →
    (∀ ld, i.ld = some ld → i.af = none → headway = ld + i.target) →
    (∀ ld af, i.ld = some ld → i.af = some af → headway = ld + max (af + i.dMin - ld) 0 / 2) →
    product = i.w * (headway - timetable) →
    i.blend = timetable + product.sign * ((product.natAbs / 8 : Nat) : Int) ∧
    i.capped = min (max i.blend early) (timetable + i.hMax) ∧
    ((i.releaseTime now : Nat) : Int) =
      max (now : Int) (min 107999 (i.lr.elim i.capped fun lr => max i.capped (lr + i.hMin)))) ∧
  (∀ (i : ReleaseInputs) (now : Nat),
    now ≤ i.releaseTime now ∧ i.releaseTime now ≤ max now 107999 ∧
    (∀ lr, i.lr = some lr → min (lr + i.hMin) 107999 ≤ i.releaseTime now) ∧
    (i.w = 0 → i.blend = max (i.a + i.dMin) i.sdep) ∧
    (i.ld = none → i.blend = max (i.a + i.dMin) i.sdep) ∧
    (∀ ld, i.w = 8 → i.ld = some ld → i.af = none → i.blend = ld + i.target) ∧
    (∀ ld af, i.w = 8 → i.ld = some ld → i.af = some af → i.blend = ld + max (af + i.dMin - ld) 0 / 2) ∧
    (0 ≤ i.hMax → i.a + i.dMin ≤ i.capped ∧ i.capped ≤ max (i.a + i.dMin) i.sdep + i.hMax)) ∧
  (∀ (s : State) (x : Run) (st : Stop) (p : TimingPoint) (a d : Nat), x.curStop = some st → st.actArr = some a →
    st.schedDep = some d → s.point (x.tpAt x.cur) = some p →
    s.releaseInputs x = ⟨a, d, p.dMin, p.hMin, p.hMax, (s.releaseInputs x).target, s.lds.params.w,
      (s.tp (x.tpAt x.cur)).ld.map Int.ofNat, (s.tp (x.tpAt x.cur)).lr.map Int.ofNat, (s.releaseInputs x).af⟩ ∧
    (∀ b, s.lds.bands = some b → (s.releaseInputs x).target = b.target a) ∧
    (s.mvt.stale = true → (s.releaseInputs x).af = none) ∧
    (∀ f, (s.releaseInputs x).af = some f → ∃ g h y m, g ∈ s.lds.incoming (x.tpAt x.cur) ∧
      s.candidateOf g = some (h, y) ∧ s.predict y (x.tpAt x.cur) = some m ∧ f = (m : Int)) ∧
    (∀ g h y m, s.mvt.stale = false → g ∈ s.lds.incoming (x.tpAt x.cur) → s.candidateOf g = some (h, y) →
      s.predict y (x.tpAt x.cur) = some m → ∃ f, (s.releaseInputs x).af = some f ∧ f ≤ (m : Int))) ∧
  ∀ (s : State) (slot : Nat) (x : Run), s.runAt slot = some x → x.computable = true →
    ∃ y st, (s.computeRelease slot).runAt slot = some y ∧ y.stopAt x.cur = some st ∧ y.state = x.state ∧
      st.release = some ((s.releaseInputs x).releaseTime s.lck.clock) ∧
      ((s.computeRelease slot).reg slot).releaseTimer = st.release ∧
      y.lateness = some (lateness ((s.releaseInputs x).releaseTime s.lck.clock) x.curDep) ∧
      DelayCompared s (s.computeRelease slot) slot x y
        (lateness ((s.releaseInputs x).releaseTime s.lck.clock) x.curDep)

/-- HOLD_RUN sets the dispatcher hold of a DWELLING or HELD run; a HELD run's causes take DISPATCHER. UNHOLD_RUN clears
the hold and the cause. The other states are answered as R88 and R89 give, with nothing changed. RELEASE_RUN against a
standing run releases it at once where the separation, the gates and the credits allow; else it is TOO_SOON, or
BAD_STATE with the causes, with nothing changed. The release grants the merge of its span: the run joins its order list,
the last grant is the present time, the free timer runs and there is no holder. A PLANNED run is first placed at its
free platform, and stays placed where it is refused. A RELEASED run is NO_EFFECT, and a run that cannot depart BAD_STATE
(R40, R83, R90, R91, R95). What becomes of a run that the list holds already is the model's reading (log 23). -/
def Obligations.DispatcherRequests : Prop :=
  (∀ (s : State) (r : Req) (i : Nat) (x : Run), BetweenEvents s → s.resolveRun r.principal = .live i →
     s.runAt i = some x →
     (Passes s .holdRun r →
       (x.state = .dwelling → (s.reg i).dispatcherHold = false → exec (.holdRun r) s = .next (answered
         (s.modReg i fun y => { y with dispatcherHold := true }) .holdRun r .ok r.principal [])) ∧
       (x.state = .held → (s.reg i).dispatcherHold = false →
         ∃ t y, exec (.holdRun r) s = .next t ∧ Answers s t .holdRun r .ok r.principal [] ∧ Steady s t ∧
           t.runAt i = some y ∧ y.state = .held ∧ y.causes.dispatcher = true ∧ y.causes.power = (x.causes.power &&
             decide (x.causes ≠ Causes.onlyPower)) ∧ y.plan = x.plan ∧ (t.reg i).dispatcherHold = true ∧
           (∀ g, t.seg g = s.seg g)) ∧
       (x.state = .dwelling ∨ x.state = .held → (s.reg i).dispatcherHold = true →
         exec (.holdRun r) s = .next (answered s .holdRun r .noEffect r.principal [])) ∧
       (x.state = .released → exec (.holdRun r) s = .next (answered s .holdRun r .tooLate r.principal [])) ∧
       (x.state = .planned ∨ x.state = .running ∨ x.state = .terminated ∨ x.state = .cancelled →
         exec (.holdRun r) s = .next (answered s .holdRun r .badState r.principal []))) ∧
     (Passes s .unholdRun r →
       (x.state = .dwelling ∨ x.state = .held → (s.reg i).dispatcherHold = true → x.causes.merge = false →
         exec (.unholdRun r) s = .next (answered
           ((s.modReg i fun y => { y with dispatcherHold := false }).modRun i fun y =>
             { y with causes := { y.causes with dispatcher := false } }) .unholdRun r .ok r.principal [])) ∧
       (x.state = .dwelling ∨ x.state = .held → (s.reg i).dispatcherHold = true → x.causes.merge = true →
         ∃ t y, exec (.unholdRun r) s = .next t ∧ Answers s t .unholdRun r .ok r.principal [] ∧ Steady s t ∧
           t.runAt i = some y ∧ y.state = x.state ∧ y.causes.dispatcher = false ∧ y.plan = x.plan ∧
           (t.reg i).dispatcherHold = false ∧ t.mvt = s.mvt ∧ t.tpc = s.tpc) ∧
       (x.state = .dwelling ∨ x.state = .held → (s.reg i).dispatcherHold = false →
         exec (.unholdRun r) s = .next (answered s .unholdRun r .noEffect r.principal [])) ∧
       (x.state ≠ .dwelling → x.state ≠ .held →
         exec (.unholdRun r) s = .next (answered s .unholdRun r .badState r.principal [])))) ∧
  ∀ (s : State) (r : Req) (i : Nat) (x : Run), BetweenEvents s → Passes s .releaseRun r →
    s.resolveRun r.principal = .live i → s.runAt i = some x →
    (x.state = .dwelling ∨ x.state = .held →
      (∀ l d, (s.tp (x.tpAt x.cur)).lr = some l → s.point (x.tpAt x.cur) = some d → s.lck.clock < l + d.hMin →
        exec (.releaseRun r) s = .next (answered s .releaseRun r .tooSoon r.principal [])) ∧
      (s.tooSoon x = false → s.forcedGates i x ≠ Causes.none →
        exec (.releaseRun r) s = .next
          (answered s .releaseRun r .badState r.principal (enc8 (s.forcedGates i x).byte))) ∧
      (s.tooSoon x = false → s.forcedGates i x = Causes.none →
        s.available (s.drawing (s.drawSection x)) < s.startCost x →
        exec (.releaseRun r) s = .next
          (answered s .releaseRun r .badState r.principal (enc8 Causes.onlyPower.byte))) ∧
      (s.tooSoon x = false → s.forcedGates i x = Causes.none → s.point (x.tpAt x.cur) ≠ none →
        s.startCost x ≤ s.available (s.drawing (s.drawSection x)) →
        ∃ t y, exec (.releaseRun r) s = .next t ∧ Answers s t .releaseRun r .ok r.principal [] ∧ Steady s t ∧
          Released s t i x y (s.drawing (s.drawSection x)) (s.drawSection x) (s.startCost x) ∧
          (∀ j, j ≠ i → (t.runAt j).map (·.state) = (s.runAt j).map (·.state)))) ∧
    (x.state = .planned → x.cur = 1 → s.point (x.tpAt 1) ≠ none → (s.tp (x.tpAt 1)).occupant = none →
      ∃ t y code body, exec (.releaseRun r) s = .next t ∧ Answers s t .releaseRun r code r.principal body ∧
        Steady s t ∧ t.runAt i = some y ∧ Placed s y ∧ (t.tp (x.tpAt 1)).occupant = some (s.runHandle i) ∧
        (∀ g, t.seg g = s.seg g) ∧
        (∀ j, j ≠ i → (t.runAt j).map (·.state) = (s.runAt j).map (·.state)) ∧
        (code ≠ .ok → y.state = .dwelling ∧ t.drg.releasedCount = s.drg.releasedCount ∧ t.tpc = s.tpc) ∧
        (s.tooSoon x = true → code = .tooSoon ∧ body = []) ∧
        (s.tooSoon x = false → s.forcedGates i x ≠ Causes.none →
          code = .badState ∧ body = enc8 (s.forcedGates i x).byte) ∧
        (s.tooSoon x = false → s.forcedGates i x = Causes.none →
          s.available (s.drawing (s.drawSection x)) < s.startCost x →
          code = .badState ∧ body = enc8 Causes.onlyPower.byte) ∧
        (s.tooSoon x = false → s.forcedGates i x = Causes.none →
          s.startCost x ≤ s.available (s.drawing (s.drawSection x)) →
          code = .ok ∧ body = [] ∧ y.state = .released ∧ t.drg.releasedCount = s.drg.releasedCount + 1 ∧
            t.claim i =
              some ⟨s.drawing (s.drawSection x), s.drawSection x, s.startCost x, s.lck.clock, none⟩ ∧
            Created s t .release [.release x.number (x.tpAt 1) (s.firstSegment x)] ∧ MergeGranted s t i x)) ∧
    (x.state = .released → exec (.releaseRun r) s = .next (answered s .releaseRun r .noEffect r.principal [])) ∧
    (x.state = .running ∨ x.state = .terminated ∨ x.state = .cancelled ∨
      (x.state = .planned ∧ (s.tp (x.tpAt 1)).occupant ≠ none) →
      exec (.releaseRun r) s = .next (answered s .releaseRun r .badState r.principal []))

/-- SET_REGULATION: HALT enters MANUAL into every HELD run's causes and ends in MANUAL at once when no run is released;
that ending posts HALTED to the DISPATCH and SUPERVISOR clients. A run that waits for credits at a HALT leaves its queue
with MANUAL and every other closed cause in place of POWER, so that no queue holds an entry after it. RESUME takes
MANUAL out again and posts nothing. WEIGHT writes the weight and has every DWELLING run's release computed again. The
other forms change nothing (R79, R85, R92, R93, R94, R179). The body layout is the model's (log 11). -/
def Obligations.RegulationSet : Prop :=
  ∀ (s : State) (r : Req), BetweenEvents s → Passes s .setRegulation r →
    (s.inService = false → exec (.setRegulation r) s = .next (answered s .setRegulation r .badState 0 [])) ∧
    (s.inService = true →
      (r.regAction = some .halt → s.drg.mode ≠ .automatic →
        exec (.setRegulation r) s = .next (answered s .setRegulation r .noEffect 0 [])) ∧
      (r.regAction = some .resume → s.drg.mode = .automatic →
        exec (.setRegulation r) s = .next (answered s .setRegulation r .noEffect 0 [])) ∧
      (r.regAction = none ∨ (∃ v, r.regAction = some (.weight v) ∧ 8 < v) →
        exec (.setRegulation r) s = .next (answered s .setRegulation r .outOfRange 0 [])) ∧
      (r.regAction = some (.weight s.lds.params.w) → s.lds.params.w ≤ 8 →
        exec (.setRegulation r) s = .next (answered s .setRegulation r .noEffect 0 [])) ∧
      (r.regAction = some .halt → s.drg.mode = .automatic → WaitingRuns s →
        ∃ t, exec (.setRegulation r) s = .next t ∧ Answers s t .setRegulation r .ok 0 [] ∧ Steady s t ∧
          t.drg.mode = (if s.drg.releasedCount = 0 then .manual else .halting) ∧
          Posted s t (if s.drg.releasedCount = 0 then [haltedNotice] else []) ∧
          t.drg.releasedCount = s.drg.releasedCount ∧ (∀ m, (t.arbiter m).holder = none) ∧
          (∀ j x, s.runAt j = some x → ∃ y, t.runAt j = some y ∧ y.state = x.state ∧ y.plan = x.plan ∧
            (x.state = .held → y.causes.manual = true) ∧ (x.state ≠ .held → y = x) ∧
            (x.state = .held → x.causes ≠ Causes.onlyPower →
              y = { x with causes := { x.causes with manual := true } }) ∧
            (x.state = .held → x.causes = Causes.onlyPower → ClosedInPlaceOfPower s j x y.causes ∧ WaitsNowhere t j ∧
              y.causes.section_ = s.sectionClosed x ∧
              (y.causes.merge = true ↔ ∃ m g, s.spanMerge x = some (m, g) ∧
                (s.mergeFree m = false ∨ 8 ≤ (s.mergeList m).length)))) ∧
          (∀ k z, s.sub k = some z → t.sub k = some { z with queue := [] }) ∧
          t.mvt = s.mvt ∧ (∀ j, t.claim j = s.claim j)) ∧
      (r.regAction = some .resume → s.drg.mode ≠ .automatic →
        ∃ t, exec (.setRegulation r) s = .next t ∧ Answers s t .setRegulation r .ok 0 [] ∧ Steady s t ∧
          t.drg.mode = .automatic ∧ t.drg.releasedCount = s.drg.releasedCount ∧ Posted s t [] ∧
          (∀ j x, s.runAt j = some x → ∃ y, t.runAt j = some y ∧ y.state = x.state ∧ y.plan = x.plan ∧
            (x.state = .held → y.causes.manual = false) ∧ (x.state ≠ .held → y = x)) ∧
          t.mvt = s.mvt ∧ t.tpc = s.tpc) ∧
      (∀ v, r.regAction = some (.weight v) → v ≤ 8 → v ≠ s.lds.params.w →
        ∃ t, exec (.setRegulation r) s = .next t ∧ Answers s t .setRegulation r .ok 0 [] ∧ WeightWritten s t v))

/-- RELEASE_EVENT of a DWELLING run whose release timer is due, and RETRY of a HELD run without causes, evaluate the
gates: a closed one makes the run HELD with the closed causes, MERGE among them or alone; with all open it asks for
power at its feeder and takes its place among the runs that wait there. At the head of them with credits at hand, the
run next behind not fitting, it is released, and the merge of its span is granted to it; where the head does not fit it
waits HELD with POWER. MERGE is closed where the merge is not free, another run holds it, its list is full, or, all else
open and no holder, a contender precedes the run; it is open for the holder, where the run precedes every contender, and
where the merge is free without a holder and another gate is closed (R81, R82, R83, R95, R96, R106, R112). The order of
joining among waiting runs is the model's (log 30), and so is what becomes of a run that the merge's list holds already
(log 23). -/
def Obligations.ReleaseAttempted : Prop :=
  ∀ (s : State) (c : Instr) (i : Nat) (x : Run), BetweenEvents s → s.runAt i = some x →
    (c = .releaseEvent i ∧ x.state = .dwelling ∧ s.reached (s.reg i).releaseTimer = true) ∨
      (c = .retry i ∧ x.state = .held ∧ x.causes = Causes.none) →
    (s.plainGates i x ≠ Causes.none →
      ∃ t y, exec c s = .next t ∧ SteadyTimer s t ∧ t.runAt i = some y ∧ y.state = .held ∧
        y.causes = (s.gates i x).2 ∧ y.causes.restriction = s.restrictionClosed x ∧ y.causes.section_ = s.sectionClosed x ∧
        y.causes.capacity = s.capacityClosed x ∧ y.causes.dispatcher = (s.reg i).dispatcherHold ∧
        y.causes.manual = decide (s.drg.mode ≠ .automatic) ∧ y.causes.power = false ∧
        y.causes.departureFailed = false ∧ y.plan = x.plan ∧ (t.reg i).releaseTimer = none ∧ t.mvt = s.mvt ∧
        t.tpc = s.tpc) ∧
    (s.plainGates i x = Causes.none → (s.gates i x).2.merge = true →
      ∃ t y, exec c s = .next t ∧ SteadyTimer s t ∧ t.runAt i = some y ∧ y.state = .held ∧
        y.causes = Causes.onlyMerge ∧ y.plan = x.plan ∧ (t.reg i).releaseTimer = none ∧ t.mvt = s.mvt ∧
        t.tpc = s.tpc ∧ t.drg.releasedCount = s.drg.releasedCount) ∧
    (∀ m g, s.spanMerge x = some (m, g) →
      (s.mergeFree m = false ∨ (∃ h, (s.arbiter m).holder = some h ∧ h ≠ s.runHandle i) ∨
        8 ≤ (s.mergeList m).length → (s.gates i x).2.merge = true) ∧
      (s.mergeFree m = true → (s.mergeList m).length < 8 → (s.arbiter m).holder = none →
        (s.plainGates i x ≠ Causes.none → (s.gates i x).2.merge = false) ∧
        (s.plainGates i x = Causes.none → (∃ j ∈ s.contenders m, j ≠ i ∧ s.precedes m i j = false) →
          (s.gates i x).2.merge = true)) ∧
      (s.mergeFree m = true → (s.mergeList m).length < 8 →
        (s.arbiter m).holder = some (s.runHandle i) ∨ ((s.arbiter m).holder = none ∧
          ∀ j ∈ s.contenders m, s.precedes m i j = true) →
        (s.gates i x).2.merge = false)) ∧
    (∀ z, (s.gates i x).2 = Causes.none → s.point (x.tpAt x.cur) ≠ none →
      s.sub (s.drawing (s.drawSection x)) = some z →
      (insertBy WaitEntry.before (s.waitEntry i x) z.queue).head? = some (s.waitEntry i x) →
      s.startCost x ≤ s.available (s.drawing (s.drawSection x)) →
      (∀ e, z.queue.head? = some e → s.available (s.drawing (s.drawSection x)) < s.startCost x + e.cost) →
      ∃ t y, exec c s = .next t ∧ SteadyTimer s t ∧
        Released s t i x y (s.drawing (s.drawSection x)) (s.drawSection x) (s.startCost x)) ∧
    (∀ z e, (s.gates i x).2 = Causes.none → s.sub (s.drawing (s.drawSection x)) = some z →
      (insertBy WaitEntry.before (s.waitEntry i x) z.queue).head? = some e →
      s.available (s.drawing (s.drawSection x)) < e.cost →
      ∃ t y, exec c s = .next t ∧ SteadyTimer s t ∧ t.runAt i = some y ∧ y.state = .held ∧
        y.causes = Causes.onlyPower ∧ y.plan = x.plan ∧ (t.reg i).releaseTimer = none ∧
        t.sub (s.drawing (s.drawSection x)) = some { z with
          queue := insertBy WaitEntry.before (s.waitEntry i x) z.queue } ∧
        t.claim i = s.claim i ∧ t.mvt = s.mvt)

/-- DEPARTURE_TIMEOUT of a RELEASED run revokes its release: the run is HELD for DEPARTURE_FAILED alone, its claim and
its merge grant are taken back, its timers stop, and one run fewer is released; the last one of a halt posts HALTED. The
substation that has its credits back serves its wait queue, and no other run changes (R86, R94, R95, R109, R112, R179).
The due free timer of a merge stops; with the merge free and no holder, the contender that precedes every other becomes
the holder, and its cause MERGE is taken away where the merge's list has room. An existing holder stays (R95, R96). What
a full merge list does is the model's choice (logs 23, 56). -/
def Obligations.RegulatorTimersExpire : Prop :=
  (∀ (s : State) (i : Nat) (x : Run), BetweenEvents s → s.runAt i = some x → x.state = .released →
     s.reached (s.reg i).departureTimer = true → WaitingRuns s →
     ∃ t y, exec (.departureTimeout i) s = .next t ∧ SteadyTimer s t ∧ t.runAt i = some y ∧ y.state = .held ∧
       y.causes = { Causes.none with departureFailed := true } ∧ y.plan = x.plan ∧ t.claim i = none ∧
       QueuesServed s t (s.comingBack fun j _ => j == i) (fun _ => true) ∧
       (∀ j, j ≠ i → UnchangedOrGranted s t j) ∧
       (t.reg i).departureTimer = none ∧ (t.reg i).releaseSegment = none ∧ (t.reg i).grantedMerge = none ∧
       (∀ m, (s.reg i).grantedMerge = some m → s.runHandle i ∉ t.mergeList m) ∧
       t.drg.mode = (if s.drg.releasedCount - 1 = 0 ∧ s.drg.mode = .halting then .manual else s.drg.mode) ∧
       Posted s t (if s.drg.releasedCount - 1 = 0 ∧ s.drg.mode = .halting then [haltedNotice] else []) ∧
       (∃ l, Created s t .release (.revoke x.number (x.tpAt x.cur) ((s.reg i).releaseSegment.getD 0) :: l)) ∧
       (∀ g, t.seg g = s.seg g) ∧
       (NobodyWaits s → t.drg.releasedCount = s.drg.releasedCount - 1 ∧
         Created s t .release [.revoke x.number (x.tpAt x.cur) ((s.reg i).releaseSegment.getD 0)] ∧
         ∀ j, j ≠ i → t.runAt j = s.runAt j)) ∧
  ∀ (s : State) (m : Nat), BetweenEvents s → s.reached (s.arbiter m).freeTimer = true →
    ∃ t, exec (.mergeFreeTimerExpiry m) s = .next t ∧ SteadyTimer s t ∧ (t.arbiter m).freeTimer = none ∧
      (t.arbiter m).lastGrant = (s.arbiter m).lastGrant ∧ t.mvt = s.mvt ∧ t.tpc = s.tpc ∧
      (s.mergeFree m = false ∨ (s.arbiter m).holder ≠ none ∨ s.contenders m = [] →
        (t.arbiter m).holder = (s.arbiter m).holder ∧ t.rtb = s.rtb) ∧
      (∀ w, s.mergeFree m = true → (s.arbiter m).holder = none → w ∈ s.contenders m →
        (∀ j ∈ s.contenders m, s.precedes m w j = true) →
        (t.arbiter m).holder = some (s.runHandle w) ∧
        t.rtb = if (s.mergeList m).length < 8 then
            (s.modRun w fun y => { y with causes := { y.causes with merge := false } }).rtb
          else s.rtb)

/-! ## The Traction Power Controller -/

/-- SET_WITHHOLD writes a substation's withheld credits and lets its waiting runs be served; the forms that name none
are BAD_STATE, OUT_OF_RANGE, NOT_FOUND or NO_EFFECT, with nothing changed (R103, R112). The due timer of a claim returns
it: the entry is empty, the substation's credits in use fall by its cost, the run shows no claim, and the substation
serves its wait queue; no other run changes (R105, R108, R109, R112). The body layout and the order the waiting runs are
served in are the model's (logs 11, 36). -/
def Obligations.CreditsWithheldAndReturned : Prop :=
  (∀ (s : State) (r : Req), BetweenEvents s → Passes s .setWithhold r →
    (s.inService = false → exec (.setWithhold r) s = .next (answered s .setWithhold r .badState 0 [])) ∧
    (s.inService = true →
      (r.u8 0 = 0 ∨ 8 < r.u8 0 ∨ 15 < r.u8 1 →
        exec (.setWithhold r) s = .next (answered s .setWithhold r .outOfRange 0 [])) ∧
      (1 ≤ r.u8 0 → r.u8 0 ≤ 8 → r.u8 1 ≤ 15 → s.sub (r.u8 0) = none →
        exec (.setWithhold r) s = .next (answered s .setWithhold r .notFound 0 [])) ∧
      (∀ z, r.u8 1 ≤ 15 → s.sub (r.u8 0) = some z → z.withheld = r.u8 1 →
        exec (.setWithhold r) s = .next (answered s .setWithhold r .noEffect 0 [])) ∧
      (∀ z, r.u8 1 ≤ 15 → s.sub (r.u8 0) = some z → z.withheld ≠ r.u8 1 → z.queue = [] →
        exec (.setWithhold r) s = .next (answered
          (s.modSub (r.u8 0) fun y => { y with withheld := r.u8 1 }) .setWithhold r .ok 0 [])) ∧
      (∀ z, r.u8 1 ≤ 15 → s.sub (r.u8 0) = some z → z.withheld ≠ r.u8 1 →
        ∃ t, exec (.setWithhold r) s = .next t ∧ Answers s t .setWithhold r .ok 0 [] ∧ Steady s t ∧
          (∀ k, (t.sub k).map (·.withheld) =
            if k = r.u8 0 then some (r.u8 1) else (s.sub k).map (·.withheld)) ∧
          (∀ k, k ≠ r.u8 0 → t.sub k = s.sub k) ∧
          (∀ e rest, z.queue = e :: rest →
            e.cost ≤ effective ((s.substationDef (r.u8 0)).getD 0) z.state - r.u8 1 - z.inUse →
            (t.sub (r.u8 0)).any (fun y => decide (y.queue.length ≤ rest.length)) = true)))) ∧
  ∀ (s : State) (i : Nat) (c : Claim) (z : SubLive) (x : Run), BetweenEvents s → s.claim i = some c →
    s.reached c.expiry = true → s.sub c.sub = some z → s.runAt i = some x →
    (NobodyWaits s → exec (.claimTimerExpiry i) s = .next { s with
      tpc := { s.tpc with
        subs := put s.tpc.subs c.sub (some { z with inUse := z.inUse - c.cost })
        claims := put s.tpc.claims i none }
      rtb := (s.modRun i fun y => { y with claimPresent := false }).rtb
      fli := s.fli.startFrame }) ∧
    (WaitingRuns s → WaitsNowhere s i →
      ∃ t, exec (.claimTimerExpiry i) s = .next t ∧ SteadyTimer s t ∧ t.claim i = none ∧
        t.runAt i = some { x with claimPresent := false } ∧
        QueuesServed s t (fun k => if k = c.sub then c.cost else 0) (fun _ => true) ∧
        (∀ j, j ≠ i → UnchangedOrGranted s t j) ∧ (∀ g, t.seg g = s.seg g) ∧ (∀ k, t.sec k = s.sec k) ∧
        t.itb = s.itb ∧ t.piu = s.piu)

/-- ISOLATE_SECTION sets the manual isolation, which is a reference, and answers the section's state; on a section
isolated already it is NO_EFFECT (R114, R115, R120). From an ENERGISED section, which then drains, the waiting runs of
its span leave their queues with SECTION, and these are served (R85, R111, R112). Both requests are BAD_STATE in SETUP,
OUT_OF_RANGE outside 1..16 and NOT_FOUND for a section that is not in the locked description. ENERGISE_SECTION clears
the manual isolation, and where no restriction refers to the section an ISOLATED or TRIPPED one, or an OPENING one whose
order is unconfirmed, is ordered closed; a draining that loses its last reference ends; an UNKNOWN or ENERGISED one is
OK where the clearing did something and NO_EFFECT where not, a CLOSING one NO_EFFECT. With restriction references left
it is BAD_STATE (R115, R121). The body and answer layouts are the model's (logs 11, 33). -/
def Obligations.SectionIsolatedAndEnergised : Prop :=
  (∀ (c : Instr) (k : ReqKind) (r : Req) (s : State), BetweenEvents s → Passes s k r →
    (c = .isolateSection r ∧ k = .isolateSection) ∨ (c = .energiseSection r ∧ k = .energiseSection) →
    (s.inService = false → exec c s = .next (answered s k r .badState 0 [])) ∧
    (s.inService = true → r.u8 0 = 0 ∨ 16 < r.u8 0 → exec c s = .next (answered s k r .outOfRange 0 [])) ∧
    (s.inService = true → 1 ≤ r.u8 0 → r.u8 0 ≤ 16 → s.sec (r.u8 0) = none →
      exec c s = .next (answered s k r .notFound 0 []))) ∧
  (∀ (s : State) (r : Req) (x : SecLive) (d : SectionDef), BetweenEvents s → Passes s .isolateSection r →
    s.inService = true → s.sec (r.u8 0) = some x → s.sectionDef (r.u8 0) = some d →
    (x.manual = true → exec (.isolateSection r) s =
      .next (answered s .isolateSection r .noEffect 0 (enc8 x.state.code))) ∧
    (x.manual = false →
      ∃ t y, exec (.isolateSection r) s = .next t ∧ Answers s t .isolateSection r .ok 0 (enc8 y.state.code) ∧
        Steady s t ∧ y = { x with manual := true }.referenced (min (s.lck.clock + d.drain) 107999)
          (min (s.lck.clock + s.lds.params.tConf) 107999) ∧
        (∀ k, t.sec k = if k = r.u8 0 then some y else s.sec k) ∧
        Created s t .breaker (if x.state = .closing then [.openBreaker (r.u8 0)] else []) ∧
        (∀ g, t.seg g = s.seg g) ∧ t.rtb.counters = s.rtb.counters ∧
        (x.state = .energised → WaitingRuns s → WaitersTakenOut s t (r.u8 0) ∧
          QueuesServed s t (fun _ => 0) (s.spanOutside (r.u8 0))))) ∧
  ∀ (s : State) (r : Req) (x : SecLive), BetweenEvents s → Passes s .energiseSection r → s.inService = true →
    s.sec (r.u8 0) = some x →
    (x.refs = 0 → x.state = .isolated ∨ x.state = .tripped ∨ (x.state = .opening ∧ x.unconfirmed = true) →
      ∃ t, exec (.energiseSection r) s = .next t ∧
        Answers s t .energiseSection r .ok 0 (enc8 SecState.closing.code ++ enc8 0) ∧ Steady s t ∧
        (∀ k, t.sec k = if k = r.u8 0 then some { x with
            manual := false, state := .closing, unconfirmed := false
            confirmTimer := some (min (s.lck.clock + s.lds.params.tConf) 107999, .closeOrder) }
          else s.sec k) ∧ Created s t .breaker [.closeBreaker (r.u8 0)]) ∧
    (x.refs = 0 → x.state = .draining → x.manual = true →
      ∃ t, exec (.energiseSection r) s = .next t ∧
        Answers s t .energiseSection r .ok 0 (enc8 SecState.energised.code ++ enc8 0) ∧ Steady s t ∧
        (∀ k, t.sec k = if k = r.u8 0 then some { x with manual := false, state := .energised, drainTimer := none }
          else s.sec k)) ∧
    (x.refs = 0 → x.state = .unknown ∨ x.state = .energised →
      exec (.energiseSection r) s = .next (
        if x.manual = true then answered (s.modSec (r.u8 0) fun y => { y with manual := false })
          .energiseSection r .ok 0 (enc8 x.state.code ++ enc8 0)
        else answered s .energiseSection r .noEffect 0 (enc8 x.state.code ++ enc8 0))) ∧
    (x.refs = 0 → x.state = .closing → x.manual = false →
      exec (.energiseSection r) s =
        .next (answered s .energiseSection r .noEffect 0 (enc8 SecState.closing.code ++ enc8 0))) ∧
    (x.refs = 0 → x.state = .opening → x.unconfirmed = false →
      exec (.energiseSection r) s = .next (answered (s.modSec (r.u8 0) fun y => { y with manual := false })
        .energiseSection r .badState 0 (enc8 SecState.opening.code ++ enc8 0))) ∧
    (0 < x.refs → exec (.energiseSection r) s = .next (answered (s.modSec (r.u8 0) fun y => { y with manual := false })
      .energiseSection r .badState 0 (enc8 x.state.code ++ enc8 x.refs)))

/-- The due drain timer orders a DRAINING section open and takes every claim drawn for it back; the section's waiting
runs leave their queues with SECTION, and the substations concerned are served (R85, R109, R111, R112, R114). The due
confirm timer of an ordered section marks the order unconfirmed, which an incident reports where a slot is free (R110,
R117, R118, R143). The order of the effects of a forced return is the model's (log 20). BREAKER moves a section by the
table of R116; a trip, or an early opening of a DRAINING section, takes the section's claims back and its waiting runs
out of their queues, in the same way; a trip is reported by an incident where a slot is free, and so is an ISOLATED
section that is reported CLOSED while references to it stand; no other report asks for an incident; a section that is
not in the locked description is unmatched (R110, R116, R119, R143, R187). The order of the effects of a trip is the
model's (log 20). -/
def Obligations.SectionsMoved : Prop :=
  (∀ (s : State) (i : Nat) (x : SecLive), BetweenEvents s → s.sec i = some x →
     (x.state = .draining → s.reached x.drainTimer = true → WaitingRuns s →
       ∃ t, exec (.drainTimerExpiry i) s = .next t ∧ SteadyTimer s t ∧
         (∀ k, t.sec k = if k = i then some { x with
             state := .opening, drainTimer := none, unconfirmed := false
             confirmTimer := some (min (s.lck.clock + s.lds.params.tConf) 107999, .openOrder) }
           else s.sec k) ∧ Created s t .breaker [.openBreaker i] ∧
         (∀ slot, WaitsNowhere s slot → t.claim slot = (s.claim slot).filter fun c => c.sec != i) ∧
         WaitersTakenOut s t i ∧ QueuesServed s t (s.comingBack fun _ c => c.sec == i) (s.spanOutside i) ∧
         (∀ g, t.seg g = s.seg g) ∧ (NobodyWaits s → t.mvt = s.mvt)) ∧
     (∀ e awaited j, x.state = .opening ∨ x.state = .closing → x.confirmTimer = some (e, awaited) → e ≤ s.lck.clock →
       s.freeInc = some j →
       ∃ t z, exec (.confirmTimerExpiry i) s = .next t ∧ SteadyTimer s t ∧
         (∀ k, t.sec k = if k = i then some { x with confirmTimer := none, unconfirmed := true } else s.sec k) ∧
         t.incAt j = some z ∧ z.auto = some .orderUnconfirmed ∧ z.detail = some (.ofOrder i awaited) ∧
         z.kind = .power ∧ z.severity = 2 ∧ z.state = .raised ∧ t.rtb = s.rtb ∧ t.mvt = s.mvt ∧
         t.fli = s.fli.startFrame)) ∧
  ∀ (s : State) (sec : Byte) (pos : BreakerPos), BetweenEvents s →
    (s.sectionDef sec.toNat = none → exec (.breaker sec pos) s = .next { s with
      fli := { s.fli.received 2 with unmatched := satInc s.fli.unmatched }.startFrame }) ∧
    (∀ x d, s.sectionDef sec.toNat = some d → s.sec sec.toNat = some x →
      ∃ t, exec (.breaker sec pos) s = .next t ∧ SteadyReport 2 s t ∧
        (∀ k, t.sec k = if k = sec.toNat then some (x.reported pos (min (s.lck.clock + d.drain) 107999))
          else s.sec k) ∧
        (∀ g, t.seg g = s.seg g) ∧ t.fli.unmatched = s.fli.unmatched ∧
        (pos = .isOpen → x.state = .energised ∨ x.state = .draining → WaitingRuns s →
          (∀ slot, WaitsNowhere s slot → t.claim slot = (s.claim slot).filter fun c => c.sec != sec.toNat) ∧
          WaitersTakenOut s t sec.toNat ∧
          QueuesServed s t (s.comingBack fun _ c => c.sec == sec.toNat) (s.spanOutside sec.toNat)) ∧
        (∀ j, pos = .isOpen → x.state = .energised → s.freeInc = some j → ∃ z, t.incAt j = some z ∧
          z.auto = some .trip ∧ z.detail = some (.ofSection sec.toNat) ∧ z.severity = 3 ∧ z.state = .raised) ∧
        (∀ j, pos = .isClosed → x.state = .isolated → x.count ≠ 0 → s.freeInc = some j → ∃ z, t.incAt j = some z ∧
          z.auto = some .unexpectedEnergisation ∧ z.detail = some (.ofReferences sec.toNat x.count) ∧
          z.kind = .power ∧ z.severity = 3 ∧ z.state = .raised) ∧
        (¬(pos = .isOpen ∧ x.state = .energised) → ¬(pos = .isClosed ∧ x.state = .isolated ∧ x.count ≠ 0) →
          t.itb = s.itb) ∧
        (x.reported pos (min (s.lck.clock + d.drain) 107999) = x → t.rtb = s.rtb ∧ t.tpc = s.tpc ∧ t.itb = s.itb))

/-- SUBSTATION writes the supply state, from which the effective capacity follows: all of the nominal capacity ONLINE,
half of it rounded down DEGRADED, none OFFLINE. The state reported already changes nothing, and a substation that is not
in the locked description is unmatched. A section's active feeder is its primary unless that is OFFLINE, then its
secondary unless that is OFFLINE, and it draws from its primary where it has none. Where a report changes it, the
section's waiting runs move to the new feeder's queue, which stands in the order of computed release and joining; queues
are then served from their heads, each run taken released under a claim, until the head does not fit (R101, R102, R104,
R112, R113, R187). -/
def Obligations.SubstationReported : Prop :=
  ∀ (s : State) (sub : Byte) (st : SupplyState), BetweenEvents s →
    (s.substationDef sub.toNat = none → exec (.substation sub st) s = .next { s with
      fli := { s.fli.received 2 with unmatched := satInc s.fli.unmatched }.startFrame }) ∧
    (∀ n z, s.substationDef sub.toNat = some n → s.sub sub.toNat = some z →
      (z.state = st → exec (.substation sub st) s = .next { s with fli := (s.fli.received 2).startFrame }) ∧
      (z.state ≠ st → NobodyWaits s →
        ∃ t, exec (.substation sub st) s = .next t ∧ SteadyReport 2 s t ∧
          (∀ k, t.sub k = if k = sub.toNat then some { z with state := st } else s.sub k) ∧
          t.effectiveCapacity sub.toNat = (match st with
            | .online => n
            | .degraded => n / 2
            | .offline => 0) ∧
          t.rtb = s.rtb ∧ t.mvt = s.mvt ∧ t.drg = s.drg ∧ t.itb = s.itb ∧ t.piu = s.piu ∧
          (∀ slot, t.claim slot = s.claim slot) ∧ (∀ k, t.sec k = s.sec k)) ∧
      (z.state ≠ st →
        ∃ t, exec (.substation sub st) s = .next t ∧ SteadyReport 2 s t ∧
          (t.sub sub.toNat).map (·.state) = some st ∧
          (∀ k, k ≠ sub.toNat → (t.sub k).map (·.state) = (s.sub k).map (·.state)) ∧
          (∀ g, t.seg g = s.seg g) ∧ (∀ k, t.sec k = s.sec k) ∧
          (∀ k d, s.sectionDef k = some d → t.activeFeeder k =
              (if t.feeds d.primary = true then some d.primary
              else d.secondary.bind fun f => if t.feeds f = true then some f else none) ∧
            t.drawing k = (t.activeFeeder k).getD d.primary) ∧
          (∀ k, t.feeds k = true ↔ ∃ y, t.sub k = some y ∧ y.state ≠ .offline) ∧
          (WaitingRuns s → (∀ k y, s.sub k = some y → y.queue.Pairwise fun a b => a.before b = true) →
            ∀ k y w, s.sub k = some y → t.sub k = some w → ∃ served : List WaitEntry,
              (served ++ w.queue).Perm (s.movedTo t k) ∧
              ((served ++ w.queue).Pairwise fun a b => a.before b = true) ∧
              w.inUse = y.inUse + (served.map (·.cost)).sum ∧
              (∀ e ∈ served, ∃ i x, s.resolveRun e.run = .live i ∧ t.runAt i = some x ∧ x.state = .released ∧
                t.claim i = some ⟨k, e.sec, e.cost, s.lck.clock, none⟩) ∧
              (served = [] ∨ (served.map (·.cost)).sum ≤ t.effectiveCapacity k - y.withheld - y.inUse) ∧
              (k = sub.toNat ∨ s.movedTo t k ≠ y.queue →
                ∀ e, w.queue.head? = some e → t.available k < e.cost))))

/-! ## The Incident Table -/

/-- RAISE_INCIDENT makes the lowest free slot live under the next free number: RAISED, on the desk its class and number
give, its escalation timer set, its restrictions in force under the numbers 1 on, its runs linked, and its announcement
posted; the answer carries the handle, the number and the announcement status, which is the code of a refused post. In
SETUP it is BAD_STATE; then OUT_OF_RANGE, NOT_PERMITTED, a run handle's refusal and FULL follow in R130's order, with
nothing changed (R126, R128, R130, R131, R132, R133). The body and answer layouts are the model's (logs 11, 33), and so
are the place of the run handles' check (log 46) and whose refusal is answered where several of them fail (log 59). -/
def Obligations.IncidentRaised : Prop :=
  ∀ (s : State) (r : Req), BetweenEvents s → Passes s .raiseIncident r →
    (s.inService = false → exec (.raiseIncident r) s = .next (answered s .raiseIncident r .badState 0 [])) ∧
    (s.inService = true → r.raise = none ∨ (∃ b x, r.raise = some b ∧ b.ann = some x ∧ s.timesInRange x = false) →
      exec (.raiseIncident r) s = .next (answered s .raiseIncident r .outOfRange 0 [])) ∧
    ∀ b, s.inService = true → r.raise = some b → (∀ x, b.ann = some x → s.timesInRange x = true) →
      ((∃ q ∈ b.restrictions, (s.roleOf r).mayRestrict q.kind = false) →
        exec (.raiseIncident r) s = .next (answered s .raiseIncident r .notPermitted 0 [])) ∧
      ((∀ q ∈ b.restrictions, (s.roleOf r).mayRestrict q.kind = true) →
        (∀ c h, s.unresolvedRun b.runs = some (c, h) →
          exec (.raiseIncident r) s = .next (answered s .raiseIncident r c h [])) ∧
        (∀ h, s.unresolvedRun b.runs = none → s.fullRun b.runs = some h →
          exec (.raiseIncident r) s = .next (answered s .raiseIncident r .full h [])) ∧
        (s.unresolvedRun b.runs = none → s.fullRun b.runs = none → s.freeInc = none →
          exec (.raiseIncident r) s = .next (answered s .raiseIncident r .full 0 [])) ∧
        ∀ i, s.unresolvedRun b.runs = none → s.fullRun b.runs = none → s.freeInc = some i →
          s.liveIncs.any (fun x => x.2.number == s.itb.nextNumber) = false →
          ∃ t z c, exec (.raiseIncident r) s = .next t ∧
            Answers s t .raiseIncident r .ok (s.incHandle i) (enc16 s.itb.nextNumber ++ enc8 (AnswerCode.code c)) ∧
            Steady s t ∧ (b.ann = none → c = .ok) ∧ t.incAt i = some z ∧ z.number = s.itb.nextNumber ∧
            z.kind = b.kind ∧ z.auto = none ∧ z.count = 1 ∧ z.severity = b.severity ∧ z.state = .raised ∧
            z.source = .client r.client.toNat ∧ z.raisedAt = s.lck.clock ∧ z.ackBy = none ∧ z.overdue = false ∧
            z.cls = (look s.lds.kindMap b.kind.index).getD .supervisor ∧ z.desk = s.deskFor z.cls z.number ∧
            z.escalation = some (min (s.lck.clock + allowed b.severity) 107999) ∧ z.runs = b.runs ∧
            z.restrictions.map (·.spec) = b.restrictions ∧
            z.restrictions.map (·.number) = ids b.restrictions.length ∧
            t.itb.nextNumber = (if s.itb.nextNumber < 65535 then s.itb.nextNumber + 1 else 1) ∧
            (z.desk < 8 → s.incHandle i ∈ t.desk z.desk) ∧ (∀ j, j ≠ i → (t.incAt j).map (·.restrictions) =
              (s.incAt j).map (·.restrictions)) ∧
            ∀ x, b.ann = some x → (∀ q ∈ b.restrictions, q.kind = .hold ∨ q.kind = .isolate) →
              (∀ code h, s.postRefusal x none = some (code, h) → c = code ∧ z.anns = [] ∧ t.piu.slots = s.piu.slots) ∧
              (s.postRefusal x none = none → c = .ok) ∧
              (∀ j k, s.postRefusal x none = none → s.freeAnn = some j → get0 s.piu.classMap x.cls = some k →
                (∃ e, x.start = some e ∧ s.lck.clock < e) ∨ (s.chan k).state ≠ .ready →
                ∃ a, t.annAt j = some a ∧ a.spec = x ∧ a.owner = .client r.client.toNat ∧
                  a.linkedInc = some (s.incHandle i) ∧ a.channel = k ∧ z.anns = [s.annHandle j]))

/-- ACK_INCIDENT by a client of its desk class or a SUPERVISOR acknowledges a RAISED incident, stops its timer and takes
it off its desk; the due escalation timer raises the severity and starts again, and at severity 4 sends the incident
OVERDUE to its SUPERVISOR desk. Each posts one DESK notice to the desk's watchers, or one to each desk's where the
incident moves, and no other (R132, R133, R134, R179). -/
def Obligations.IncidentAcknowledgedOrEscalated : Prop :=
  ∀ (s : State) (i : Nat) (x : Incident), BetweenEvents s → s.incAt i = some x →
    (∀ r, Passes s .ackIncident r → s.resolveInc r.principal = .live i →
      (x.manages (s.roleOf r) = false →
        exec (.ackIncident r) s = .next (answered s .ackIncident r .notPermitted r.principal [])) ∧
      (x.manages (s.roleOf r) = true → x.state = .acknowledged →
        exec (.ackIncident r) s = .next (answered s .ackIncident r .noEffect r.principal [])) ∧
      (x.manages (s.roleOf r) = true → x.state = .cleared →
        exec (.ackIncident r) s = .next (answered s .ackIncident r .badState r.principal [])) ∧
      (x.manages (s.roleOf r) = true → x.state = .raised →
        ∃ t, exec (.ackIncident r) s = .next t ∧ Answers s t .ackIncident r .ok r.principal [] ∧ Steady s t ∧
          t.incAt i = some { x with state := .acknowledged, ackBy := some r.client.toNat, escalation := none } ∧
          (∀ j, j ≠ i → t.incAt j = s.incAt j) ∧
          (∀ d, t.desk d = if d = x.desk then (s.desk d).filter (· != s.incHandle i) else s.desk d) ∧
          t.itb.nextNumber = s.itb.nextNumber ∧ Posted s t [deskNotice (s.incHandle i) x.desk] ∧ t.rtb = s.rtb ∧
          t.mvt = s.mvt ∧ t.drg = s.drg ∧ t.tpc = s.tpc ∧ t.piu = s.piu ∧ t.fli = s.fli.startFrame)) ∧
    (x.state = .raised → s.reached x.escalation = true →
      ∃ t, exec (.escalationTimerExpiry i) s = .next t ∧ SteadyTimer s t ∧
        (x.severity < 4 → t.incAt i = some { x with
          severity := x.severity + 1
          escalation := some (min (s.lck.clock + allowed (x.severity + 1)) 107999) } ∧
          Posted s t [deskNotice (s.incHandle i) x.desk]) ∧
        (4 ≤ x.severity → t.incAt i = some { x with
          overdue := true, escalation := none, cls := .supervisor, desk := s.deskFor .supervisor x.number } ∧
          (s.deskFor .supervisor x.number ≠ x.desk → s.incHandle i ∉ t.desk x.desk) ∧
          Posted s t (if s.deskFor .supervisor x.number = x.desk then [deskNotice (s.incHandle i) x.desk]
            else [deskNotice (s.incHandle i) x.desk,
              deskNotice (s.incHandle i) (s.deskFor .supervisor x.number)])) ∧
        (∀ j, j ≠ i → t.incAt j = s.incAt j) ∧ t.rtb = s.rtb ∧ t.mvt = s.mvt ∧ t.drg = s.drg ∧ t.tpc = s.tpc ∧
        t.piu = s.piu)

/-- ADD_RESTRICTION puts a restriction in force under the incident's lowest free number, which the answer carries, and
LIFT_RESTRICTION takes it away: HOLD counts on every segment it applies to, SLOW stands in their slow lists, ISOLATE is
a reference to every section it overlaps, and a SKIP covers its timing points: the stops of live runs there that are of
kind STOP, neither first nor last and not arrived at are marked skipped, a lifted SKIP has its marks formed again from
those still in force, and a zone's derived level is ROUTINE exactly while one of its timing points is covered. No run
that waits for credits is released into a segment under the new HOLD by the event itself. The refusals of both come in
R135's order and change nothing (R67, R83, R85, R112, R129, R135, R136, R137, R138, R160). The body and answer layouts
are the model's (logs 11, 33). -/
def Obligations.RestrictionsInForce : Prop :=
  ∀ (s : State) (r : Req) (i : Nat) (x : Incident), BetweenEvents s → s.resolveInc r.principal = .live i →
    s.incAt i = some x →
    (∀ spec n, Passes s .addRestriction r → r.restriction 0 = some spec → (s.roleOf r).mayRestrict spec.kind = true →
      x.state ≠ .cleared → x.freeNumber = some n →
      ∃ t z, exec (.addRestriction r) s = .next t ∧ Answers s t .addRestriction r .ok r.principal (enc8 n) ∧
        Steady s t ∧ t.incAt i = some z ∧ (∀ q, q ∈ z.restrictions ↔ q = ⟨n, spec⟩ ∨ q ∈ x.restrictions) ∧
        z.state = x.state ∧
        (∀ g, 1 ≤ g → g ≤ 48 → (t.seg g).holdCount = (s.seg g).holdCount +
          (if spec.kind = .hold ∧ s.appliesTo spec g = true then 1 else 0)) ∧
        (∀ g, 1 ≤ g → g ≤ 48 → (t.seg g).slow = (s.seg g).slow ++
          (if spec.kind = .slow ∧ s.appliesTo spec g = true then [⟨s.incHandle i, n, spec.percent⟩] else [])) ∧
        (∀ k y d, s.sec k = some y → s.sectionDef k = some d → (t.sec k).map (·.refs) = some (y.refs +
          (if spec.kind = .isolate ∧ overlaps spec.lo spec.hi d.lo d.hi = true then 1 else 0))) ∧
        (∀ p, t.covered p = (s.covered p || s.underSkip spec p)) ∧
        (∀ j a k st, s.runAt j = some a → a.stopAt k = some st → ∃ y st', t.runAt j = some y ∧
          y.stopAt k = some st' ∧ (st'.skipped = true ↔ st.skipped = true ∨ (spec.kind = .skip ∧ 1 < k ∧ k < a.count ∧
            st.kind = .stop ∧ st.actArr = none ∧ s.underSkip spec st.tp = true))) ∧
        (∀ p d l, s.point p = some d → s.covered p ≠ t.covered p → get1 t.piu.zones d.zone = some l →
          (l.derived = .routine ↔ ∃ q e, s.point q = some e ∧ e.zone = d.zone ∧ t.covered q = true) ∧
          (l.derived ≠ .routine → l.derived = .none)) ∧
        (∀ z, (∀ p d, s.point p = some d → d.zone = z → s.covered p = t.covered p) →
          get1 t.piu.zones z = get1 s.piu.zones z) ∧
        (∀ z, (get1 t.piu.zones z).map (·.set) = (get1 s.piu.zones z).map (·.set)) ∧
        (∀ g, (t.seg g).queue = (s.seg g).queue) ∧ t.rtb.counters = s.rtb.counters ∧
        (spec.kind = .hold → WaitingRuns s → ∀ j a y, s.runAt j = some a → a.state ≠ .released →
          t.runAt j = some y → y.state = .released → ∀ g ∈ t.span y, s.appliesTo spec g = false)) ∧
    (Passes s .addRestriction r → r.restriction 0 = none →
      exec (.addRestriction r) s = .next (answered s .addRestriction r .outOfRange r.principal [])) ∧
    (∀ spec, Passes s .addRestriction r → r.restriction 0 = some spec →
      ((s.roleOf r).mayRestrict spec.kind = false →
        exec (.addRestriction r) s = .next (answered s .addRestriction r .notPermitted r.principal [])) ∧
      ((s.roleOf r).mayRestrict spec.kind = true → x.state = .cleared →
        exec (.addRestriction r) s = .next (answered s .addRestriction r .badState r.principal [])) ∧
      ((s.roleOf r).mayRestrict spec.kind = true → x.state ≠ .cleared →
        (∀ n, 1 ≤ n → n ≤ 4 → ∃ q ∈ x.restrictions, q.number = n) →
        exec (.addRestriction r) s = .next (answered s .addRestriction r .full r.principal []))) ∧
    (∀ y, Passes s .liftRestriction r → 1 ≤ r.u8 0 → r.u8 0 ≤ 4 →
      x.restrictions.find? (fun q => q.number == r.u8 0) = some y → (s.roleOf r).mayRestrict y.spec.kind = true →
      ∃ t z, exec (.liftRestriction r) s = .next t ∧ Answers s t .liftRestriction r .ok r.principal [] ∧
        Steady s t ∧ t.incAt i = some z ∧ z.restrictions = x.restrictions.filter (fun q => q.number != r.u8 0) ∧
        z.state = x.state ∧
        (∀ g, 1 ≤ g → g ≤ 48 → (t.seg g).holdCount = (s.seg g).holdCount -
          (if y.spec.kind = .hold ∧ s.appliesTo y.spec g = true then 1 else 0)) ∧
        (∀ g, 1 ≤ g → g ≤ 48 → y.spec.kind = .slow → s.appliesTo y.spec g = true →
          (t.seg g).slow = (s.seg g).slow.filter fun e => !(e.incident == s.incHandle i && e.number == r.u8 0)) ∧
        (∀ k w d, s.sec k = some w → s.sectionDef k = some d → (t.sec k).map (·.refs) = some (w.refs -
          (if y.spec.kind = .isolate ∧ overlaps y.spec.lo y.spec.hi d.lo d.hi = true then 1 else 0))) ∧
        (∀ p, t.covered p = true ↔ ∃ j q e, t.incAt j = some q ∧ e ∈ q.restrictions ∧ s.underSkip e.spec p = true) ∧
        (∀ j a k st, s.runAt j = some a → a.stopAt k = some st → ∃ b st', t.runAt j = some b ∧ b.stopAt k = some st' ∧
          st'.skipped = (if y.spec.kind = .skip ∧ st.skipped = true ∧ st.actArr = none then t.covered st.tp
            else st.skipped)) ∧
        (∀ p d l, s.point p = some d → s.covered p ≠ t.covered p → get1 t.piu.zones d.zone = some l →
          (l.derived = .routine ↔ ∃ q e, s.point q = some e ∧ e.zone = d.zone ∧ t.covered q = true) ∧
          (l.derived ≠ .routine → l.derived = .none)) ∧
        (∀ z, (∀ p d, s.point p = some d → d.zone = z → s.covered p = t.covered p) →
          get1 t.piu.zones z = get1 s.piu.zones z) ∧
        (∀ z, (get1 t.piu.zones z).map (·.set) = (get1 s.piu.zones z).map (·.set)) ∧
        (∀ g, (t.seg g).queue = (s.seg g).queue) ∧ t.rtb.counters = s.rtb.counters) ∧
    (Passes s .liftRestriction r → r.u8 0 < 1 ∨ 4 < r.u8 0 →
      exec (.liftRestriction r) s = .next (answered s .liftRestriction r .outOfRange r.principal [])) ∧
    (∀ y, Passes s .liftRestriction r → 1 ≤ r.u8 0 → r.u8 0 ≤ 4 →
      x.restrictions.find? (fun q => q.number == r.u8 0) = some y → (s.roleOf r).mayRestrict y.spec.kind = false →
      exec (.liftRestriction r) s = .next (answered s .liftRestriction r .notPermitted r.principal [])) ∧
    (Passes s .liftRestriction r → 1 ≤ r.u8 0 → r.u8 0 ≤ 4 → (∀ q ∈ x.restrictions, q.number ≠ r.u8 0) →
      exec (.liftRestriction r) s = .next (answered s .liftRestriction r .noEffect r.principal []))

/-- LINK_RUN and LINK_ANNOUNCEMENT write and remove a link on both sides, within four links a list; nothing else
changes, and the refusals change nothing (R46, R139, R140). The body layout is the model's (log 11). -/
def Obligations.IncidentsLinked : Prop :=
  ∀ (s : State) (r : Req) (i : Nat) (x : Incident), BetweenEvents s → s.resolveInc r.principal = .live i →
    s.incAt i = some x →
    (∀ j run, Passes s .linkRun r → s.resolveRun (r.u16 0) = .live j → s.runAt j = some run →
      (r.u8 2 = 1 → x.state ≠ .cleared → s.runHandle j ∉ x.runs → x.runs.length < 4 → run.incidents.length < 4 →
        exec (.linkRun r) s = .next (answered
          ((s.modInc i fun y => { y with runs := y.runs ++ [s.runHandle j] }).modRun j fun y =>
            { y with incidents := y.incidents ++ [s.incHandle i] }) .linkRun r .ok r.principal [])) ∧
      (r.u8 2 = 2 → s.runHandle j ∈ x.runs →
        exec (.linkRun r) s = .next (answered
          ((s.modInc i fun y => { y with runs := y.runs.filter (· != s.runHandle j) }).modRun j fun y =>
            { y with incidents := y.incidents.filter (· != s.incHandle i) }) .linkRun r .ok r.principal [])) ∧
      (r.u8 2 = 1 ∧ x.state ≠ .cleared ∧ s.runHandle j ∈ x.runs ∨ r.u8 2 = 2 ∧ s.runHandle j ∉ x.runs →
        exec (.linkRun r) s = .next (answered s .linkRun r .noEffect r.principal [])) ∧
      (r.u8 2 = 1 → x.state ≠ .cleared → s.runHandle j ∉ x.runs → 4 ≤ x.runs.length →
        exec (.linkRun r) s = .next (answered s .linkRun r .full r.principal [])) ∧
      (r.u8 2 = 1 → x.state ≠ .cleared → s.runHandle j ∉ x.runs → x.runs.length < 4 → 4 ≤ run.incidents.length →
        exec (.linkRun r) s = .next (answered s .linkRun r .full (s.runHandle j) [])) ∧
      (r.u8 2 = 1 → x.state = .cleared →
        exec (.linkRun r) s = .next (answered s .linkRun r .badState r.principal [])) ∧
      (r.u8 2 = 0 ∨ 2 < r.u8 2 →
        exec (.linkRun r) s = .next (answered s .linkRun r .outOfRange r.principal []))) ∧
    (∀ j a, Passes s .linkAnnouncement r → s.resolveAnn (r.u16 0) = .live j → s.annAt j = some a →
      (r.u8 2 = 1 → x.state ≠ .cleared → s.annHandle j ∉ x.anns → a.linkedInc = none → x.anns.length < 4 →
        exec (.linkAnnouncement r) s = .next (answered
          ((s.modInc i fun y => { y with anns := y.anns ++ [s.annHandle j] }).modAnn j fun y =>
            { y with linkedInc := some (s.incHandle i) }) .linkAnnouncement r .ok r.principal [])) ∧
      (r.u8 2 = 2 → s.annHandle j ∈ x.anns →
        exec (.linkAnnouncement r) s = .next (answered
          ((s.modInc i fun y => { y with anns := y.anns.filter (· != s.annHandle j) }).modAnn j fun y =>
            { y with linkedInc := none }) .linkAnnouncement r .ok r.principal [])) ∧
      (r.u8 2 = 1 ∧ x.state ≠ .cleared ∧ s.annHandle j ∈ x.anns ∨ r.u8 2 = 2 ∧ s.annHandle j ∉ x.anns →
        exec (.linkAnnouncement r) s = .next (answered s .linkAnnouncement r .noEffect r.principal [])) ∧
      (r.u8 2 = 1 → x.state = .cleared ∨ (s.annHandle j ∉ x.anns ∧ a.linkedInc ≠ none) →
        exec (.linkAnnouncement r) s = .next (answered s .linkAnnouncement r .badState r.principal [])) ∧
      (r.u8 2 = 1 → x.state ≠ .cleared → s.annHandle j ∉ x.anns → a.linkedInc = none → 4 ≤ x.anns.length →
        exec (.linkAnnouncement r) s = .next (answered s .linkAnnouncement r .full r.principal [])) ∧
      (r.u8 2 = 0 ∨ 2 < r.u8 2 →
        exec (.linkAnnouncement r) s = .next (answered s .linkAnnouncement r .outOfRange r.principal [])))

/-- CLEAR_INCIDENT lifts every restriction, withdraws every linked announcement, stops the timer of a RAISED incident
and takes it off its desk, and leaves it CLEARED. That no handle of its list names a live announcement after it is said
where the event computes no release time, so that it posts no delay announcement into a slot it has freed: where no SLOW
is lifted, or no run is DWELLING or HELD. RETIRE_INCIDENT empties the slot of a CLEARED incident, advances its
generation, and a pending automatic incident takes it; the incident's handle leaves the list of every run that it lists,
and nothing else of the runs' lists changes, but that a pending report conflict is linked to its run. Both are
NOT_PERMITTED to a client of another role than the incident's desk class or SUPERVISOR, with nothing changed (R46, R126,
R141, R142, R145). -/
def Obligations.IncidentClearedAndRetired : Prop :=
  ∀ (s : State) (r : Req) (i : Nat) (x : Incident), BetweenEvents s → s.resolveInc r.principal = .live i →
    s.incAt i = some x →
    (Passes s .clearIncident r →
      (x.manages (s.roleOf r) = false →
        exec (.clearIncident r) s = .next (answered s .clearIncident r .notPermitted r.principal [])) ∧
      (x.manages (s.roleOf r) = true → x.state = .cleared →
        exec (.clearIncident r) s = .next (answered s .clearIncident r .noEffect r.principal [])) ∧
      (x.manages (s.roleOf r) = true → x.state ≠ .cleared →
        ∃ t z, exec (.clearIncident r) s = .next t ∧ Answers s t .clearIncident r .ok r.principal [] ∧ Steady s t ∧
          t.incAt i = some z ∧ z.state = .cleared ∧ z.restrictions = [] ∧ z.number = x.number ∧ z.runs = x.runs ∧
          (x.state = .raised → z.escalation = none ∧ s.incHandle i ∉ t.desk x.desk) ∧
          (∀ j, j ≠ i → (t.incAt j).map (·.restrictions) = (s.incAt j).map (·.restrictions)) ∧
          (∀ g, (t.seg g).queue = (s.seg g).queue) ∧ t.rtb.counters = s.rtb.counters ∧
          ((∀ q ∈ x.restrictions, q.spec.kind ≠ .slow) ∨
              (∀ j y, s.runAt j = some y → y.state ≠ .dwelling ∧ y.state ≠ .held) →
            ∀ h ∈ x.anns, t.annOf h = none) ∧
          ((∀ h ∈ x.anns, ∃ a, s.annOf h = some a ∧ a.linkedInc = some (s.incHandle i)) → z.anns = []) ∧
          (∀ j a, x.restrictions = [] → s.annAt j = some a → x.anns = [s.annHandle j] →
            AnnouncementGone s t j a))) ∧
    (Passes s .retireIncident r → x.manages (s.roleOf r) = false →
      exec (.retireIncident r) s = .next (answered s .retireIncident r .notPermitted r.principal [])) ∧
    (Passes s .retireIncident r → x.manages (s.roleOf r) = true →
      (x.state ≠ .cleared →
        exec (.retireIncident r) s = .next (answered s .retireIncident r .badState r.principal [])) ∧
      (x.state = .cleared → (∀ c, look s.itb.pendingSet c = none) →
        ∃ t, exec (.retireIncident r) s = .next t ∧ Answers s t .retireIncident r .ok r.principal [] ∧ Steady s t ∧
          t.incAt i = none ∧
          (∀ y z, get1 s.itb.slots i = some y → get1 t.itb.slots i = some z → z.gen = (y.gen + 1) % 256) ∧
          (∀ j, j ≠ i → t.incAt j = s.incAt j) ∧ t.itb.desks = s.itb.desks ∧
          (∀ j, (t.runAt j).map Run.plan = (s.runAt j).map Run.plan) ∧ t.mvt = s.mvt ∧ t.drg = s.drg ∧
          t.tpc = s.tpc ∧ t.piu = s.piu ∧
          (∀ j y, s.runAt j = some y → t.runAt j = some (if s.runHandle j ∈ x.runs
            then { y with incidents := y.incidents.filter (· != s.incHandle i) } else y))) ∧
      (∀ c p, x.state = .cleared → s.firstPending = some (c, p) →
        ∃ t z, exec (.retireIncident r) s = .next t ∧ Answers s t .retireIncident r .ok r.principal [] ∧ Steady s t ∧
          t.incAt i = some z ∧ z.auto = some c ∧ z.detail = some p.detail ∧ z.count = p.count ∧ z.state = .raised ∧
          z.source = .engine ∧ look t.itb.pendingSet c.code = none ∧
          (∀ j y, s.runAt j = some y → ∃ w, t.runAt j = some w ∧ w.plan = y.plan ∧ w.state = y.state ∧
            w.incidents = (if s.runHandle j ∈ x.runs then y.incidents.filter (· != s.incHandle i) else y.incidents) ++
              if s.runHandle j ∈ z.runs then [t.incHandle i] else []) ∧
          (∀ h ∈ z.runs, p.detail.run = some h)))

/-! ## The Passenger Information Unit -/

/-- POST_ANNOUNCEMENT makes the lowest free slot live and answers its handle: with a start in the future it is
SCHEDULED; else it is QUEUED, due now, and an idle READY channel with zones and window room plays it at once. A refused
post changes nothing: BAD_STATE in SETUP, OUT_OF_RANGE for a body that cannot be read or an expiry that has passed,
NOT_FOUND or STALE for a run handle that does not resolve, BAD_STATE for an ended run, FULL without a free slot, in this
order (R149, R150, R152, R153, R161, R162, R188). The model's are the body layout (log 11), the absent due time of a
SCHEDULED announcement (log 44), the place of the run handles' check (log 46), and that of two run handles the follow-run
target comes first (log 52). -/
def Obligations.AnnouncementPosted : Prop :=
  ∀ (s : State) (r : Req), BetweenEvents s → Passes s .postAnnouncement r →
    (s.inService = false →
      exec (.postAnnouncement r) s = .next (answered s .postAnnouncement r .badState 0 [])) ∧
    (s.inService = true → r.post = none →
      exec (.postAnnouncement r) s = .next (answered s .postAnnouncement r .outOfRange 0 [])) ∧
    ∀ (x : AnnSpec) (run : Option Nat), s.inService = true → r.post = some (x, run) →
      (∀ code h, PostRefused s x run code h →
        exec (.postAnnouncement r) s = .next (answered s .postAnnouncement r code h [])) ∧
      (∀ i c, (∀ code h, ¬PostRefused s x run code h) → s.freeAnn = some i → get0 s.piu.classMap x.cls = some c →
        (∀ b, x.start = some b → s.lck.clock < b →
          exec (.postAnnouncement r) s = .next (answered { s with
            piu := { s.piu with slots := mod1 s.piu.slots i fun y => { y with
              ann := some ⟨x, c, .client r.client.toNat, none, run, .scheduled, x.repeatCount, none, x.start, x.expiry,
                none⟩ } } } .postAnnouncement r .ok (s.annHandle i) [])) ∧
        ((∀ b, x.start = some b → b ≤ s.lck.clock) → (s.chan c).state ≠ .ready →
          ∃ t, exec (.postAnnouncement r) s = .next t ∧
            Answers s t .postAnnouncement r .ok (s.annHandle i) [] ∧ Steady s t ∧
            t.annAt i = some ⟨x, c, .client r.client.toNat, none, run, .queued, x.repeatCount, some s.lck.clock, none,
              x.expiry, none⟩ ∧
            (∀ j, j ≠ i → t.annAt j = s.annAt j) ∧
            (c ≤ 3 → (t.chan c).queue.Perm (s.annHandle i :: (s.chan c).queue)) ∧
            (∀ d, d ≠ c → t.chan d = s.chan d) ∧ t.rtb = s.rtb ∧ t.mvt = s.mvt ∧ t.drg = s.drg ∧ t.tpc = s.tpc ∧
            t.itb = s.itb ∧ t.fli = s.fli.startFrame) ∧
        ((∀ b, x.start = some b → b ≤ s.lck.clock) → c ≤ 3 → (s.chan c).state = .ready → (s.chan c).onAir = none →
          (s.chan c).queue = [] → (s.chan c).stack = [] → (s.chan c).occupancy < 16 →
          s.targetZones x.target &&& ~~~ s.blockedZones x.cls ≠ 0 →
          ∃ t, exec (.postAnnouncement r) s = .next t ∧
            Answers s t .postAnnouncement r .ok (s.annHandle i) [] ∧ Steady s t ∧
            t.annAt i = some ⟨x, c, .client r.client.toNat, none, run, .onAir, x.repeatCount, some s.lck.clock, none,
              x.expiry, some (s.chan c).nextToken⟩ ∧
            t.chan c = { s.chan c with
              onAir := some (s.annHandle i)
              producer := (s.chan c).producer + 1
              nextToken := if (s.chan c).nextToken < 255 then (s.chan c).nextToken + 1 else 1 } ∧
            (∀ d, d ≠ c → t.chan d = s.chan d) ∧
            Created s t .output
              [.play c (s.chan c).nextToken (s.targetZones x.target &&& ~~~ s.blockedZones x.cls) x.phrases] ∧
            t.rtb = s.rtb ∧ t.itb = s.itb))

/-- WITHDRAW_ANNOUNCEMENT by the owner, an INFORMATION or a SUPERVISOR client ends a live announcement, and so does its
due expiry timer: the slot is emptied and its generation advances, the announcement is in no queue, stack or on-air slot
of its channel, and one on air is cut. ENDED goes to the client that owns it, with the reason, and to nobody where the
part owns it; where its channel is served, because it stood on air or on the stack, the ENDED notices of other
announcements may follow. Another client is NOT_PERMITTED (R149, R151, R158, R166, R167, R179). The timer fields
are the model's (log 24). -/
def Obligations.AnnouncementEnded : Prop :=
  ∀ (s : State) (i : Nat) (a : Announcement), BetweenEvents s → s.annAt i = some a →
    (∀ r, Passes s .withdrawAnnouncement r → s.resolveAnn r.principal = .live i →
      (a.owner ≠ .client r.client.toNat → s.roleOf r ≠ .information → s.roleOf r ≠ .supervisor →
        exec (.withdrawAnnouncement r) s =
          .next (answered s .withdrawAnnouncement r .notPermitted r.principal [])) ∧
      (a.owner = .client r.client.toNat ∨ s.roleOf r = .information ∨ s.roleOf r = .supervisor →
        ∃ t, exec (.withdrawAnnouncement r) s = .next t ∧
          Answers s t .withdrawAnnouncement r .ok r.principal [] ∧ Steady s t ∧ AnnouncementGone s t i a ∧
          EndingPosted s t i a .withdrawn)) ∧
    (s.reached a.expiryTimer = true →
      ∃ t, exec (.announcementExpiry i) s = .next t ∧ SteadyTimer s t ∧ AnnouncementGone s t i a ∧
        EndingPosted s t i a .expired)

/-- SET_CLASS_MAP, SET_CHANNEL_POLICY and SET_ZONE_BLOCK write the one entry they name; the value that stands already is
NO_EFFECT, a class that is live or whose channels are not DISABLED stays, and a value outside its range is OUT_OF_RANGE
(R154, R160, R163). ENABLE_CHANNEL and DISABLE_CHANNEL move a channel by the table of R156; a DISABLED one whose last
status is READY becomes READY with its window emptied, as R157 gives, and an abandoned halt leaves the window; the forms
that change nothing are NO_EFFECT, a channel outside 0..3 is OUT_OF_RANGE, and ENABLE_CHANNEL in SETUP BAD_STATE. The
body layout is the model's (log 11). -/
def Obligations.PassengerSettingsWritten : Prop :=
  (∀ (s : State) (r : Req), BetweenEvents s →
    (Passes s .setClassMap r → r.u8 0 = 0 ∨ 6 < r.u8 0 ∨ 3 < r.u8 1 →
      exec (.setClassMap r) s = .next (answered s .setClassMap r .outOfRange 0 [])) ∧
    (Passes s .setChannelPolicy r → 3 < r.u8 0 ∨ WindowPolicy.ofCode (r.u8 1) = none →
      exec (.setChannelPolicy r) s = .next (answered s .setChannelPolicy r .outOfRange 0 [])) ∧
    (Passes s .setZoneBlock r → r.u8 0 = 0 ∨ 32 < r.u8 0 ∨ BlockLevel.ofCode (r.u8 1) = none →
      exec (.setZoneBlock r) s = .next (answered s .setZoneBlock r .outOfRange 0 [])) ∧
    (Passes s .enableChannel r → 3 < r.u8 0 →
      exec (.enableChannel r) s = .next (answered s .enableChannel r .outOfRange 0 [])) ∧
    (Passes s .disableChannel r → 3 < r.u8 0 →
      exec (.disableChannel r) s = .next (answered s .disableChannel r .outOfRange 0 [])) ∧
    (∀ old, Passes s .setClassMap r → 1 ≤ r.u8 0 → r.u8 0 ≤ 6 → r.u8 1 ≤ 3 → get0 s.piu.classMap (r.u8 0) = some old →
      (old = r.u8 1 → exec (.setClassMap r) s = .next (answered s .setClassMap r .noEffect 0 [])) ∧
      (old ≠ r.u8 1 → (s.chan old).state ≠ .disabled ∨ (s.chan (r.u8 1)).state ≠ .disabled ∨
          (∃ j a, s.annAt j = some a ∧ a.spec.cls = r.u8 0) →
        exec (.setClassMap r) s = .next (answered s .setClassMap r .badState 0 [])) ∧
      (old ≠ r.u8 1 → (s.chan old).state = .disabled → (s.chan (r.u8 1)).state = .disabled →
        (∀ j a, s.annAt j = some a → a.spec.cls ≠ r.u8 0) →
        exec (.setClassMap r) s = .next (answered
          { s with piu := { s.piu with classMap := mod0 s.piu.classMap (r.u8 0) fun _ => r.u8 1 } }
          .setClassMap r .ok 0 []))) ∧
    (∀ p, Passes s .setChannelPolicy r → r.u8 0 ≤ 3 → WindowPolicy.ofCode (r.u8 1) = some p →
      ((s.chan (r.u8 0)).policy = p →
        exec (.setChannelPolicy r) s = .next (answered s .setChannelPolicy r .noEffect 0 [])) ∧
      ((s.chan (r.u8 0)).policy ≠ p → (s.chan (r.u8 0)).state ≠ .ready →
        exec (.setChannelPolicy r) s = .next (answered
          (s.modChan (r.u8 0) fun c => { c with policy := p }) .setChannelPolicy r .ok 0 [])) ∧
      ((s.chan (r.u8 0)).policy ≠ p →
        ∃ t, exec (.setChannelPolicy r) s = .next t ∧ Answers s t .setChannelPolicy r .ok 0 [] ∧ Steady s t ∧
          (∀ d, (t.chan d).policy = if d = r.u8 0 then p else (s.chan d).policy) ∧
          (∀ d, (t.chan d).state = (s.chan d).state) ∧ t.mvt = s.mvt ∧ t.drg = s.drg ∧ t.tpc = s.tpc)) ∧
    (∀ l z, Passes s .setZoneBlock r → get1 s.piu.zones (r.u8 0) = some z → BlockLevel.ofCode (r.u8 1) = some l →
      exec (.setZoneBlock r) s = .next (
        if z.set = l then answered s .setZoneBlock r .noEffect 0 []
        else answered { s with piu := { s.piu with
            zones := mod1 s.piu.zones (r.u8 0) fun y => { y with set := l } } } .setZoneBlock r .ok 0 []))) ∧
  ∀ (s : State) (r : Req) (c : Nat), BetweenEvents s → r.u8 0 = c → c ≤ 3 →
    (Passes s .enableChannel r →
      (s.inService = false → exec (.enableChannel r) s = .next (answered s .enableChannel r .badState 0 [])) ∧
      (s.inService = true →
        ((s.chan c).state = .pending ∨ (s.chan c).state = .ready →
          exec (.enableChannel r) s = .next (answered s .enableChannel r .noEffect 0 [])) ∧
        ((s.chan c).state = .disabled → (s.chan c).lastStatus ≠ some .ready →
          exec (.enableChannel r) s = .next (answered
            (s.modChan c fun x => { x with state := .pending }) .enableChannel r .ok 0 [])) ∧
        ((s.chan c).state = .halting ∨ ((s.chan c).state = .disabled ∧ (s.chan c).lastStatus = some .ready) →
          ∃ t, exec (.enableChannel r) s = .next t ∧ Answers s t .enableChannel r .ok 0 [] ∧ Steady s t ∧
            (t.chan c).state = .ready ∧ (∀ d, d ≠ c → (t.chan d).state = (s.chan d).state) ∧
            (t.chan c).consumer = (if (s.chan c).state = .disabled then (s.chan c).producer else (s.chan c).consumer) ∧
            (∀ d, d ≠ c → (t.chan d).consumer = (s.chan d).consumer) ∧ t.mvt = s.mvt ∧ t.drg = s.drg ∧
            t.tpc = s.tpc))) ∧
    (Passes s .disableChannel r → exec (.disableChannel r) s = .next (
      match (s.chan c).state with
      | .ready => answered (s.modChan c fun x => { x with
          state := if (s.chan c).onAir = none ∧ (s.chan c).producer = (s.chan c).consumer then .disabled
            else .halting }) .disableChannel r .ok 0 []
      | .pending => answered (s.modChan c fun x => { x with state := .disabled }) .disableChannel r .ok 0 []
      | .halting | .disabled => answered s .disableChannel r .noEffect 0 []))

/-- PA_DONE of the token on air ends the occurrence: an announcement with repeats left, or without a count, rests for
its interval, and the last one ends; it is supposed that an announcement on air stands on its own channel alone (R155).
PA_TAKEN moves the consumer count by an advance within the window. Any other is unmatched (R158, R165, R187). PA_STATUS
keeps the status last reported and moves the channel by R157's table: READY empties the window of a PENDING one, and
NOT_READY of a READY or HALTING one puts the announcement on air back into the queue, its due time unchanged, without a
CUT; a channel outside 0..3 is unmatched. -/
def Obligations.PaReportsTaken : Prop :=
  (∀ (s : State) (channel : Byte), BetweenEvents s →
    (∀ token, 3 < channel.toNat ∨ s.onAirWith channel.toNat token.toNat = none →
      exec (.paDone channel token) s = .next { s with
        fli := { s.fli.received 2 with unmatched := satInc s.fli.unmatched }.startFrame }) ∧
    (∀ token i a, channel.toNat ≤ 3 → s.onAirWith channel.toNat token.toNat = some i → s.annAt i = some a →
      (a.spec.repeatCount ≠ 0 → a.remaining ≤ 1 →
        ∃ t, exec (.paDone channel token) s = .next t ∧ SteadyReport 2 s t ∧ t.annAt i = none ∧
          t.fli.unmatched = s.fli.unmatched ∧ t.mvt = s.mvt) ∧
      (a.spec.repeatCount = 0 ∨ 1 < a.remaining →
        (∀ c, s.annHandle i ∉ (s.chan c).queue ∧ s.annHandle i ∉ (s.chan c).stack) →
        (∀ c, c ≠ channel.toNat → (s.chan c).onAir ≠ some (s.annHandle i)) →
        ∃ t, exec (.paDone channel token) s = .next t ∧ SteadyReport 2 s t ∧
          t.annAt i = some { a with
            state := .resting, token := none
            remaining := if a.spec.repeatCount = 0 then a.remaining else a.remaining - 1
            nextDue := some (min (s.lck.clock + (a.spec.interval + 2) * 10) 107999) } ∧
          (t.chan channel.toNat).onAir ≠ some (s.annHandle i) ∧ t.mvt = s.mvt)) ∧
    (∀ count, 3 < channel.toNat ∨ (s.chan channel.toNat).occupancy < (count - (s.chan channel.toNat).consumer).toNat →
      exec (.paTaken channel count) s = .next { s with
        fli := { s.fli.received 3 with unmatched := satInc s.fli.unmatched }.startFrame }) ∧
    (∀ count, channel.toNat ≤ 3 →
      (count - (s.chan channel.toNat).consumer).toNat ≤ (s.chan channel.toNat).occupancy →
      ∃ t, exec (.paTaken channel count) s = .next t ∧ SteadyReport 3 s t ∧
        (t.chan channel.toNat).consumer = count ∧ t.fli.unmatched = s.fli.unmatched ∧
        (∀ d, d ≠ channel.toNat → (t.chan d).consumer = (s.chan d).consumer) ∧ t.mvt = s.mvt)) ∧
  ∀ (s : State) (channel : Byte) (x : PaStatus), BetweenEvents s →
    (3 < channel.toNat → exec (.paStatus channel x) s = .next { s with
      fli := { s.fli.received 2 with unmatched := satInc s.fli.unmatched }.startFrame }) ∧
    (channel.toNat ≤ 3 →
      ∃ t, exec (.paStatus channel x) s = .next t ∧ SteadyReport 2 s t ∧
        (t.chan channel.toNat).lastStatus = some x ∧
        (t.chan channel.toNat).state = (match x, (s.chan channel.toNat).state with
          | .ready, .pending => .ready
          | .notReady, .ready => .pending
          | .notReady, .halting => .disabled
          | _, y => y) ∧
        (t.chan channel.toNat).consumer = (if x = .ready ∧ (s.chan channel.toNat).state = .pending
          then (s.chan channel.toNat).producer else (s.chan channel.toNat).consumer) ∧
        (x = .notReady → (s.chan channel.toNat).state = .ready ∨ (s.chan channel.toNat).state = .halting →
          (t.chan channel.toNat).onAir = none ∧ (t.chan channel.toNat).producer = (s.chan channel.toNat).producer ∧
          (t.chan channel.toNat).stack = (s.chan channel.toNat).stack ∧ t.fli = (s.fli.received 2).startFrame ∧
          ((s.chan channel.toNat).onAir = none → t.piu.slots = s.piu.slots ∧
            (t.chan channel.toNat).queue = (s.chan channel.toNat).queue) ∧
          ∀ h i a d, (s.chan channel.toNat).onAir = some h → s.resolveAnn h = .live i → s.annAt i = some a →
            a.due = some d → t.annAt i = some (a.queuedAt d) ∧ (∀ j, j ≠ i → t.annAt j = s.annAt j) ∧
              (t.chan channel.toNat).queue.Perm (h :: (s.chan channel.toNat).queue)) ∧
        (∀ d, d ≠ channel.toNat → (t.chan d).state = (s.chan d).state ∧ (t.chan d).lastStatus = (s.chan d).lastStatus) ∧
        t.fli.unmatched = s.fli.unmatched ∧ t.mvt = s.mvt ∧ t.drg = s.drg ∧ t.tpc = s.tpc ∧ t.lds = s.lds)

/-- The due start timer of a SCHEDULED announcement and the due repeat timer of a RESTING one make it QUEUED, due at the
timer's expiry value, in its channel's queue, which keeps the order of R159; an idle READY channel with zones and window
room plays it at once. On a READY channel without another candidate an occurrence without zones is consumed; before a
full window it waits, moves to channel 0 or ends DROPPED, as the policy and its class give; an announcement on air is
preempted by class 4 or more above its own where the stack holds fewer than 4 and the window has room for a CUT and a
PLAY, and with a full stack the preemption is deferred. When the announcement on air is done, the top of the resume
stack goes on air again (R151, R153, R159, R161, R162, R163, R164, R165, R179). The timer fields are the model's (log
24). -/
def Obligations.AnnouncementBecomesDue : Prop :=
  (∀ (s : State) (c : Instr) (i e : Nat) (a : Announcement), FallsDue s c i e a →
    ((s.chan a.channel).state ≠ .ready →
      ∃ t, exec c s = .next t ∧ SteadyTimer s t ∧
        t.annAt i = some { a with state := .queued, due := some e, nextDue := none, token := none } ∧
        (t.chan a.channel).queue.Perm (s.annHandle i :: (s.chan a.channel).queue) ∧
        (∀ j, j ≠ i → t.annAt j = s.annAt j) ∧ (∀ d, d ≠ a.channel → t.chan d = s.chan d) ∧
        t.rtb = s.rtb ∧ t.itb = s.itb ∧ t.fli = s.fli.startFrame) ∧
    ((s.chan a.channel).state = .ready → (s.chan a.channel).onAir = none → (s.chan a.channel).queue = [] →
      (s.chan a.channel).stack = [] → (s.chan a.channel).occupancy < 16 → s.zoneSet (s.annHandle i) ≠ 0 →
      ∃ t, exec c s = .next t ∧ SteadyTimer s t ∧
        t.annAt i = some { a with
          state := .onAir, due := some e, nextDue := none, token := some (s.chan a.channel).nextToken } ∧
        (t.chan a.channel).onAir = some (s.annHandle i) ∧ (t.chan a.channel).queue = [] ∧
        (t.chan a.channel).producer = (s.chan a.channel).producer + 1 ∧
        Created s t .output [.play a.channel (s.chan a.channel).nextToken (s.zoneSet (s.annHandle i))
          a.spec.phrases] ∧ t.rtb = s.rtb ∧ t.itb = s.itb) ∧
    ((s.chan a.channel).state ≠ .ready → s.annHandle i ∉ (s.chan a.channel).queue →
      QueueOrdered s (s.chan a.channel).queue →
      ∃ t, exec c s = .next t ∧ QueueOrdered t (t.chan a.channel).queue ∧
        (t.chan a.channel).queue.Perm (s.annHandle i :: (s.chan a.channel).queue)) ∧
    ((s.chan a.channel).state = .ready → (s.chan a.channel).onAir = none → (s.chan a.channel).queue = [] →
      (s.chan a.channel).stack = [] →
      (s.zoneSet (s.annHandle i) = 0 →
        (a.spec.repeatCount ≠ 0 → a.remaining ≤ 1 → ∃ t, exec c s = .next t ∧ SteadyTimer s t ∧ t.annAt i = none) ∧
        (a.spec.repeatCount = 0 ∨ 1 < a.remaining → ∃ t, exec c s = .next t ∧ SteadyTimer s t ∧
          t.annAt i = some { a with
            state := .resting, due := some e, token := none
            remaining := if a.spec.repeatCount = 0 then a.remaining else a.remaining - 1
            nextDue := some (min (s.lck.clock + (a.spec.interval + 2) * 10) 107999) } ∧
          t.chan a.channel = s.chan a.channel ∧ Created s t .output [])) ∧
      (s.zoneSet (s.annHandle i) ≠ 0 → 16 ≤ (s.chan a.channel).occupancy →
        (a.spec.cls = 7 ∨ (s.chan a.channel).policy = .wait ∨ ((s.chan a.channel).policy = .redirect ∧
            (a.spec.cls = 0 ∨ a.channel = 0 ∨ (s.chan 0).state ≠ .ready)) →
          ∃ t, exec c s = .next t ∧ SteadyTimer s t ∧ t.annAt i = some (a.queuedAt e) ∧
            t.chan a.channel = { s.chan a.channel with queue := [s.annHandle i] } ∧
            (∀ d, d ≠ a.channel → t.chan d = s.chan d) ∧ Created s t .output []) ∧
        (a.spec.cls ≠ 7 → (s.chan a.channel).policy = .drop →
          ∃ t, exec c s = .next t ∧ SteadyTimer s t ∧ t.annAt i = none ∧
            t.chan a.channel = s.chan a.channel ∧ Created s t .output [] ∧
            ∀ k x, a.owner = .client k → get0 s.lds.clients k = some x → x.configured = true →
              ∃ n, get0 t.crp.notices k = some n ∧ ⟨.ended, s.annHandle i, EndReason.dropped.code⟩ ∈ n.list) ∧
        (1 ≤ a.spec.cls → a.spec.cls ≤ 6 → (s.chan a.channel).policy = .redirect → a.channel ≠ 0 →
          (s.chan 0).state = .ready → (s.chan 0).queue = [] →
          (∀ k b, (s.chan 0).onAir = some (s.annHandle k) → s.annAt k = some b → k ≠ i →
            a.spec.cls < 4 ∨ a.spec.cls ≤ b.spec.cls →
            ∃ t, exec c s = .next t ∧ SteadyTimer s t ∧
              t.annAt i = some { a.queuedAt e with channel := 0 } ∧
              t.chan 0 = { s.chan 0 with queue := [s.annHandle i] } ∧ t.chan a.channel = s.chan a.channel ∧
              Created s t .output []) ∧
          ((s.chan 0).onAir = none → (s.chan 0).stack = [] → (s.chan 0).occupancy < 16 →
            ∃ t, exec c s = .next t ∧ SteadyTimer s t ∧
              t.annAt i = some { a.queuedAt e with
                channel := 0, state := .onAir, token := some (s.chan 0).nextToken } ∧
              (t.chan 0).onAir = some (s.annHandle i) ∧ t.chan a.channel = s.chan a.channel ∧
              Created s t .output
                [.play 0 (s.chan 0).nextToken (s.zoneSet (s.annHandle i)) a.spec.phrases])))) ∧
    (∀ k b, (s.chan a.channel).state = .ready → (s.chan a.channel).onAir = some (s.annHandle k) →
      s.annAt k = some b → k ≠ i → (s.chan a.channel).queue = [] → s.annHandle i ∉ (s.chan a.channel).stack →
      s.zoneSet (s.annHandle i) ≠ 0 →
      (a.spec.cls < 4 ∨ a.spec.cls ≤ b.spec.cls →
        ∃ t, exec c s = .next t ∧ SteadyTimer s t ∧ t.annAt i = some (a.queuedAt e) ∧ t.annAt k = some b ∧
          t.chan a.channel = { s.chan a.channel with queue := [s.annHandle i] } ∧ Created s t .output []) ∧
      (4 ≤ a.spec.cls → b.spec.cls < a.spec.cls →
        (4 ≤ (s.chan a.channel).stack.length →
          ∃ t, exec c s = .next t ∧ SteadyTimer s t ∧ t.annAt i = some (a.queuedAt e) ∧ t.annAt k = some b ∧
            t.chan a.channel = { s.chan a.channel with queue := [s.annHandle i], deferred := true } ∧
            Created s t .output []) ∧
        ((s.chan a.channel).stack.length < 4 → 14 < (s.chan a.channel).occupancy →
          ∃ t, exec c s = .next t ∧ SteadyTimer s t ∧ t.annAt i = some (a.queuedAt e) ∧ t.annAt k = some b ∧
            t.chan a.channel = { s.chan a.channel with queue := [s.annHandle i] } ∧ Created s t .output []) ∧
        (∀ tok, (s.chan a.channel).stack.length < 4 → (s.chan a.channel).occupancy ≤ 14 → b.token = some tok →
          ∃ t, exec c s = .next t ∧ SteadyTimer s t ∧
            t.annAt i = some { a.queuedAt e with state := .onAir, token := some (s.chan a.channel).nextToken } ∧
            t.annAt k = some { b with state := .suspended, token := none } ∧
            t.chan a.channel = { s.chan a.channel with
              onAir := some (s.annHandle i)
              stack := s.annHandle k :: (s.chan a.channel).stack
              producer := (s.chan a.channel).producer + 2
              nextToken := if (s.chan a.channel).nextToken < 255 then (s.chan a.channel).nextToken + 1 else 1 } ∧
            Created s t .output [.cut a.channel tok, .play a.channel (s.chan a.channel).nextToken
              (s.zoneSet (s.annHandle i)) a.spec.phrases])))) ∧
  ∀ (s : State) (channel token : Byte) (i k : Nat) (a b : Announcement) (rest : List Nat), BetweenEvents s →
    channel.toNat ≤ 3 → s.onAirWith channel.toNat token.toNat = some i → s.annAt i = some a →
    a.channel = channel.toNat → a.spec.repeatCount ≠ 0 → a.remaining ≤ 1 → s.annAt k = some b → k ≠ i →
    (s.chan channel.toNat).state = .ready → (s.chan channel.toNat).queue = [] →
    (s.chan channel.toNat).stack = s.annHandle k :: rest → s.annHandle k ∉ rest → s.annHandle i ∉ rest →
    (s.chan channel.toNat).occupancy < 16 → s.zoneSet (s.annHandle k) ≠ 0 →
    ∃ t, exec (.paDone channel token) s = .next t ∧ SteadyReport 2 s t ∧ t.annAt i = none ∧
      t.annAt k = some { b with
        state := .onAir, nextDue := none, token := some (s.chan channel.toNat).nextToken } ∧
      (t.chan channel.toNat).onAir = some (s.annHandle k) ∧ (t.chan channel.toNat).stack = rest ∧
      (t.chan channel.toNat).deferred = false ∧
      (t.chan channel.toNat).producer = (s.chan channel.toNat).producer + 1 ∧
      Created s t .output [.play channel.toNat (s.chan channel.toNat).nextToken (s.zoneSet (s.annHandle k))
        b.spec.phrases]

/-! ## The Field Link Interface -/

/-- A bad frame is counted, saturating, and the receiver hunts from the byte behind its start code; bytes that make no
bad frame change nothing (log 27). No command but BAD_FRAME and POWER_ON changes the bad-frame counter (R185, R186). At
the end of a frame the line goes to the first non-empty stream behind the rotation position, in the order release,
breaker, output, board, and the rotation moves there; with every queue empty the line is free (R189). -/
def Obligations.FieldLineServed : Prop :=
  (∀ (s : State),
    (∀ bytes, s.fli.rx = .hunt → verdict bytes = .bad →
      exec (.badFrame bytes) s = .next { s with fli := { s.fli with
        badFrames := if s.fli.badFrames < 65535 then s.fli.badFrames + 1 else s.fli.badFrames
        rx := hunt bytes } }) ∧
    (∀ bytes taken, s.fli.rx = .frame taken → taken = bytes ++ taken.drop bytes.length → verdict taken = .bad →
      exec (.badFrame bytes) s = .next { s with fli := { s.fli with
        badFrames := if s.fli.badFrames < 65535 then s.fli.badFrames + 1 else s.fli.badFrames
        rx := hunt taken } }) ∧
    (∀ bytes, s.fli.rx = .hunt → verdict bytes ≠ .bad → exec (.badFrame bytes) s = .next s) ∧
    ∀ c t, c ≠ .powerOn → (∀ bytes, c ≠ .badFrame bytes) → exec c s = .next t → t.fli.badFrames = s.fli.badFrames) ∧
  ∀ (s : State) (f : List Byte), s.fli.sending = some f →
    ((∀ st, s.fli.queue st = []) → exec .frameTransmitEnd s = .next { s with fli := { s.fli with sending := none } }) ∧
    (∀ n st o rest, n < 4 → st.number = (s.fli.rotation.number + 1 + n) % 4 →
      (∀ m st', m < n → st'.number = (s.fli.rotation.number + 1 + m) % 4 → s.fli.queue st' = []) →
      s.fli.queue st = o :: rest →
      exec .frameTransmitEnd s = .next { s with
        fli := { s.fli.setQueue st rest with sending := some o.frame, rotation := st } })

/-- Reports and frames agree: the frame of a report is found sound and read as that report, and no other kind and body
is read as one; a whole frame is sound exactly when its check is right and its kind, length and coded field are a
report's; fewer bytes are waited for, and a length above 63 is bad at once; no order's frame is a report to the receiver
(R185, R193, R197). -/
def Obligations.FramesChecked : Prop :=
  (∀ (i : Instr) (k : Nat) (body : List Byte), reportFrame i = some (k, body) →
    reportOf k body = some i ∧ verdict ((frame k body).drop 1) = .sound ∧ (frame k body).head? = some 126) ∧
  (∀ (k : Nat) (body : List Byte) (i : Instr), reportOf k body = some i → reportFrame i = some (k, body)) ∧
  (∀ (k l : Byte) (body : List Byte) (a b : Byte), l.toNat ≤ 63 → body.length = l.toNat →
    (verdict (k :: l :: body ++ [a, b]) = .sound ↔
      [a, b] = enc16 (frameCheck (k :: l :: body)).toNat ∧ ∃ i, reportOf k.toNat body = some i) ∧
    verdict (k :: l :: body ++ [a, b]) ≠ .incomplete) ∧
  (∀ (k l : Byte) (rest : List Byte),
    (63 < l.toNat → verdict (k :: l :: rest) = .bad) ∧
    (l.toNat ≤ 63 → rest.length < l.toNat + 2 → verdict (k :: l :: rest) = .incomplete)) ∧
  ∀ o : Order, o.frame.head? = some 126 ∧ (o.body.length ≤ 63 → verdict (o.frame.drop 1) = .bad)
end

