-- ==== Sys2Proof/Decode.lean ====
section
/-! DEFINITION. The command that a word spells by the bits of spec/opcode_table.json. -/

namespace Sys2Proof

/-- The table gives no row any bits ("fields" is empty in all of them), so no word spells a command (log 38). -/
def decodeTableWord (_nbits _w : Nat) : Option Instr := none

end Sys2Proof
end

