-- ==== Sys2Proof/Laws/Tables.lean ====
section
/-! SUPPORT. Laws of the tables and of ordered insertion: what a read gives after a write. -/

namespace Sys2Proof.Machine

variable {α : Type} {n : Nat}

/-! ## Tables numbered from 0 -/

theorem get0_mod0_self (v : Vector α n) (i : Nat) (f : α → α) : get0 (mod0 v i f) i = (get0 v i).map f := by
  unfold get0 mod0
  cases h : v.toList[i]? with
  | none => simp [h]
  | some a =>
    have hi : i < n := by simpa using (List.getElem?_eq_some_iff.1 h).1
    simp [Vector.toList_setIfInBounds, hi]

theorem get0_mod0_ne (v : Vector α n) {i j : Nat} (h : i ≠ j) (f : α → α) : get0 (mod0 v i f) j = get0 v j := by
  unfold get0 mod0
  cases v.toList[i]? with
  | none => rfl
  | some a => simp [Vector.toList_setIfInBounds, List.getElem?_set_ne h]

theorem get0_replicate (a : α) (i : Nat) (h : i < n) : get0 (Vector.replicate n a) i = some a := by
  simp [get0, h]

/-! ## Tables numbered from 1 -/

theorem get1_zero (v : Vector α n) : get1 v 0 = none := rfl

theorem get1_succ (v : Vector α n) (i : Nat) : get1 v (i + 1) = get0 v i := rfl

theorem get1_mod1_self (v : Vector α n) (i : Nat) (f : α → α) : get1 (mod1 v i f) i = (get1 v i).map f := by
  cases i with
  | zero => rfl
  | succ i => simpa [mod1, get1_succ] using get0_mod0_self v i f

theorem get1_mod1_ne (v : Vector α n) {i j : Nat} (h : i ≠ j) (f : α → α) : get1 (mod1 v i f) j = get1 v j := by
  cases i with
  | zero => rfl
  | succ i =>
    cases j with
    | zero => rfl
    | succ j => simpa [mod1, get1_succ] using get0_mod0_ne v (by omega : i ≠ j) f

theorem get1_mod1 (v : Vector α n) (i j : Nat) (f : α → α) :
    get1 (mod1 v i f) j = if i = j then (get1 v j).map f else get1 v j := by
  split
  · next h => subst h; exact get1_mod1_self v i f
  · next h => exact get1_mod1_ne v h f

theorem get0_mod0 (v : Vector α n) (i j : Nat) (f : α → α) :
    get0 (mod0 v i f) j = if i = j then (get0 v j).map f else get0 v j := by
  split
  · next h => subst h; exact get0_mod0_self v i f
  · next h => exact get0_mod0_ne v h f

theorem get1_isSome (v : Vector α n) {i : Nat} (h : 1 ≤ i) (h' : i ≤ n) : ∃ a, get1 v i = some a := by
  obtain ⟨j, rfl⟩ : ∃ j, i = j + 1 := ⟨i - 1, by omega⟩
  exact ⟨v[j], by simp [get1_succ, get0]⟩

theorem get0_isSome (v : Vector α n) {i : Nat} (h : i < n) : ∃ a, get0 v i = some a :=
  ⟨v[i], by simp [get0, h]⟩

theorem get1_some_range {v : Vector α n} {i : Nat} {a : α} (h : get1 v i = some a) : 1 ≤ i ∧ i ≤ n := by
  cases i with
  | zero => cases h
  | succ i =>
    have : i < n := by simpa [get0] using (List.getElem?_eq_some_iff.1 h).1
    omega

/-! ## Tables of records that may be undefined -/

theorem look_put_self (v : Vector (Option α) n) {i : Nat} (h : 1 ≤ i) (h' : i ≤ n) (a : Option α) :
    look (put v i a) i = a := by
  obtain ⟨b, hb⟩ := get1_isSome v h h'
  simp [look, put, get1_mod1_self, hb]

theorem look_put_ne (v : Vector (Option α) n) {i j : Nat} (h : i ≠ j) (a : Option α) :
    look (put v i a) j = look v j := by
  simp [look, put, get1_mod1_ne v h]

theorem look_modLook_self (v : Vector (Option α) n) (i : Nat) (f : α → α) :
    look (modLook v i f) i = (look v i).map f := by
  simp only [look, modLook, get1_mod1_self]
  cases get1 v i <;> rfl

theorem look_modLook_ne (v : Vector (Option α) n) {i j : Nat} (h : i ≠ j) (f : α → α) :
    look (modLook v i f) j = look v j := by
  simp [look, modLook, get1_mod1_ne v h]

theorem look_modLook (v : Vector (Option α) n) (i j : Nat) (f : α → α) :
    look (modLook v i f) j = if i = j then (look v j).map f else look v j := by
  split
  · next h => subst h; exact look_modLook_self v i f
  · next h => exact look_modLook_ne v h f

theorem look_some_range {v : Vector (Option α) n} {i : Nat} {a : α} (h : look v i = some a) : 1 ≤ i ∧ i ≤ n := by
  unfold look at h
  cases h' : get1 v i with
  | none => simp [h'] at h
  | some b => exact get1_some_range h'

/-! ## Identifiers and ordered lists -/

theorem mem_ids {n i : Nat} : i ∈ ids n ↔ 1 ≤ i ∧ i ≤ n := by
  simp only [ids, List.mem_map, List.mem_range]
  constructor
  · rintro ⟨a, h, rfl⟩; omega
  · intro h; exact ⟨i - 1, by omega, by omega⟩

theorem mem_insertBy {le : α → α → Bool} {a b : α} {l : List α} : b ∈ insertBy le a l ↔ b = a ∨ b ∈ l := by
  induction l with
  | nil => simp [insertBy]
  | cons c l ih =>
    unfold insertBy
    split
    · simp [ih]; tauto
    · simp

theorem length_insertBy (le : α → α → Bool) (a : α) (l : List α) : (insertBy le a l).length = l.length + 1 := by
  induction l with
  | nil => rfl
  | cons c l ih => unfold insertBy; split <;> simp [ih]

theorem insertBy_perm (le : α → α → Bool) (a : α) (l : List α) : (insertBy le a l).Perm (a :: l) := by
  induction l with
  | nil => exact List.Perm.refl _
  | cons c l ih =>
    unfold insertBy
    split
    · exact (ih.cons c).trans (List.Perm.swap a c l)
    · exact List.Perm.refl _

theorem foldl_insertBy_perm (le : α → α → Bool) (l acc : List α) :
    (l.foldl (fun t a => insertBy le a t) acc).Perm (l ++ acc) := by
  induction l generalizing acc with
  | nil => exact List.Perm.refl _
  | cons a l ih =>
    exact (ih _).trans ((List.Perm.append_left l (insertBy_perm le a acc)).trans List.perm_middle)

theorem sortBy_perm (le : α → α → Bool) (l : List α) : (sortBy le l).Perm l := by
  have h := foldl_insertBy_perm le l []
  rwa [List.append_nil] at h

theorem mem_sortBy {le : α → α → Bool} {a : α} {l : List α} : a ∈ sortBy le l ↔ a ∈ l := (sortBy_perm le l).mem_iff

end Sys2Proof.Machine
end

