-- ==== Sys2Proof/Laws/State.lean ====
section
/-! SUPPORT. One lemma per field of `State` for each update of one block, and the same for the updates of one record.
All are true by `rfl`, so that no later proof unfolds a record update. -/

namespace Sys2Proof.Machine

/-! ## onLds -/

@[simp] theorem onLds_lds (s : State) (f : Lds → Lds) : (s.onLds f).lds = f s.lds := rfl
@[simp] theorem onLds_lck (s : State) (f : Lds → Lds) : (s.onLds f).lck = s.lck := rfl
@[simp] theorem onLds_rtb (s : State) (f : Lds → Lds) : (s.onLds f).rtb = s.rtb := rfl
@[simp] theorem onLds_mvt (s : State) (f : Lds → Lds) : (s.onLds f).mvt = s.mvt := rfl
@[simp] theorem onLds_drg (s : State) (f : Lds → Lds) : (s.onLds f).drg = s.drg := rfl
@[simp] theorem onLds_tpc (s : State) (f : Lds → Lds) : (s.onLds f).tpc = s.tpc := rfl
@[simp] theorem onLds_itb (s : State) (f : Lds → Lds) : (s.onLds f).itb = s.itb := rfl
@[simp] theorem onLds_piu (s : State) (f : Lds → Lds) : (s.onLds f).piu = s.piu := rfl
@[simp] theorem onLds_crp (s : State) (f : Lds → Lds) : (s.onLds f).crp = s.crp := rfl
@[simp] theorem onLds_fli (s : State) (f : Lds → Lds) : (s.onLds f).fli = s.fli := rfl
@[simp] theorem onLds_pending (s : State) (f : Lds → Lds) : (s.onLds f).pending = s.pending := rfl

/-! ## onLck -/

@[simp] theorem onLck_lds (s : State) (f : Lck → Lck) : (s.onLck f).lds = s.lds := rfl
@[simp] theorem onLck_lck (s : State) (f : Lck → Lck) : (s.onLck f).lck = f s.lck := rfl
@[simp] theorem onLck_rtb (s : State) (f : Lck → Lck) : (s.onLck f).rtb = s.rtb := rfl
@[simp] theorem onLck_mvt (s : State) (f : Lck → Lck) : (s.onLck f).mvt = s.mvt := rfl
@[simp] theorem onLck_drg (s : State) (f : Lck → Lck) : (s.onLck f).drg = s.drg := rfl
@[simp] theorem onLck_tpc (s : State) (f : Lck → Lck) : (s.onLck f).tpc = s.tpc := rfl
@[simp] theorem onLck_itb (s : State) (f : Lck → Lck) : (s.onLck f).itb = s.itb := rfl
@[simp] theorem onLck_piu (s : State) (f : Lck → Lck) : (s.onLck f).piu = s.piu := rfl
@[simp] theorem onLck_crp (s : State) (f : Lck → Lck) : (s.onLck f).crp = s.crp := rfl
@[simp] theorem onLck_fli (s : State) (f : Lck → Lck) : (s.onLck f).fli = s.fli := rfl
@[simp] theorem onLck_pending (s : State) (f : Lck → Lck) : (s.onLck f).pending = s.pending := rfl

/-! ## onRtb -/

@[simp] theorem onRtb_lds (s : State) (f : Rtb → Rtb) : (s.onRtb f).lds = s.lds := rfl
@[simp] theorem onRtb_lck (s : State) (f : Rtb → Rtb) : (s.onRtb f).lck = s.lck := rfl
@[simp] theorem onRtb_rtb (s : State) (f : Rtb → Rtb) : (s.onRtb f).rtb = f s.rtb := rfl
@[simp] theorem onRtb_mvt (s : State) (f : Rtb → Rtb) : (s.onRtb f).mvt = s.mvt := rfl
@[simp] theorem onRtb_drg (s : State) (f : Rtb → Rtb) : (s.onRtb f).drg = s.drg := rfl
@[simp] theorem onRtb_tpc (s : State) (f : Rtb → Rtb) : (s.onRtb f).tpc = s.tpc := rfl
@[simp] theorem onRtb_itb (s : State) (f : Rtb → Rtb) : (s.onRtb f).itb = s.itb := rfl
@[simp] theorem onRtb_piu (s : State) (f : Rtb → Rtb) : (s.onRtb f).piu = s.piu := rfl
@[simp] theorem onRtb_crp (s : State) (f : Rtb → Rtb) : (s.onRtb f).crp = s.crp := rfl
@[simp] theorem onRtb_fli (s : State) (f : Rtb → Rtb) : (s.onRtb f).fli = s.fli := rfl
@[simp] theorem onRtb_pending (s : State) (f : Rtb → Rtb) : (s.onRtb f).pending = s.pending := rfl

/-! ## onMvt -/

@[simp] theorem onMvt_lds (s : State) (f : Mvt → Mvt) : (s.onMvt f).lds = s.lds := rfl
@[simp] theorem onMvt_lck (s : State) (f : Mvt → Mvt) : (s.onMvt f).lck = s.lck := rfl
@[simp] theorem onMvt_rtb (s : State) (f : Mvt → Mvt) : (s.onMvt f).rtb = s.rtb := rfl
@[simp] theorem onMvt_mvt (s : State) (f : Mvt → Mvt) : (s.onMvt f).mvt = f s.mvt := rfl
@[simp] theorem onMvt_drg (s : State) (f : Mvt → Mvt) : (s.onMvt f).drg = s.drg := rfl
@[simp] theorem onMvt_tpc (s : State) (f : Mvt → Mvt) : (s.onMvt f).tpc = s.tpc := rfl
@[simp] theorem onMvt_itb (s : State) (f : Mvt → Mvt) : (s.onMvt f).itb = s.itb := rfl
@[simp] theorem onMvt_piu (s : State) (f : Mvt → Mvt) : (s.onMvt f).piu = s.piu := rfl
@[simp] theorem onMvt_crp (s : State) (f : Mvt → Mvt) : (s.onMvt f).crp = s.crp := rfl
@[simp] theorem onMvt_fli (s : State) (f : Mvt → Mvt) : (s.onMvt f).fli = s.fli := rfl
@[simp] theorem onMvt_pending (s : State) (f : Mvt → Mvt) : (s.onMvt f).pending = s.pending := rfl

/-! ## onDrg -/

@[simp] theorem onDrg_lds (s : State) (f : Drg → Drg) : (s.onDrg f).lds = s.lds := rfl
@[simp] theorem onDrg_lck (s : State) (f : Drg → Drg) : (s.onDrg f).lck = s.lck := rfl
@[simp] theorem onDrg_rtb (s : State) (f : Drg → Drg) : (s.onDrg f).rtb = s.rtb := rfl
@[simp] theorem onDrg_mvt (s : State) (f : Drg → Drg) : (s.onDrg f).mvt = s.mvt := rfl
@[simp] theorem onDrg_drg (s : State) (f : Drg → Drg) : (s.onDrg f).drg = f s.drg := rfl
@[simp] theorem onDrg_tpc (s : State) (f : Drg → Drg) : (s.onDrg f).tpc = s.tpc := rfl
@[simp] theorem onDrg_itb (s : State) (f : Drg → Drg) : (s.onDrg f).itb = s.itb := rfl
@[simp] theorem onDrg_piu (s : State) (f : Drg → Drg) : (s.onDrg f).piu = s.piu := rfl
@[simp] theorem onDrg_crp (s : State) (f : Drg → Drg) : (s.onDrg f).crp = s.crp := rfl
@[simp] theorem onDrg_fli (s : State) (f : Drg → Drg) : (s.onDrg f).fli = s.fli := rfl
@[simp] theorem onDrg_pending (s : State) (f : Drg → Drg) : (s.onDrg f).pending = s.pending := rfl

/-! ## onTpc -/

@[simp] theorem onTpc_lds (s : State) (f : Tpc → Tpc) : (s.onTpc f).lds = s.lds := rfl
@[simp] theorem onTpc_lck (s : State) (f : Tpc → Tpc) : (s.onTpc f).lck = s.lck := rfl
@[simp] theorem onTpc_rtb (s : State) (f : Tpc → Tpc) : (s.onTpc f).rtb = s.rtb := rfl
@[simp] theorem onTpc_mvt (s : State) (f : Tpc → Tpc) : (s.onTpc f).mvt = s.mvt := rfl
@[simp] theorem onTpc_drg (s : State) (f : Tpc → Tpc) : (s.onTpc f).drg = s.drg := rfl
@[simp] theorem onTpc_tpc (s : State) (f : Tpc → Tpc) : (s.onTpc f).tpc = f s.tpc := rfl
@[simp] theorem onTpc_itb (s : State) (f : Tpc → Tpc) : (s.onTpc f).itb = s.itb := rfl
@[simp] theorem onTpc_piu (s : State) (f : Tpc → Tpc) : (s.onTpc f).piu = s.piu := rfl
@[simp] theorem onTpc_crp (s : State) (f : Tpc → Tpc) : (s.onTpc f).crp = s.crp := rfl
@[simp] theorem onTpc_fli (s : State) (f : Tpc → Tpc) : (s.onTpc f).fli = s.fli := rfl
@[simp] theorem onTpc_pending (s : State) (f : Tpc → Tpc) : (s.onTpc f).pending = s.pending := rfl

/-! ## onItb -/

@[simp] theorem onItb_lds (s : State) (f : Itb → Itb) : (s.onItb f).lds = s.lds := rfl
@[simp] theorem onItb_lck (s : State) (f : Itb → Itb) : (s.onItb f).lck = s.lck := rfl
@[simp] theorem onItb_rtb (s : State) (f : Itb → Itb) : (s.onItb f).rtb = s.rtb := rfl
@[simp] theorem onItb_mvt (s : State) (f : Itb → Itb) : (s.onItb f).mvt = s.mvt := rfl
@[simp] theorem onItb_drg (s : State) (f : Itb → Itb) : (s.onItb f).drg = s.drg := rfl
@[simp] theorem onItb_tpc (s : State) (f : Itb → Itb) : (s.onItb f).tpc = s.tpc := rfl
@[simp] theorem onItb_itb (s : State) (f : Itb → Itb) : (s.onItb f).itb = f s.itb := rfl
@[simp] theorem onItb_piu (s : State) (f : Itb → Itb) : (s.onItb f).piu = s.piu := rfl
@[simp] theorem onItb_crp (s : State) (f : Itb → Itb) : (s.onItb f).crp = s.crp := rfl
@[simp] theorem onItb_fli (s : State) (f : Itb → Itb) : (s.onItb f).fli = s.fli := rfl
@[simp] theorem onItb_pending (s : State) (f : Itb → Itb) : (s.onItb f).pending = s.pending := rfl

/-! ## onPiu -/

@[simp] theorem onPiu_lds (s : State) (f : Piu → Piu) : (s.onPiu f).lds = s.lds := rfl
@[simp] theorem onPiu_lck (s : State) (f : Piu → Piu) : (s.onPiu f).lck = s.lck := rfl
@[simp] theorem onPiu_rtb (s : State) (f : Piu → Piu) : (s.onPiu f).rtb = s.rtb := rfl
@[simp] theorem onPiu_mvt (s : State) (f : Piu → Piu) : (s.onPiu f).mvt = s.mvt := rfl
@[simp] theorem onPiu_drg (s : State) (f : Piu → Piu) : (s.onPiu f).drg = s.drg := rfl
@[simp] theorem onPiu_tpc (s : State) (f : Piu → Piu) : (s.onPiu f).tpc = s.tpc := rfl
@[simp] theorem onPiu_itb (s : State) (f : Piu → Piu) : (s.onPiu f).itb = s.itb := rfl
@[simp] theorem onPiu_piu (s : State) (f : Piu → Piu) : (s.onPiu f).piu = f s.piu := rfl
@[simp] theorem onPiu_crp (s : State) (f : Piu → Piu) : (s.onPiu f).crp = s.crp := rfl
@[simp] theorem onPiu_fli (s : State) (f : Piu → Piu) : (s.onPiu f).fli = s.fli := rfl
@[simp] theorem onPiu_pending (s : State) (f : Piu → Piu) : (s.onPiu f).pending = s.pending := rfl

/-! ## onCrp -/

@[simp] theorem onCrp_lds (s : State) (f : Crp → Crp) : (s.onCrp f).lds = s.lds := rfl
@[simp] theorem onCrp_lck (s : State) (f : Crp → Crp) : (s.onCrp f).lck = s.lck := rfl
@[simp] theorem onCrp_rtb (s : State) (f : Crp → Crp) : (s.onCrp f).rtb = s.rtb := rfl
@[simp] theorem onCrp_mvt (s : State) (f : Crp → Crp) : (s.onCrp f).mvt = s.mvt := rfl
@[simp] theorem onCrp_drg (s : State) (f : Crp → Crp) : (s.onCrp f).drg = s.drg := rfl
@[simp] theorem onCrp_tpc (s : State) (f : Crp → Crp) : (s.onCrp f).tpc = s.tpc := rfl
@[simp] theorem onCrp_itb (s : State) (f : Crp → Crp) : (s.onCrp f).itb = s.itb := rfl
@[simp] theorem onCrp_piu (s : State) (f : Crp → Crp) : (s.onCrp f).piu = s.piu := rfl
@[simp] theorem onCrp_crp (s : State) (f : Crp → Crp) : (s.onCrp f).crp = f s.crp := rfl
@[simp] theorem onCrp_fli (s : State) (f : Crp → Crp) : (s.onCrp f).fli = s.fli := rfl
@[simp] theorem onCrp_pending (s : State) (f : Crp → Crp) : (s.onCrp f).pending = s.pending := rfl

/-! ## onFli -/

@[simp] theorem onFli_lds (s : State) (f : Fli → Fli) : (s.onFli f).lds = s.lds := rfl
@[simp] theorem onFli_lck (s : State) (f : Fli → Fli) : (s.onFli f).lck = s.lck := rfl
@[simp] theorem onFli_rtb (s : State) (f : Fli → Fli) : (s.onFli f).rtb = s.rtb := rfl
@[simp] theorem onFli_mvt (s : State) (f : Fli → Fli) : (s.onFli f).mvt = s.mvt := rfl
@[simp] theorem onFli_drg (s : State) (f : Fli → Fli) : (s.onFli f).drg = s.drg := rfl
@[simp] theorem onFli_tpc (s : State) (f : Fli → Fli) : (s.onFli f).tpc = s.tpc := rfl
@[simp] theorem onFli_itb (s : State) (f : Fli → Fli) : (s.onFli f).itb = s.itb := rfl
@[simp] theorem onFli_piu (s : State) (f : Fli → Fli) : (s.onFli f).piu = s.piu := rfl
@[simp] theorem onFli_crp (s : State) (f : Fli → Fli) : (s.onFli f).crp = s.crp := rfl
@[simp] theorem onFli_fli (s : State) (f : Fli → Fli) : (s.onFli f).fli = f s.fli := rfl
@[simp] theorem onFli_pending (s : State) (f : Fli → Fli) : (s.onFli f).pending = s.pending := rfl

/-! ## modRun -/

@[simp] theorem modRun_lds (s : State) (i : Nat) (f : Run → Run) : (s.modRun i f).lds = s.lds := rfl
@[simp] theorem modRun_lck (s : State) (i : Nat) (f : Run → Run) : (s.modRun i f).lck = s.lck := rfl
@[simp] theorem modRun_mvt (s : State) (i : Nat) (f : Run → Run) : (s.modRun i f).mvt = s.mvt := rfl
@[simp] theorem modRun_drg (s : State) (i : Nat) (f : Run → Run) : (s.modRun i f).drg = s.drg := rfl
@[simp] theorem modRun_tpc (s : State) (i : Nat) (f : Run → Run) : (s.modRun i f).tpc = s.tpc := rfl
@[simp] theorem modRun_itb (s : State) (i : Nat) (f : Run → Run) : (s.modRun i f).itb = s.itb := rfl
@[simp] theorem modRun_piu (s : State) (i : Nat) (f : Run → Run) : (s.modRun i f).piu = s.piu := rfl
@[simp] theorem modRun_crp (s : State) (i : Nat) (f : Run → Run) : (s.modRun i f).crp = s.crp := rfl
@[simp] theorem modRun_fli (s : State) (i : Nat) (f : Run → Run) : (s.modRun i f).fli = s.fli := rfl
@[simp] theorem modRun_pending (s : State) (i : Nat) (f : Run → Run) : (s.modRun i f).pending = s.pending := rfl

/-! ## modReg -/

@[simp] theorem modReg_lds (s : State) (i : Nat) (f : RegRec → RegRec) : (s.modReg i f).lds = s.lds := rfl
@[simp] theorem modReg_lck (s : State) (i : Nat) (f : RegRec → RegRec) : (s.modReg i f).lck = s.lck := rfl
@[simp] theorem modReg_rtb (s : State) (i : Nat) (f : RegRec → RegRec) : (s.modReg i f).rtb = s.rtb := rfl
@[simp] theorem modReg_mvt (s : State) (i : Nat) (f : RegRec → RegRec) : (s.modReg i f).mvt = s.mvt := rfl
@[simp] theorem modReg_tpc (s : State) (i : Nat) (f : RegRec → RegRec) : (s.modReg i f).tpc = s.tpc := rfl
@[simp] theorem modReg_itb (s : State) (i : Nat) (f : RegRec → RegRec) : (s.modReg i f).itb = s.itb := rfl
@[simp] theorem modReg_piu (s : State) (i : Nat) (f : RegRec → RegRec) : (s.modReg i f).piu = s.piu := rfl
@[simp] theorem modReg_crp (s : State) (i : Nat) (f : RegRec → RegRec) : (s.modReg i f).crp = s.crp := rfl
@[simp] theorem modReg_fli (s : State) (i : Nat) (f : RegRec → RegRec) : (s.modReg i f).fli = s.fli := rfl
@[simp] theorem modReg_pending (s : State) (i : Nat) (f : RegRec → RegRec) : (s.modReg i f).pending = s.pending := rfl

/-! ## modSeg -/

@[simp] theorem modSeg_lds (s : State) (i : Nat) (f : SegLive → SegLive) : (s.modSeg i f).lds = s.lds := rfl
@[simp] theorem modSeg_lck (s : State) (i : Nat) (f : SegLive → SegLive) : (s.modSeg i f).lck = s.lck := rfl
@[simp] theorem modSeg_rtb (s : State) (i : Nat) (f : SegLive → SegLive) : (s.modSeg i f).rtb = s.rtb := rfl
@[simp] theorem modSeg_drg (s : State) (i : Nat) (f : SegLive → SegLive) : (s.modSeg i f).drg = s.drg := rfl
@[simp] theorem modSeg_tpc (s : State) (i : Nat) (f : SegLive → SegLive) : (s.modSeg i f).tpc = s.tpc := rfl
@[simp] theorem modSeg_itb (s : State) (i : Nat) (f : SegLive → SegLive) : (s.modSeg i f).itb = s.itb := rfl
@[simp] theorem modSeg_piu (s : State) (i : Nat) (f : SegLive → SegLive) : (s.modSeg i f).piu = s.piu := rfl
@[simp] theorem modSeg_crp (s : State) (i : Nat) (f : SegLive → SegLive) : (s.modSeg i f).crp = s.crp := rfl
@[simp] theorem modSeg_fli (s : State) (i : Nat) (f : SegLive → SegLive) : (s.modSeg i f).fli = s.fli := rfl
@[simp] theorem modSeg_pending (s : State) (i : Nat) (f : SegLive → SegLive) : (s.modSeg i f).pending = s.pending := rfl

/-! ## modTp -/

@[simp] theorem modTp_lds (s : State) (i : Nat) (f : TpLive → TpLive) : (s.modTp i f).lds = s.lds := rfl
@[simp] theorem modTp_lck (s : State) (i : Nat) (f : TpLive → TpLive) : (s.modTp i f).lck = s.lck := rfl
@[simp] theorem modTp_rtb (s : State) (i : Nat) (f : TpLive → TpLive) : (s.modTp i f).rtb = s.rtb := rfl
@[simp] theorem modTp_drg (s : State) (i : Nat) (f : TpLive → TpLive) : (s.modTp i f).drg = s.drg := rfl
@[simp] theorem modTp_tpc (s : State) (i : Nat) (f : TpLive → TpLive) : (s.modTp i f).tpc = s.tpc := rfl
@[simp] theorem modTp_itb (s : State) (i : Nat) (f : TpLive → TpLive) : (s.modTp i f).itb = s.itb := rfl
@[simp] theorem modTp_piu (s : State) (i : Nat) (f : TpLive → TpLive) : (s.modTp i f).piu = s.piu := rfl
@[simp] theorem modTp_crp (s : State) (i : Nat) (f : TpLive → TpLive) : (s.modTp i f).crp = s.crp := rfl
@[simp] theorem modTp_fli (s : State) (i : Nat) (f : TpLive → TpLive) : (s.modTp i f).fli = s.fli := rfl
@[simp] theorem modTp_pending (s : State) (i : Nat) (f : TpLive → TpLive) : (s.modTp i f).pending = s.pending := rfl

/-! ## modMergeList -/

@[simp] theorem modMergeList_lds (s : State) (i : Nat) (f : List Nat → List Nat) : (s.modMergeList i f).lds = s.lds := rfl
@[simp] theorem modMergeList_lck (s : State) (i : Nat) (f : List Nat → List Nat) : (s.modMergeList i f).lck = s.lck := rfl
@[simp] theorem modMergeList_rtb (s : State) (i : Nat) (f : List Nat → List Nat) : (s.modMergeList i f).rtb = s.rtb := rfl
@[simp] theorem modMergeList_drg (s : State) (i : Nat) (f : List Nat → List Nat) : (s.modMergeList i f).drg = s.drg := rfl
@[simp] theorem modMergeList_tpc (s : State) (i : Nat) (f : List Nat → List Nat) : (s.modMergeList i f).tpc = s.tpc := rfl
@[simp] theorem modMergeList_itb (s : State) (i : Nat) (f : List Nat → List Nat) : (s.modMergeList i f).itb = s.itb := rfl
@[simp] theorem modMergeList_piu (s : State) (i : Nat) (f : List Nat → List Nat) : (s.modMergeList i f).piu = s.piu := rfl
@[simp] theorem modMergeList_crp (s : State) (i : Nat) (f : List Nat → List Nat) : (s.modMergeList i f).crp = s.crp := rfl
@[simp] theorem modMergeList_fli (s : State) (i : Nat) (f : List Nat → List Nat) : (s.modMergeList i f).fli = s.fli := rfl
@[simp] theorem modMergeList_pending (s : State) (i : Nat) (f : List Nat → List Nat) : (s.modMergeList i f).pending = s.pending := rfl

/-! ## modArbiter -/

@[simp] theorem modArbiter_lds (s : State) (i : Nat) (f : Arbiter → Arbiter) : (s.modArbiter i f).lds = s.lds := rfl
@[simp] theorem modArbiter_lck (s : State) (i : Nat) (f : Arbiter → Arbiter) : (s.modArbiter i f).lck = s.lck := rfl
@[simp] theorem modArbiter_rtb (s : State) (i : Nat) (f : Arbiter → Arbiter) : (s.modArbiter i f).rtb = s.rtb := rfl
@[simp] theorem modArbiter_mvt (s : State) (i : Nat) (f : Arbiter → Arbiter) : (s.modArbiter i f).mvt = s.mvt := rfl
@[simp] theorem modArbiter_tpc (s : State) (i : Nat) (f : Arbiter → Arbiter) : (s.modArbiter i f).tpc = s.tpc := rfl
@[simp] theorem modArbiter_itb (s : State) (i : Nat) (f : Arbiter → Arbiter) : (s.modArbiter i f).itb = s.itb := rfl
@[simp] theorem modArbiter_piu (s : State) (i : Nat) (f : Arbiter → Arbiter) : (s.modArbiter i f).piu = s.piu := rfl
@[simp] theorem modArbiter_crp (s : State) (i : Nat) (f : Arbiter → Arbiter) : (s.modArbiter i f).crp = s.crp := rfl
@[simp] theorem modArbiter_fli (s : State) (i : Nat) (f : Arbiter → Arbiter) : (s.modArbiter i f).fli = s.fli := rfl
@[simp] theorem modArbiter_pending (s : State) (i : Nat) (f : Arbiter → Arbiter) : (s.modArbiter i f).pending = s.pending := rfl

/-! ## modSub -/

@[simp] theorem modSub_lds (s : State) (i : Nat) (f : SubLive → SubLive) : (s.modSub i f).lds = s.lds := rfl
@[simp] theorem modSub_lck (s : State) (i : Nat) (f : SubLive → SubLive) : (s.modSub i f).lck = s.lck := rfl
@[simp] theorem modSub_rtb (s : State) (i : Nat) (f : SubLive → SubLive) : (s.modSub i f).rtb = s.rtb := rfl
@[simp] theorem modSub_mvt (s : State) (i : Nat) (f : SubLive → SubLive) : (s.modSub i f).mvt = s.mvt := rfl
@[simp] theorem modSub_drg (s : State) (i : Nat) (f : SubLive → SubLive) : (s.modSub i f).drg = s.drg := rfl
@[simp] theorem modSub_itb (s : State) (i : Nat) (f : SubLive → SubLive) : (s.modSub i f).itb = s.itb := rfl
@[simp] theorem modSub_piu (s : State) (i : Nat) (f : SubLive → SubLive) : (s.modSub i f).piu = s.piu := rfl
@[simp] theorem modSub_crp (s : State) (i : Nat) (f : SubLive → SubLive) : (s.modSub i f).crp = s.crp := rfl
@[simp] theorem modSub_fli (s : State) (i : Nat) (f : SubLive → SubLive) : (s.modSub i f).fli = s.fli := rfl
@[simp] theorem modSub_pending (s : State) (i : Nat) (f : SubLive → SubLive) : (s.modSub i f).pending = s.pending := rfl

/-! ## modSec -/

@[simp] theorem modSec_lds (s : State) (i : Nat) (f : SecLive → SecLive) : (s.modSec i f).lds = s.lds := rfl
@[simp] theorem modSec_lck (s : State) (i : Nat) (f : SecLive → SecLive) : (s.modSec i f).lck = s.lck := rfl
@[simp] theorem modSec_rtb (s : State) (i : Nat) (f : SecLive → SecLive) : (s.modSec i f).rtb = s.rtb := rfl
@[simp] theorem modSec_mvt (s : State) (i : Nat) (f : SecLive → SecLive) : (s.modSec i f).mvt = s.mvt := rfl
@[simp] theorem modSec_drg (s : State) (i : Nat) (f : SecLive → SecLive) : (s.modSec i f).drg = s.drg := rfl
@[simp] theorem modSec_itb (s : State) (i : Nat) (f : SecLive → SecLive) : (s.modSec i f).itb = s.itb := rfl
@[simp] theorem modSec_piu (s : State) (i : Nat) (f : SecLive → SecLive) : (s.modSec i f).piu = s.piu := rfl
@[simp] theorem modSec_crp (s : State) (i : Nat) (f : SecLive → SecLive) : (s.modSec i f).crp = s.crp := rfl
@[simp] theorem modSec_fli (s : State) (i : Nat) (f : SecLive → SecLive) : (s.modSec i f).fli = s.fli := rfl
@[simp] theorem modSec_pending (s : State) (i : Nat) (f : SecLive → SecLive) : (s.modSec i f).pending = s.pending := rfl

/-! ## putClaim -/

@[simp] theorem putClaim_lds (s : State) (i : Nat) (c : Option Claim) : (s.putClaim i c).lds = s.lds := rfl
@[simp] theorem putClaim_lck (s : State) (i : Nat) (c : Option Claim) : (s.putClaim i c).lck = s.lck := rfl
@[simp] theorem putClaim_rtb (s : State) (i : Nat) (c : Option Claim) : (s.putClaim i c).rtb = s.rtb := rfl
@[simp] theorem putClaim_mvt (s : State) (i : Nat) (c : Option Claim) : (s.putClaim i c).mvt = s.mvt := rfl
@[simp] theorem putClaim_drg (s : State) (i : Nat) (c : Option Claim) : (s.putClaim i c).drg = s.drg := rfl
@[simp] theorem putClaim_itb (s : State) (i : Nat) (c : Option Claim) : (s.putClaim i c).itb = s.itb := rfl
@[simp] theorem putClaim_piu (s : State) (i : Nat) (c : Option Claim) : (s.putClaim i c).piu = s.piu := rfl
@[simp] theorem putClaim_crp (s : State) (i : Nat) (c : Option Claim) : (s.putClaim i c).crp = s.crp := rfl
@[simp] theorem putClaim_fli (s : State) (i : Nat) (c : Option Claim) : (s.putClaim i c).fli = s.fli := rfl
@[simp] theorem putClaim_pending (s : State) (i : Nat) (c : Option Claim) : (s.putClaim i c).pending = s.pending := rfl

/-! ## modInc -/

@[simp] theorem modInc_lds (s : State) (i : Nat) (f : Incident → Incident) : (s.modInc i f).lds = s.lds := rfl
@[simp] theorem modInc_lck (s : State) (i : Nat) (f : Incident → Incident) : (s.modInc i f).lck = s.lck := rfl
@[simp] theorem modInc_rtb (s : State) (i : Nat) (f : Incident → Incident) : (s.modInc i f).rtb = s.rtb := rfl
@[simp] theorem modInc_mvt (s : State) (i : Nat) (f : Incident → Incident) : (s.modInc i f).mvt = s.mvt := rfl
@[simp] theorem modInc_drg (s : State) (i : Nat) (f : Incident → Incident) : (s.modInc i f).drg = s.drg := rfl
@[simp] theorem modInc_tpc (s : State) (i : Nat) (f : Incident → Incident) : (s.modInc i f).tpc = s.tpc := rfl
@[simp] theorem modInc_piu (s : State) (i : Nat) (f : Incident → Incident) : (s.modInc i f).piu = s.piu := rfl
@[simp] theorem modInc_crp (s : State) (i : Nat) (f : Incident → Incident) : (s.modInc i f).crp = s.crp := rfl
@[simp] theorem modInc_fli (s : State) (i : Nat) (f : Incident → Incident) : (s.modInc i f).fli = s.fli := rfl
@[simp] theorem modInc_pending (s : State) (i : Nat) (f : Incident → Incident) : (s.modInc i f).pending = s.pending := rfl

/-! ## modAnn -/

@[simp] theorem modAnn_lds (s : State) (i : Nat) (f : Announcement → Announcement) : (s.modAnn i f).lds = s.lds := rfl
@[simp] theorem modAnn_lck (s : State) (i : Nat) (f : Announcement → Announcement) : (s.modAnn i f).lck = s.lck := rfl
@[simp] theorem modAnn_rtb (s : State) (i : Nat) (f : Announcement → Announcement) : (s.modAnn i f).rtb = s.rtb := rfl
@[simp] theorem modAnn_mvt (s : State) (i : Nat) (f : Announcement → Announcement) : (s.modAnn i f).mvt = s.mvt := rfl
@[simp] theorem modAnn_drg (s : State) (i : Nat) (f : Announcement → Announcement) : (s.modAnn i f).drg = s.drg := rfl
@[simp] theorem modAnn_tpc (s : State) (i : Nat) (f : Announcement → Announcement) : (s.modAnn i f).tpc = s.tpc := rfl
@[simp] theorem modAnn_itb (s : State) (i : Nat) (f : Announcement → Announcement) : (s.modAnn i f).itb = s.itb := rfl
@[simp] theorem modAnn_crp (s : State) (i : Nat) (f : Announcement → Announcement) : (s.modAnn i f).crp = s.crp := rfl
@[simp] theorem modAnn_fli (s : State) (i : Nat) (f : Announcement → Announcement) : (s.modAnn i f).fli = s.fli := rfl
@[simp] theorem modAnn_pending (s : State) (i : Nat) (f : Announcement → Announcement) : (s.modAnn i f).pending = s.pending := rfl

/-! ## modChan -/

@[simp] theorem modChan_lds (s : State) (c : Nat) (f : Channel → Channel) : (s.modChan c f).lds = s.lds := rfl
@[simp] theorem modChan_lck (s : State) (c : Nat) (f : Channel → Channel) : (s.modChan c f).lck = s.lck := rfl
@[simp] theorem modChan_rtb (s : State) (c : Nat) (f : Channel → Channel) : (s.modChan c f).rtb = s.rtb := rfl
@[simp] theorem modChan_mvt (s : State) (c : Nat) (f : Channel → Channel) : (s.modChan c f).mvt = s.mvt := rfl
@[simp] theorem modChan_drg (s : State) (c : Nat) (f : Channel → Channel) : (s.modChan c f).drg = s.drg := rfl
@[simp] theorem modChan_tpc (s : State) (c : Nat) (f : Channel → Channel) : (s.modChan c f).tpc = s.tpc := rfl
@[simp] theorem modChan_itb (s : State) (c : Nat) (f : Channel → Channel) : (s.modChan c f).itb = s.itb := rfl
@[simp] theorem modChan_crp (s : State) (c : Nat) (f : Channel → Channel) : (s.modChan c f).crp = s.crp := rfl
@[simp] theorem modChan_fli (s : State) (c : Nat) (f : Channel → Channel) : (s.modChan c f).fli = s.fli := rfl
@[simp] theorem modChan_pending (s : State) (c : Nat) (f : Channel → Channel) : (s.modChan c f).pending = s.pending := rfl

/-! ## markBoard -/

@[simp] theorem markBoard_lds (s : State) (p : Nat) : (s.markBoard p).lds = s.lds := rfl
@[simp] theorem markBoard_lck (s : State) (p : Nat) : (s.markBoard p).lck = s.lck := rfl
@[simp] theorem markBoard_rtb (s : State) (p : Nat) : (s.markBoard p).rtb = s.rtb := rfl
@[simp] theorem markBoard_mvt (s : State) (p : Nat) : (s.markBoard p).mvt = s.mvt := rfl
@[simp] theorem markBoard_drg (s : State) (p : Nat) : (s.markBoard p).drg = s.drg := rfl
@[simp] theorem markBoard_tpc (s : State) (p : Nat) : (s.markBoard p).tpc = s.tpc := rfl
@[simp] theorem markBoard_itb (s : State) (p : Nat) : (s.markBoard p).itb = s.itb := rfl
@[simp] theorem markBoard_crp (s : State) (p : Nat) : (s.markBoard p).crp = s.crp := rfl
@[simp] theorem markBoard_fli (s : State) (p : Nat) : (s.markBoard p).fli = s.fli := rfl
@[simp] theorem markBoard_pending (s : State) (p : Nat) : (s.markBoard p).pending = s.pending := rfl

/-! ## order -/

@[simp] theorem order_lds (s : State) (o : Order) : (s.order o).lds = s.lds := rfl
@[simp] theorem order_lck (s : State) (o : Order) : (s.order o).lck = s.lck := rfl
@[simp] theorem order_rtb (s : State) (o : Order) : (s.order o).rtb = s.rtb := rfl
@[simp] theorem order_mvt (s : State) (o : Order) : (s.order o).mvt = s.mvt := rfl
@[simp] theorem order_drg (s : State) (o : Order) : (s.order o).drg = s.drg := rfl
@[simp] theorem order_tpc (s : State) (o : Order) : (s.order o).tpc = s.tpc := rfl
@[simp] theorem order_itb (s : State) (o : Order) : (s.order o).itb = s.itb := rfl
@[simp] theorem order_piu (s : State) (o : Order) : (s.order o).piu = s.piu := rfl
@[simp] theorem order_crp (s : State) (o : Order) : (s.order o).crp = s.crp := rfl
@[simp] theorem order_pending (s : State) (o : Order) : (s.order o).pending = s.pending := rfl

/-! ## countUnmatched -/

@[simp] theorem countUnmatched_lds (s : State) : (s.countUnmatched).lds = s.lds := rfl
@[simp] theorem countUnmatched_lck (s : State) : (s.countUnmatched).lck = s.lck := rfl
@[simp] theorem countUnmatched_rtb (s : State) : (s.countUnmatched).rtb = s.rtb := rfl
@[simp] theorem countUnmatched_mvt (s : State) : (s.countUnmatched).mvt = s.mvt := rfl
@[simp] theorem countUnmatched_drg (s : State) : (s.countUnmatched).drg = s.drg := rfl
@[simp] theorem countUnmatched_tpc (s : State) : (s.countUnmatched).tpc = s.tpc := rfl
@[simp] theorem countUnmatched_itb (s : State) : (s.countUnmatched).itb = s.itb := rfl
@[simp] theorem countUnmatched_piu (s : State) : (s.countUnmatched).piu = s.piu := rfl
@[simp] theorem countUnmatched_crp (s : State) : (s.countUnmatched).crp = s.crp := rfl
@[simp] theorem countUnmatched_pending (s : State) : (s.countUnmatched).pending = s.pending := rfl

/-! ## received -/

@[simp] theorem received_lds (s : State) (n : Nat) : (s.received n).lds = s.lds := rfl
@[simp] theorem received_lck (s : State) (n : Nat) : (s.received n).lck = s.lck := rfl
@[simp] theorem received_rtb (s : State) (n : Nat) : (s.received n).rtb = s.rtb := rfl
@[simp] theorem received_mvt (s : State) (n : Nat) : (s.received n).mvt = s.mvt := rfl
@[simp] theorem received_drg (s : State) (n : Nat) : (s.received n).drg = s.drg := rfl
@[simp] theorem received_tpc (s : State) (n : Nat) : (s.received n).tpc = s.tpc := rfl
@[simp] theorem received_itb (s : State) (n : Nat) : (s.received n).itb = s.itb := rfl
@[simp] theorem received_piu (s : State) (n : Nat) : (s.received n).piu = s.piu := rfl
@[simp] theorem received_crp (s : State) (n : Nat) : (s.received n).crp = s.crp := rfl
@[simp] theorem received_pending (s : State) (n : Nat) : (s.received n).pending = s.pending := rfl

end Sys2Proof.Machine
end

