-- ==== Sys2Proof/Laws/Kept.lean ====
section
/-! SUPPORT. What the blocks' work inside an event leaves alone: the line description, the clock, the waiting commands,
the port but for the pending notices, the receiver, the bad-frame counter and the frame on the line. Each operation has
one lemma; an operation that changes one of these has a lemma that says which. -/

namespace Sys2Proof.Machine

/-- A state with everything reset but the parts that the blocks' work leaves alone. -/
def State.kept (s : State) : State :=
  { State.reset with
    lds := s.lds
    lck := s.lck
    crp := { s.crp with notices := Crp.reset.notices }
    fli := { Fli.reset with
      rx := s.fli.rx, badFrames := s.fli.badFrames, sending := s.fli.sending, rotation := s.fli.rotation }
    pending := s.pending }

/-! ## The named updates -/

@[simp] theorem onRtb_kept (s : State) (f : Rtb → Rtb) : (s.onRtb f).kept = s.kept := rfl
@[simp] theorem onMvt_kept (s : State) (f : Mvt → Mvt) : (s.onMvt f).kept = s.kept := rfl
@[simp] theorem onDrg_kept (s : State) (f : Drg → Drg) : (s.onDrg f).kept = s.kept := rfl
@[simp] theorem onTpc_kept (s : State) (f : Tpc → Tpc) : (s.onTpc f).kept = s.kept := rfl
@[simp] theorem onItb_kept (s : State) (f : Itb → Itb) : (s.onItb f).kept = s.kept := rfl
@[simp] theorem onPiu_kept (s : State) (f : Piu → Piu) : (s.onPiu f).kept = s.kept := rfl
@[simp] theorem modRun_kept (s : State) (i : Nat) (f : Run → Run) : (s.modRun i f).kept = s.kept := rfl
@[simp] theorem modReg_kept (s : State) (i : Nat) (f : RegRec → RegRec) : (s.modReg i f).kept = s.kept := rfl
@[simp] theorem modSeg_kept (s : State) (i : Nat) (f : SegLive → SegLive) : (s.modSeg i f).kept = s.kept := rfl
@[simp] theorem modTp_kept (s : State) (i : Nat) (f : TpLive → TpLive) : (s.modTp i f).kept = s.kept := rfl
@[simp] theorem modMergeList_kept (s : State) (i : Nat) (f : List Nat → List Nat) :
    (s.modMergeList i f).kept = s.kept := rfl
@[simp] theorem modArbiter_kept (s : State) (i : Nat) (f : Arbiter → Arbiter) : (s.modArbiter i f).kept = s.kept := rfl
@[simp] theorem modSub_kept (s : State) (i : Nat) (f : SubLive → SubLive) : (s.modSub i f).kept = s.kept := rfl
@[simp] theorem modSec_kept (s : State) (i : Nat) (f : SecLive → SecLive) : (s.modSec i f).kept = s.kept := rfl
@[simp] theorem putClaim_kept (s : State) (i : Nat) (c : Option Claim) : (s.putClaim i c).kept = s.kept := rfl
@[simp] theorem modInc_kept (s : State) (i : Nat) (f : Incident → Incident) : (s.modInc i f).kept = s.kept := rfl
@[simp] theorem modAnn_kept (s : State) (i : Nat) (f : Announcement → Announcement) :
    (s.modAnn i f).kept = s.kept := rfl
@[simp] theorem modChan_kept (s : State) (i : Nat) (f : Channel → Channel) : (s.modChan i f).kept = s.kept := rfl
@[simp] theorem markBoard_kept (s : State) (p : Nat) : (s.markBoard p).kept = s.kept := rfl
@[simp] theorem markAllBoards_kept (s : State) : s.markAllBoards.kept = s.kept := rfl
@[simp] theorem countUnmatched_kept (s : State) : s.countUnmatched.kept = s.kept := rfl

@[simp] theorem order_kept (s : State) (o : Order) : (s.order o).kept = s.kept := by
  cases o <;> rfl

@[simp] theorem modIncOf_kept (s : State) (h : Nat) (f : Incident → Incident) : (s.modIncOf h f).kept = s.kept := by
  unfold State.modIncOf; split <;> simp

/-- A fold keeps what its step keeps. -/
@[simp] theorem foldl_kept {α : Type} (f : State → α → State) (h : ∀ t a, (f t a).kept = t.kept) (l : List α)
    (s : State) : (l.foldl f s).kept = s.kept := by
  induction l generalizing s with
  | nil => rfl
  | cons a l ih => simp [ih, h]

@[simp] theorem postTo_kept (s : State) (n : Notice) (c : Nat) : (s.postTo n c).kept = s.kept := by
  unfold State.postTo; split <;> rfl

@[simp] theorem postWhere_kept (s : State) (n : Notice) (p : Client → Bool) : (s.postWhere n p).kept = s.kept := by
  unfold State.postWhere
  exact foldl_kept _ (fun t a => by split <;> simp) _ _

@[simp] theorem postDesk_kept (s : State) (d h : Nat) : (s.postDesk d h).kept = s.kept := by simp [State.postDesk]

@[simp] theorem postLineEvent_kept (s : State) (e : LineEvent) : (s.postLineEvent e).kept = s.kept := by
  simp [State.postLineEvent]

@[simp] theorem ite_kept (p : Prop) [Decidable p] (a b : State) :
    (if p then a else b).kept = if p then a.kept else b.kept := by split <;> rfl

@[simp] theorem markRun_kept (s : State) (i : Nat) (r : Run) : (s.markRun i r).kept = s.kept := by
  simp [State.markRun]

@[simp] theorem reply_kept (s : State) (c : AnswerCode) : (s.reply c).2.kept = s.kept := rfl
@[simp] theorem replyHandle_kept (s : State) (c : AnswerCode) (h : Nat) : (s.replyHandle c h).2.kept = s.kept := rfl
@[simp] theorem answer_kept (s : State) (b : List Byte) : (s.answer b).2.kept = s.kept := rfl

@[simp] theorem withRun_kept (s : State) (r : Req) (f : Nat → Run → Reply × State)
    (h : ∀ i x, (f i x).2.kept = s.kept) : (s.withRun r f).2.kept = s.kept := by
  simp only [State.withRun]
  (repeat' split) <;> simp [h]

@[simp] theorem withInc_kept (s : State) (r : Req) (f : Nat → Incident → Reply × State)
    (h : ∀ i x, (f i x).2.kept = s.kept) : (s.withInc r f).2.kept = s.kept := by
  simp only [State.withInc]
  (repeat' split) <;> simp [h]

@[simp] theorem withAnn_kept (s : State) (r : Req) (f : Nat → Announcement → Reply × State)
    (h : ∀ i x, (f i x).2.kept = s.kept) : (s.withAnn r f).2.kept = s.kept := by
  simp only [State.withAnn]
  (repeat' split) <;> simp [h]

@[simp] theorem withId_kept (s : State) (r : Req) (n : Nat) (k : Nat → Bool) (f : Nat → Reply × State)
    (h : ∀ i, (f i).2.kept = s.kept) : (s.withId r n k f).2.kept = s.kept := by
  simp only [State.withId]
  (repeat' split) <;> simp [h]

/-! ## Announce -/

@[simp] theorem modAnnOf_kept (s : State) (h : Nat) (f : Announcement → Announcement) :
    (State.modAnnOf s h f).kept = s.kept := by
  simp only [State.modAnnOf]
  split <;> simp

@[simp] theorem enqueue_kept (s : State) (h c due : Nat) :
    (State.enqueue s h c due).kept = s.kept := by
  simp [State.enqueue]

@[simp] theorem sendCut_kept (s : State) (c token : Nat) :
    (State.sendCut s c token).kept = s.kept := rfl

@[simp] theorem play_kept (s : State) (c h : Nat) (zones : ZoneSet) :
    (State.play s c h zones).kept = s.kept := by
  simp [State.play]

@[simp] theorem clearAutoDelay_kept (s : State) (h : Nat) :
    (State.clearAutoDelay s h).kept = s.kept := by
  simp only [State.clearAutoDelay]
  (repeat' split) <;> simp

@[simp] theorem notifyEnded_kept (s : State) (owner : Owner) (h : Nat) (why : EndReason) :
    (State.notifyEnded s owner h why).kept = s.kept := by
  simp only [State.notifyEnded]
  split <;> simp

@[simp] theorem retireAnn_kept (s : State) (slot : Nat) :
    (State.retireAnn s slot).kept = s.kept := rfl

@[simp] theorem unlinkAnn_kept (s : State) (inc : Option Nat) (h : Nat) :
    (State.unlinkAnn s inc h).kept = s.kept := by
  simp only [State.unlinkAnn]
  split <;> simp

@[simp] theorem endAnn_kept (s : State) (slot : Nat) (why : EndReason) :
    (State.endAnn s slot why).kept = s.kept := by
  simp only [State.endAnn]
  split <;> simp

@[simp] theorem occurrenceDone_kept (s : State) (slot : Nat) :
    (State.occurrenceDone s slot).kept = s.kept := by
  simp only [State.occurrenceDone]
  split <;> simp

@[simp] theorem consume_kept (s : State) (c h : Nat) :
    (State.consume s c h).kept = s.kept := by
  simp only [State.consume]
  split <;> simp

@[simp] theorem redirect_kept (s : State) (c h : Nat) :
    (State.redirect s c h).kept = s.kept := by
  simp [State.redirect]

@[simp] theorem fullWindow_kept (s : State) (c h : Nat) (fromStack : Bool) :
    (State.fullWindow s c h fromStack).1.kept = s.kept := by
  simp only [State.fullWindow]
  (repeat' split) <;> simp

@[simp] theorem lookEmpty_kept (s : State) (c : Nat) :
    (State.lookEmpty s c).1.kept = s.kept := by
  simp only [State.lookEmpty]
  (repeat' split) <;> simp

@[simp] theorem preempt_kept (s : State) (c h old : Nat) (zones : ZoneSet) :
    (State.preempt s c h old zones).kept = s.kept := by
  simp [State.preempt]

@[simp] theorem lookBusy_kept (s : State) (c old : Nat) :
    (State.lookBusy s c old).1.kept = s.kept := by
  simp only [State.lookBusy]
  (repeat' split) <;> simp

@[simp] theorem lookChannel_kept (s : State) (c : Nat) :
    (State.lookChannel s c).1.kept = s.kept := by
  simp only [State.lookChannel]
  split <;> simp

@[simp] theorem serveLoop_kept (c : Nat) (n_ : Nat) (s : State) (m_ : Bool) :
    (State.serveLoop c n_ s m_).1.kept = s.kept := by
  induction n_ generalizing s m_ with
  | zero => rfl
  | succ n ih =>
    have h := lookChannel_kept s c
    simp only [State.serveLoop]
    split
    all_goals
      next heq => rw [heq] at h; simpa [ih] using h

@[simp] theorem serveOne_kept (s : State) (c : Nat) :
    (State.serveOne s c).1.kept = s.kept := by
  simp only [State.serveOne]
  split <;> simp

@[simp] theorem serveChannel_kept (s : State) (c : Nat) :
    (State.serveChannel s c).kept = s.kept := by
  have h := serveOne_kept s c
  simp only [State.serveChannel]
  split <;> simp_all

@[simp] theorem haltChannel_kept (s : State) (c : Nat) :
    (State.haltChannel s c).kept = s.kept := by
  simp [State.haltChannel]

@[simp] theorem serveOrHalt_kept (s : State) (c : Nat) :
    (State.serveOrHalt s c).kept = s.kept := by
  simp [State.serveOrHalt]

@[simp] theorem endServing_kept (s : State) (always : List Nat) (slot : Nat) (why : EndReason) :
    (State.endServing s always slot why).kept = s.kept := by
  simp only [State.endServing]
  split <;> simp

@[simp] theorem endAndServe_kept (s : State) (slot : Nat) (why : EndReason) :
    (State.endAndServe s slot why).kept = s.kept := by
  simp [State.endAndServe]

@[simp] theorem withdrawServing_kept (always : List Nat) (s : State) (h : Nat) :
    (State.withdrawServing always s h).kept = s.kept := by
  simp only [State.withdrawServing]
  split <;> simp

@[simp] theorem withdraw_kept (s : State) (h : Nat) :
    (State.withdraw s h).kept = s.kept := by
  simp [State.withdraw]

@[simp] theorem withdrawAll_kept (s : State) (hs : List Nat) :
    (State.withdrawAll s hs).kept = s.kept := by
  simp [State.withdrawAll]

@[simp] theorem endRun_kept (s : State) (slot : Nat) :
    (State.endRun s slot).kept = s.kept := by
  simp only [State.endRun]
  split <;> simp

@[simp] theorem createAnn_kept (s : State) (x : AnnSpec) (owner : Owner) (inc run : Option Nat) :
    (State.createAnn s x owner inc run).1.kept = s.kept := by
  simp only [State.createAnn]
  split <;> simp

@[simp] theorem startAnn_kept (s : State) (h : Nat) :
    (State.startAnn s h).kept = s.kept := by
  simp only [State.startAnn]
  split <;> simp

@[simp] theorem postDelay_kept (s : State) (slot : Nat) (r : Run) :
    (State.postDelay s slot r).kept = s.kept := by
  have h := createAnn_kept s (s.delaySpec (s.runHandle slot)) .engine none (some (s.runHandle slot))
  simp only [State.postDelay]
  (repeat' split) <;> simp_all

@[simp] theorem compareDelay_kept (s : State) (slot : Nat) (late : Int) :
    (State.compareDelay s slot late).kept = s.kept := by
  simp only [State.compareDelay]
  (repeat' split) <;> simp

/-! ## Release -/

@[simp] theorem recordClaim_kept (s : State) (slot sub sec cost : Nat) :
    (State.recordClaim s slot sub sec cost).kept = s.kept := rfl

@[simp] theorem returnClaim_kept (s : State) (slot : Nat) :
    (State.returnClaim s slot).kept = s.kept := by
  simp only [State.returnClaim]
  split <;> simp

@[simp] theorem nameHolder_kept (s : State) (m slot : Nat) :
    (State.nameHolder s m slot).kept = s.kept := by
  simp [State.nameHolder]

@[simp] theorem chooseHolder_kept (s : State) (m : Nat) :
    (State.chooseHolder s m).kept = s.kept := by
  simp only [State.chooseHolder]
  (repeat' split) <;> simp

@[simp] theorem loseHolderAt_kept (s : State) (h m : Nat) :
    (State.loseHolderAt s h m).kept = s.kept := by
  simp [State.loseHolderAt]

@[simp] theorem loseHolder_kept (s : State) (h : Nat) :
    (State.loseHolder s h).kept = s.kept := by
  simp [State.loseHolder]

@[simp] theorem settleMergeAt_kept (s : State) (slot : Nat) :
    (State.settleMerge s slot).kept = s.kept := by
  simp only [State.settleMerge]
  (repeat' split) <;> simp

@[simp] theorem evalMerge_kept (s : State) (slot : Nat) (r : Run) (others : Bool) :
    (State.evalMerge s slot r others).1.kept = s.kept := by
  simp only [State.evalMerge]
  (repeat' split) <;> simp

@[simp] theorem gates_kept (s : State) (slot : Nat) (r : Run) :
    (State.gates s slot r).1.kept = s.kept := by
  simp [State.gates]

@[simp] theorem recordGrant_kept (s : State) (slot : Nat) (r : Run) :
    (State.recordGrant s slot r).kept = s.kept := by
  simp only [State.recordGrant]
  split <;> simp

@[simp] theorem completeRelease_kept (s : State) (slot : Nat) :
    (State.completeRelease s slot).kept = s.kept := by
  simp only [State.completeRelease]
  split <;> simp

@[simp] theorem lowerReleased_kept (s : State) :
    (State.lowerReleased s).kept = s.kept := by
  simp only [State.lowerReleased]
  split <;> simp

@[simp] theorem grantHead_kept (s : State) (sub : Nat) (e : WaitEntry) :
    (State.grantHead s sub e).kept = s.kept := by
  simp only [State.grantHead]
  split <;> simp

@[simp] theorem serveQueue_kept (sub : Nat) (n_ : Nat) (s : State) :
    (State.serveQueue sub n_ s).kept = s.kept := by
  induction n_ generalizing s with
  | zero => rfl
  | succ n ih =>
    simp only [State.serveQueue]
    (repeat' split) <;> simp [ih]

@[simp] theorem serveSub_kept (s : State) (sub : Nat) :
    (State.serveSub s sub).kept = s.kept := by
  simp [State.serveSub]

@[simp] theorem leaveQueues_kept (s : State) (h : Nat) :
    (State.leaveQueues s h).kept = s.kept := foldl_kept _ (fun t i => by simp) _ _

@[simp] theorem serveLeft_kept (t s : State) :
    (State.serveLeft t s).kept = t.kept := by
  simp [State.serveLeft]

@[simp] theorem thenServe_kept (s : State) (x : Reply × State) : (thenServe s x).2.kept = x.2.kept := by
  simp [thenServe]

@[simp] theorem askPower_kept (s : State) (slot : Nat) (r : Run) :
    (State.askPower s slot r).kept = s.kept := by
  simp [State.askPower]

@[simp] theorem holdFor_kept (s : State) (slot : Nat) (g : Causes) :
    (State.holdFor s slot g).kept = s.kept := by
  simp [State.holdFor]

@[simp] theorem attempt_kept (s : State) (slot : Nat) :
    (State.attempt s slot).kept = s.kept := by
  simp only [State.attempt]
  split <;> simp

@[simp] theorem recheckWaiting_kept (s : State) (slot : Nat) (r : Run) :
    (State.recheckWaiting s slot r).kept = s.kept := by
  simp [State.recheckWaiting]

@[simp] theorem recheckRun_kept (mask : Causes) (s : State) (slot : Nat) :
    (State.recheckRun mask s slot).kept = s.kept := by
  simp only [State.recheckRun]
  (repeat' split) <;> simp

@[simp] theorem settleMerges_kept (t s : State) (slots : List Nat) :
    (State.settleMerges t s slots).kept = t.kept := by
  simp only [State.settleMerges]
  exact foldl_kept _ (fun u i => by split <;> simp) _ _

@[simp] theorem recheck_kept (s : State) (mask : Causes) (slots : List Nat) :
    (State.recheck s mask slots).kept = s.kept := by
  simp [State.recheck]

@[simp] theorem recheckRestriction_kept (s : State) (segs : List Nat) :
    (State.recheckRestriction s segs).kept = s.kept := by
  simp [State.recheckRestriction]

@[simp] theorem recheckSection_kept (s : State) (sec : Nat) :
    (State.recheckSection s sec).kept = s.kept := by
  simp [State.recheckSection]

@[simp] theorem recheckCapacity_kept (s : State) (seg : Nat) :
    (State.recheckCapacity s seg).kept = s.kept := by
  simp [State.recheckCapacity]

@[simp] theorem dropSpanlessHolder_kept (s : State) (m : Nat) :
    (State.dropSpanlessHolder s m).kept = s.kept := by
  simp only [State.dropSpanlessHolder]
  split <;> simp

@[simp] theorem spansChanged_kept (s : State) (slots : List Nat) :
    (State.spansChanged s slots).kept = s.kept := by
  simp [State.spansChanged]

@[simp] theorem applyRelease_kept (s : State) (slot : Nat) (r : Run) (t : Nat) :
    (State.applyRelease s slot r t).kept = s.kept := by
  simp [State.applyRelease]

@[simp] theorem computeRelease_kept (s : State) (slot : Nat) :
    (State.computeRelease s slot).kept = s.kept := by
  simp only [State.computeRelease]
  split <;> simp

@[simp] theorem returnToDwelling_kept (s : State) (slot : Nat) (r : Run) (t : Nat) :
    (State.returnToDwelling s slot r t).kept = s.kept := by
  simp [State.returnToDwelling]

@[simp] theorem recomputeRun_kept (s : State) (slot : Nat) :
    (State.recomputeRun s slot).kept = s.kept := by
  simp only [State.recomputeRun]
  (repeat' split) <;> simp

@[simp] theorem recompute_kept (s : State) (slots : List Nat) :
    (State.recompute s slots).kept = s.kept := by
  simp [State.recompute]

@[simp] theorem recomputeAll_kept (s : State) :
    (State.recomputeAll s).kept = s.kept := by
  simp [State.recomputeAll]

@[simp] theorem followerChange_kept (s : State) (p : Nat) :
    (State.followerChange s p).kept = s.kept := by
  simp [State.followerChange]

@[simp] theorem queueChanged_kept (s : State) (seg : Nat) :
    (State.queueChanged s seg).kept = s.kept := by
  simp [State.queueChanged]

@[simp] theorem staleChanged_kept (s : State) (e : LineEvent) :
    (State.staleChanged s e).kept = s.kept := by
  simp [State.staleChanged]

/-! ## Placement -/

@[simp] theorem evalHorizon_kept (s : State) :
    (State.evalHorizon s).kept = s.kept := by
  simp [State.evalHorizon]

@[simp] theorem occupy_kept (s : State) (p h : Nat) :
    (State.occupy s p h).kept = s.kept := rfl

@[simp] theorem placeRun_kept (s : State) (slot : Nat) :
    (State.placeRun s slot).kept = s.kept := by
  simp only [State.placeRun]
  split <;> simp

@[simp] theorem clearOccupant_kept (s : State) (p : Nat) :
    (State.clearOccupant s p).kept = s.kept := by
  simp only [State.clearOccupant]
  split <;> simp

@[simp] theorem vacate_kept (s : State) (p h : Nat) :
    (State.vacate s p h).kept = s.kept := by
  simp [State.vacate]

@[simp] theorem modCounters_kept (s : State) (route : Nat) (f : Counters → Counters) :
    (State.modCounters s route f).kept = s.kept := rfl

@[simp] theorem countDeparture_kept (s : State) (slot : Nat) (r : Run) (k : Nat) :
    (State.countDeparture s slot r k).kept = s.kept := by
  simp only [State.countDeparture]
  split <;> simp

@[simp] theorem retireRunSlot_kept (s : State) (slot : Nat) :
    (State.retireRunSlot s slot).kept = s.kept := rfl

/-! ## IncidentCore -/

@[simp] theorem modDesk_kept (s : State) (d : Nat) (f : List Nat → List Nat) :
    (State.modDesk s d f).kept = s.kept := rfl

@[simp] theorem placeOnDesk_kept (s : State) (d h : Nat) :
    (State.placeOnDesk s d h).kept = s.kept := rfl

@[simp] theorem leaveDesk_kept (s : State) (d h : Nat) :
    (State.leaveDesk s d h).kept = s.kept := rfl

@[simp] theorem raiseIn_kept (s : State) (slot : Nat) (x : RaiseSpec) :
    (State.raiseIn s slot x).kept = s.kept := by
  simp [State.raiseIn]

@[simp] theorem linkBoth_kept (s : State) (incSlot runSlot : Nat) :
    (State.linkBoth s incSlot runSlot).kept = s.kept := rfl

@[simp] theorem unlinkBoth_kept (s : State) (incSlot runSlot : Nat) :
    (State.unlinkBoth s incSlot runSlot).kept = s.kept := rfl

@[simp] theorem raiseAuto_kept (s : State) (slot : Nat) (c : AutoCause) (d : AutoDetail) (count : Nat) :
    (State.raiseAuto s slot c d count).kept = s.kept := by
  simp only [State.raiseAuto]
  split <;> simp

@[simp] theorem enterPending_kept (s : State) (c : AutoCause) (d : AutoDetail) :
    (State.enterPending s c d).kept = s.kept := rfl

@[simp] theorem requestAuto_kept (s : State) (c : AutoCause) (d : AutoDetail) :
    (State.requestAuto s c d).kept = s.kept := by
  simp only [State.requestAuto]
  (repeat' split) <;> simp

@[simp] theorem raisePending_kept (s : State) (slot : Nat) :
    (State.raisePending s slot).kept = s.kept := by
  simp only [State.raisePending]
  split <;> simp

@[simp] theorem retireIncSlot_kept (s : State) (slot : Nat) :
    (State.retireIncSlot s slot).kept = s.kept := rfl

@[simp] theorem conflict_kept (s : State) (run tp : Nat) (k : ConflictKind) :
    (State.conflict s run tp k).kept = s.kept := by
  simp [State.conflict]

@[simp] theorem conflict?_kept (s : State) (run tp : Nat) (k : Option ConflictKind) :
    (State.conflict? s run tp k).kept = s.kept := by
  simp only [State.conflict?]
  split <;> simp

/-! ## Sections -/

@[simp] theorem setSection_kept (s : State) (sec : Nat) (x : SecState) :
    (State.setSection s sec x).kept = s.kept := rfl

@[simp] theorem moveSection_kept (s : State) (sec : Nat) (x : SecState) :
    (State.moveSection s sec x).kept = s.kept := by
  simp [State.moveSection]

@[simp] theorem returnClaims_kept (s : State) (sec : Nat) :
    (State.returnClaims s sec).kept = s.kept := by
  simp [State.returnClaims]

@[simp] theorem forceOut_kept (s : State) (sec : Nat) (x : SecState) :
    (State.forceOut s sec x).kept = s.kept := by
  simp [State.forceOut]

@[simp] theorem orderOpen_kept (s : State) (sec : Nat) :
    (State.orderOpen s sec).kept = s.kept := rfl

@[simp] theorem orderClose_kept (s : State) (sec : Nat) :
    (State.orderClose s sec).kept = s.kept := rfl

@[simp] theorem stopDrain_kept (s : State) (sec : Nat) :
    (State.stopDrain s sec).kept = s.kept := rfl

@[simp] theorem confirm_kept (s : State) (sec : Nat) :
    (State.confirm s sec).kept = s.kept := rfl

@[simp] theorem startDrain_kept (s : State) (sec : Nat) :
    (State.startDrain s sec).kept = s.kept := by
  simp [State.startDrain]

@[simp] theorem referenceAdded_kept (s : State) (sec : Nat) :
    (State.referenceAdded s sec).kept = s.kept := by
  simp only [State.referenceAdded]
  (repeat' split) <;> simp

@[simp] theorem referenceRemoved_kept (s : State) (sec : Nat) :
    (State.referenceRemoved s sec).kept = s.kept := by
  simp only [State.referenceRemoved]
  split <;> simp

@[simp] theorem addReference_kept (s : State) (sec : Nat) :
    (State.addReference s sec).kept = s.kept := by
  simp [State.addReference]

@[simp] theorem removeReference_kept (s : State) (sec : Nat) :
    (State.removeReference s sec).kept = s.kept := by
  simp [State.removeReference]

@[simp] theorem switchSection_kept (before : List Nat) (s : State) (sec : Nat) :
    (State.switchSection before s sec).kept = s.kept := by
  simp [State.switchSection]

@[simp] theorem switchFeeders_kept (s : State) (before : List Nat) :
    (State.switchFeeders s before).kept = s.kept := by
  simp [State.switchFeeders]

/-! ## Restrict -/

@[simp] theorem modSegs_kept (s : State) (segs : List Nat) (f : SegLive → SegLive) :
    (State.modSegs s segs f).kept = s.kept := foldl_kept _ (fun t i => modSeg_kept t i f) _ _

@[simp] theorem changeHold_kept (s : State) (f : Nat → Nat) (segs : List Nat) :
    (State.changeHold s f segs).kept = s.kept := by
  simp [State.changeHold]

@[simp] theorem changeSlow_kept (s : State) (f : List SlowEntry → List SlowEntry) (segs : List Nat) :
    (State.changeSlow s f segs).kept = s.kept := by
  simp [State.changeSlow]

@[simp] theorem remark_kept (s : State) (f : Run → Run) (slots : List Nat) :
    (State.remark s f slots).kept = s.kept := by
  simp only [State.remark, spansChanged_kept]
  exact foldl_kept _ (fun t i => modRun_kept t i f) _ _

@[simp] theorem coverageChanged_kept (s : State) (p : Nat) :
    (State.coverageChanged s p).kept = s.kept := rfl

@[simp] theorem coverageFrom_kept (t s : State) :
    (State.coverageFrom t s).kept = t.kept := foldl_kept _ (fun u p => coverageChanged_kept u p) _ _

@[simp] theorem enforce_kept (s before : State) (inc number : Nat) (x : RestrictionSpec) :
    (State.enforce s before inc number x).kept = s.kept := by
  simp only [State.enforce]
  split <;> simp

@[simp] theorem relax_kept (s before : State) (inc number : Nat) (x : RestrictionSpec) :
    (State.relax s before inc number x).kept = s.kept := by
  simp only [State.relax]
  split <;> simp

@[simp] theorem putInForce_kept (s : State) (slot number : Nat) (x : RestrictionSpec) :
    (State.putInForce s slot number x).kept = s.kept := by
  simp [State.putInForce]

@[simp] theorem addRestriction_kept (slot : Nat) (s : State) (x : RestrictionSpec) :
    (State.addRestriction slot s x).kept = s.kept := by
  simp only [State.addRestriction]
  split <;> simp

@[simp] theorem lift_kept (slot : Nat) (s : State) (x : Restriction) :
    (State.lift slot s x).kept = s.kept := by
  simp [State.lift]

/-! ## Requests -/

/-! ## LineDescription -/

@[simp] theorem orderBoard_kept (s : State) (p : Nat) :
    (State.orderBoard s p).kept = s.kept := by
  simp only [State.orderBoard]
  split <;> simp

@[simp] theorem settleLookupLine_kept (r : Req) (s : State) :
    (settleLookupLine r s).2.kept = s.kept := by
  simp only [settleLookupLine]
  (repeat' split) <;> simp

/-! ## LineClock -/

@[simp] theorem carryAnns_kept (s : State) (t : Nat) :
    (State.carryAnns s t).kept = s.kept := rfl

@[simp] theorem revoke_kept (s : State) (slot : Nat) :
    (State.revoke s slot).kept = s.kept := by
  simp only [State.revoke]
  split <;> simp

@[simp] theorem rolloverRuns_kept (s : State) :
    (State.rolloverRuns s).kept = s.kept := by
  simp only [State.rolloverRuns, onRtb_kept]
  rw [foldl_kept _ (fun t i => retireRunSlot_kept t i), foldl_kept _ (fun t i => revoke_kept t i)]

@[simp] theorem rolloverDrg_kept (s : State) :
    (State.rolloverDrg s).kept = s.kept := by
  simp [State.rolloverDrg]

@[simp] theorem rolloverItb_kept (s : State) (t : Nat) :
    (State.rolloverItb s t).kept = s.kept := by
  simp only [State.rolloverItb]
  rw [foldl_kept _ (fun t i => raisePending_kept t i), foldl_kept _ (fun t i => retireIncSlot_kept t i)]
  rfl

@[simp] theorem clearBoards_kept (s : State) :
    (State.clearBoards s).kept = s.kept := by
  simp [State.clearBoards]

/-! ## RunTable -/

@[simp] theorem loadIn_kept (s : State) (slot : Nat) (b : LoadBody) :
    (State.loadIn s slot b).kept = s.kept := by
  simp [State.loadIn]

@[simp] theorem settleLoadRun_kept (r : Req) (s : State) :
    (settleLoadRun r s).2.kept = s.kept := by
  simp only [settleLoadRun]
  (repeat' split) <;> simp

@[simp] theorem amended_kept (s : State) (slot : Nat) (old new : Run) :
    (State.amended s slot old new).kept = s.kept := by
  simp [State.amended]

@[simp] theorem settleAmendAt_kept (s : State) (r : Req) (slot : Nat) (x : Run) :
    (State.settleAmend s r slot x).2.kept = s.kept := by
  simp only [State.settleAmend]
  (repeat' split) <;> simp

@[simp] theorem settleAmendRun_kept (r : Req) (s : State) :
    (settleAmendRun r s).2.kept = s.kept := by
  simp [settleAmendRun]

@[simp] theorem withdrawGrant_kept (s : State) (slot : Nat) :
    (State.withdrawGrant s slot).kept = s.kept := by
  simp only [State.withdrawGrant]
  split <;> simp

@[simp] theorem leaveRegulation_kept (s : State) (slot : Nat) :
    (State.leaveRegulation s slot).kept = s.kept := by
  simp [State.leaveRegulation]

@[simp] theorem cancelEffects_kept (s : State) (slot : Nat) (old : Run) :
    (State.cancelEffects s slot old).kept = s.kept := by
  simp only [State.cancelEffects]
  split <;> simp

@[simp] theorem cancel_kept (s : State) (slot : Nat) (x : Run) :
    (State.cancel s slot x).kept = s.kept := by
  simp [State.cancel]

@[simp] theorem settleCancelAt_kept (s : State) (slot : Nat) (x : Run) :
    (State.settleCancel s slot x).2.kept = s.kept := by
  simp only [State.settleCancel]
  split <;> simp

@[simp] theorem settleCancelRun_kept (r : Req) (s : State) :
    (settleCancelRun r s).2.kept = s.kept := by
  simp [settleCancelRun]

@[simp] theorem unlinkRun_kept (s : State) (h : Nat) (incs : List Nat) :
    (State.unlinkRun s h incs).kept = s.kept := by
  simp [State.unlinkRun]

@[simp] theorem retire_kept (s : State) (slot : Nat) (x : Run) :
    (State.retire s slot x).kept = s.kept := by
  simp [State.retire]

@[simp] theorem settleRetireAt_kept (s : State) (slot : Nat) (x : Run) :
    (State.settleRetire s slot x).2.kept = s.kept := by
  simp only [State.settleRetire]
  split <;> simp

@[simp] theorem settleRetireRun_kept (r : Req) (s : State) :
    (settleRetireRun r s).2.kept = s.kept := by
  simp [settleRetireRun]

@[simp] theorem settleLookupRun_kept (r : Req) (s : State) :
    (settleLookupRun r s).2.kept = s.kept := by
  simp only [settleLookupRun]
  (repeat' split) <;> simp

@[simp] theorem settleFindRun_kept (r : Req) (s : State) :
    (settleFindRun r s).2.kept = s.kept := by
  simp only [settleFindRun]
  (repeat' split) <;> simp

@[simp] theorem settleLookupCounters_kept (r : Req) (s : State) :
    (settleLookupCounters r s).2.kept = s.kept := rfl

@[simp] theorem settleClearCounters_kept (r : Req) (s : State) :
    (settleClearCounters r s).2.kept = s.kept := by
  simp only [settleClearCounters]
  split <;> simp

@[simp] theorem placementExpiry_kept (s : State) (slot : Nat) (x : Run) :
    (State.placementExpiry s slot x).kept = s.kept := by
  simp [State.placementExpiry]

/-! ## Movement -/

@[simp] theorem restartStale_kept (s : State) :
    (State.restartStale s).kept = s.kept := by
  simp [State.restartStale]

@[simp] theorem leaveSegment_kept (s : State) (seg h : Nat) :
    (State.leaveSegment s seg h).kept = s.kept := rfl

@[simp] theorem enterSegment_kept (s : State) (seg h : Nat) :
    (State.enterSegment s seg h).kept = s.kept := rfl

@[simp] theorem leaveMerge_kept (r : Run) (a b slot : Nat) (s : State) (m : Nat) :
    (State.leaveMerge r a b slot s m).kept = s.kept := by
  simp [State.leaveMerge]

@[simp] theorem leaveMerges_kept (s : State) (r : Run) (a b slot : Nat) :
    (State.leaveMerges s r a b slot).kept = s.kept := by
  simp [State.leaveMerges]

@[simp] theorem leaveEveryMerge_kept (s : State) (slot : Nat) :
    (State.leaveEveryMerge s slot).kept = s.kept :=
  (modReg_kept _ slot _).trans (foldl_kept _ (fun t m => modMergeList_kept t m _) _ _)

@[simp] theorem reachStop_kept (s : State) (slot m : Nat) :
    (State.reachStop s slot m).kept = s.kept := by
  simp [State.reachStop]

@[simp] theorem arriveDwelling_kept (s : State) (slot m : Nat) (r : Run) :
    (State.arriveDwelling s slot m r).kept = s.kept := by
  simp [State.arriveDwelling]

@[simp] theorem arriveTerminal_kept (s : State) (slot m : Nat) (r : Run) :
    (State.arriveTerminal s slot m r).kept = s.kept := by
  simp [State.arriveTerminal]

@[simp] theorem arrivedOnTrack_kept (s : State) (slot : Nat) (r : Run) (p : Nat) :
    (State.arrivedOnTrack s slot r p).kept = s.kept := by
  simp only [State.arrivedOnTrack]
  split <;> simp

@[simp] theorem arrivedPlanned_kept (s : State) (slot : Nat) (r : Run) (p : Nat) :
    (State.arrivedPlanned s slot r p).kept = s.kept := by
  simp [State.arrivedPlanned]

@[simp] theorem settleArrivedAt_kept (s : State) (slot : Nat) (r : Run) (p : Nat) :
    (State.settleArrived s slot r p).kept = s.kept := by
  simp only [State.settleArrived]
  split <;> simp

@[simp] theorem departInto_kept (s : State) (slot k seg : Nat) (st : RunState) :
    (State.departInto s slot k seg st).kept = s.kept := rfl

@[simp] theorem stampDeparture_kept (s : State) (p h : Nat) :
    (State.stampDeparture s p h).kept = s.kept := rfl

@[simp] theorem startClaimTimer_kept (s : State) (slot : Nat) (r : Run) :
    (State.startClaimTimer s slot r).kept = s.kept := by
  simp only [State.startClaimTimer]
  split <;> simp

@[simp] theorem departReleased_kept (s : State) (slot : Nat) (r : Run) (p : Nat) :
    (State.departReleased s slot r p).kept = s.kept := by
  simp [State.departReleased]

@[simp] theorem departUnreleased_kept (s : State) (slot : Nat) (r : Run) (p : Nat) (stamps : Bool) :
    (State.departUnreleased s slot r p stamps).kept = s.kept := by
  simp [State.departUnreleased]

@[simp] theorem departedOnTrack_kept (s : State) (slot : Nat) (r : Run) (p : Nat) :
    (State.departedOnTrack s slot r p).kept = s.kept := by
  simp [State.departedOnTrack]

@[simp] theorem settleDepartedAt_kept (s : State) (slot : Nat) (r : Run) (p : Nat) :
    (State.settleDeparted s slot r p).kept = s.kept := by
  simp only [State.settleDeparted]
  split <;> simp

@[simp] theorem passThrough_kept (s : State) (slot m : Nat) (r : Run) :
    (State.passThrough s slot m r).kept = s.kept := by
  simp [State.passThrough]

@[simp] theorem passedOnTrack_kept (s : State) (slot : Nat) (r : Run) (p : Nat) :
    (State.passedOnTrack s slot r p).kept = s.kept := by
  simp only [State.passedOnTrack]
  split <;> simp

@[simp] theorem settlePassedAt_kept (s : State) (slot : Nat) (r : Run) (p : Nat) :
    (State.settlePassed s slot r p).kept = s.kept := by
  simp only [State.settlePassed]
  split <;> simp

@[simp] theorem staleExpiry_kept (s : State) :
    (State.staleExpiry s).kept = s.kept := by
  simp [State.staleExpiry]

@[simp] theorem settleLookupPoint_kept (r : Req) (s : State) :
    (settleLookupPoint r s).2.kept = s.kept := withId_kept s r _ _ _ fun _ => rfl

@[simp] theorem settleLookupSegment_kept (r : Req) (s : State) :
    (settleLookupSegment r s).2.kept = s.kept := withId_kept s r _ _ _ fun _ => rfl

/-! ## Regulation -/

@[simp] theorem hold_kept (s : State) (slot : Nat) (x : Run) :
    (State.hold s slot x).kept = s.kept := by
  simp [State.hold]

@[simp] theorem settleHoldAt_kept (s : State) (slot : Nat) (x : Run) :
    (State.settleHold s slot x).2.kept = s.kept := by
  simp only [State.settleHold]
  (repeat' split) <;> simp

@[simp] theorem settleHoldRun_kept (r : Req) (s : State) :
    (settleHoldRun r s).2.kept = s.kept := by
  simp [settleHoldRun]

@[simp] theorem unhold_kept (s : State) (slot : Nat) :
    (State.unhold s slot).kept = s.kept := by
  simp [State.unhold]

@[simp] theorem settleUnholdAt_kept (s : State) (slot : Nat) (x : Run) :
    (State.settleUnhold s slot x).2.kept = s.kept := by
  simp only [State.settleUnhold]
  (repeat' split) <;> simp

@[simp] theorem settleUnholdRun_kept (r : Req) (s : State) :
    (settleUnholdRun r s).2.kept = s.kept := by
  simp [settleUnholdRun]

@[simp] theorem forceRelease_kept (s : State) (slot : Nat) (r : Run) :
    (State.forceRelease s slot r).kept = s.kept := by
  simp [State.forceRelease]

@[simp] theorem refuseCauses_kept (s : State) (c : Causes) :
    (State.refuseCauses s c).2.kept = s.kept := rfl

@[simp] theorem releaseStanding_kept (s : State) (slot : Nat) (r : Run) :
    (State.releaseStanding s slot r).2.kept = s.kept := by
  simp only [State.releaseStanding]
  (repeat' split) <;> simp

@[simp] theorem settleReleaseAt_kept (s : State) (slot : Nat) (x : Run) :
    (State.settleRelease s slot x).2.kept = s.kept := by
  simp only [State.settleRelease]
  (repeat' split) <;> simp

@[simp] theorem settleReleaseRun_kept (r : Req) (s : State) :
    (settleReleaseRun r s).2.kept = s.kept := by
  simp [settleReleaseRun]

@[simp] theorem enterManual_kept (s : State) (slot : Nat) :
    (State.enterManual s slot).kept = s.kept := by
  simp only [State.enterManual]
  split <;> simp

@[simp] theorem halt_kept (s : State) :
    (State.halt s).kept = s.kept := by
  simp [State.halt]

@[simp] theorem leaveManual_kept (s : State) (slot : Nat) :
    (State.leaveManual s slot).kept = s.kept := by
  simp [State.leaveManual]

@[simp] theorem resume_kept (s : State) :
    (State.resume s).kept = s.kept := by
  simp [State.resume]

@[simp] theorem settleLookupRegulation_kept (r : Req) (s : State) :
    (settleLookupRegulation r s).2.kept = s.kept := rfl

@[simp] theorem timeout_kept (s : State) (slot : Nat) :
    (State.timeout s slot).kept = s.kept := by
  simp [State.timeout]

/-! ## Traction -/

@[simp] theorem settleSetWithhold_kept (r : Req) (s : State) :
    (settleSetWithhold r s).2.kept = s.kept := by
  simp only [settleSetWithhold]
  (repeat' split) <;> simp

@[simp] theorem isolateAnswer_kept (s : State) (c : AnswerCode) (i : Nat) :
    (State.isolateAnswer s c i).2.kept = s.kept := rfl

@[simp] theorem isolate_kept (s : State) (i : Nat) :
    (State.isolate s i).2.kept = s.kept := by
  simp only [State.isolate]
  split <;> simp

@[simp] theorem settleIsolateSection_kept (r : Req) (s : State) :
    (settleIsolateSection r s).2.kept = s.kept := by
  simp [settleIsolateSection]

@[simp] theorem energiseAnswer_kept (s : State) (c : AnswerCode) (i : Nat) :
    (State.energiseAnswer s c i).2.kept = s.kept := rfl

@[simp] theorem close_kept (s : State) (i : Nat) :
    (State.close s i).kept = s.kept := by
  simp [State.close]

@[simp] theorem energiseAfter_kept (s : State) (i : Nat) (cleared : Bool) :
    (State.energiseAfter s i cleared).2.kept = s.kept := by
  simp only [State.energiseAfter]
  (repeat' split) <;> simp

@[simp] theorem energise_kept (s : State) (i : Nat) :
    (State.energise s i).2.kept = s.kept := by
  simp only [State.energise]
  split <;> simp

@[simp] theorem settleEnergiseSection_kept (r : Req) (s : State) :
    (settleEnergiseSection r s).2.kept = s.kept := by
  simp [settleEnergiseSection]

@[simp] theorem settleLookupSubstation_kept (r : Req) (s : State) :
    (settleLookupSubstation r s).2.kept = s.kept := withId_kept s r _ _ _ fun _ => rfl

@[simp] theorem settleLookupSection_kept (r : Req) (s : State) :
    (settleLookupSection r s).2.kept = s.kept := withId_kept s r _ _ _ fun _ => rfl

@[simp] theorem serveMoved_kept (v before after : State) (i : Nat) :
    (State.serveMoved v before after i).kept = v.kept := by
  simp [State.serveMoved]

@[simp] theorem supplyChanged_kept (s : State) (i : Nat) (st : SupplyState) :
    (State.supplyChanged s i st).kept = s.kept := by
  simp [State.supplyChanged]

@[simp] theorem supplyReport_kept (s : State) (i : Nat) (st : SupplyState) :
    (State.supplyReport s i st).kept = s.kept := by
  simp only [State.supplyReport]
  (repeat' split) <;> simp

@[simp] theorem trip_kept (s : State) (i : Nat) (x : SecLive) :
    (State.trip s i x).kept = s.kept := by
  simp [State.trip]

@[simp] theorem breakerOpened_kept (s : State) (i : Nat) (x : SecLive) :
    (State.breakerOpened s i x).kept = s.kept := by
  simp only [State.breakerOpened]
  split <;> simp

@[simp] theorem breakerClosed_kept (s : State) (i : Nat) (x : SecLive) :
    (State.breakerClosed s i x).kept = s.kept := by
  simp only [State.breakerClosed]
  split <;> simp

@[simp] theorem breakerMoved_kept (s : State) (i : Nat) (x : SecLive) (pos : BreakerPos) :
    (State.breakerMoved s i x pos).kept = s.kept := by
  cases pos <;> simp [State.breakerMoved]

@[simp] theorem breakerReport_kept (s : State) (i : Nat) (pos : BreakerPos) :
    (State.breakerReport s i pos).kept = s.kept := by
  simp only [State.breakerReport]
  (repeat' split) <;> simp

@[simp] theorem drainExpiry_kept (s : State) (i : Nat) :
    (State.drainExpiry s i).kept = s.kept := by
  simp [State.drainExpiry]

@[simp] theorem confirmExpiry_kept (s : State) (i : Nat) (awaited : BreakerOrder) :
    (State.confirmExpiry s i awaited).kept = s.kept := by
  simp [State.confirmExpiry]

/-! ## Incidents -/

@[simp] theorem postForIncident_kept (s : State) (slot : Nat) (x : AnnSpec) (owner : Owner) :
    (State.postForIncident s slot x owner).1.kept = s.kept := by
  have h := createAnn_kept s x owner (some (s.incHandle slot)) none
  simp only [State.postForIncident]
  (repeat' split) <;> simp_all

@[simp] theorem linkHandle_kept (slot : Nat) (s : State) (h : Nat) :
    (State.linkHandle slot s h).kept = s.kept := by
  simp only [State.linkHandle]
  split <;> simp

@[simp] theorem raise_kept (s : State) (slot : Nat) (b : RaiseBody) (client : Nat) :
    (State.raise s slot b client).1.kept = s.kept := by
  simp only [State.raise]
  split <;> simp

@[simp] theorem settleRaise_kept (s : State) (r : Req) :
    (State.settleRaise s r).2.kept = s.kept := by
  simp only [State.settleRaise]
  (repeat' split) <;> simp

@[simp] theorem settleRaiseIncident_kept (r : Req) (s : State) :
    (settleRaiseIncident r s).2.kept = s.kept := by
  simp [settleRaiseIncident]

@[simp] theorem offDesk_kept (s : State) (slot desk : Nat) :
    (State.offDesk s slot desk).kept = s.kept := by
  simp [State.offDesk]

@[simp] theorem acknowledge_kept (s : State) (slot client desk : Nat) :
    (State.acknowledge s slot client desk).kept = s.kept := by
  simp [State.acknowledge]

@[simp] theorem settleAckAt_kept (s : State) (r : Req) (slot : Nat) (x : Incident) :
    (State.settleAck s r slot x).2.kept = s.kept := by
  simp only [State.settleAck]
  (repeat' split) <;> simp

@[simp] theorem settleAckIncident_kept (r : Req) (s : State) :
    (settleAckIncident r s).2.kept = s.kept := by
  simp [settleAckIncident]

@[simp] theorem escalate_kept (s : State) (slot : Nat) (x : Incident) :
    (State.escalate s slot x).kept = s.kept := by
  simp [State.escalate]

@[simp] theorem goOverdue_kept (s : State) (slot : Nat) (x : Incident) :
    (State.goOverdue s slot x).kept = s.kept := by
  simp [State.goOverdue]

@[simp] theorem settleAddAt_kept (s : State) (r : Req) (slot : Nat) (x : Incident) :
    (State.settleAdd s r slot x).2.kept = s.kept := by
  simp only [State.settleAdd]
  (repeat' split) <;> simp

@[simp] theorem settleAddRestriction_kept (r : Req) (s : State) :
    (settleAddRestriction r s).2.kept = s.kept := by
  simp [settleAddRestriction]

@[simp] theorem settleLiftAt_kept (s : State) (r : Req) (slot : Nat) (x : Incident) :
    (State.settleLift s r slot x).2.kept = s.kept := by
  simp only [State.settleLift]
  (repeat' split) <;> simp

@[simp] theorem settleLiftRestriction_kept (r : Req) (s : State) :
    (settleLiftRestriction r s).2.kept = s.kept := by
  simp [settleLiftRestriction]

@[simp] theorem linkRun_kept (s : State) (slot : Nat) (x : Incident) (runSlot : Nat) (run : Run) :
    (State.linkRun s slot x runSlot run).2.kept = s.kept := by
  simp only [State.linkRun]
  (repeat' split) <;> simp

@[simp] theorem unlinkRunFrom_kept (s : State) (slot : Nat) (x : Incident) (runSlot : Nat) :
    (State.unlinkRunFrom s slot x runSlot).2.kept = s.kept := by
  simp only [State.unlinkRunFrom]
  split <;> simp

@[simp] theorem settleLinkRunAt_kept (s : State) (r : Req) (slot : Nat) (x : Incident) :
    (State.settleLinkRun s r slot x).2.kept = s.kept := by
  simp only [State.settleLinkRun]
  (repeat' split) <;> simp

@[simp] theorem settleLinkRun_kept (r : Req) (s : State) :
    (settleLinkRun r s).2.kept = s.kept := by
  simp [settleLinkRun]

@[simp] theorem linkAnn_kept (s : State) (slot : Nat) (x : Incident) (annSlot : Nat) (a : Announcement) :
    (State.linkAnn s slot x annSlot a).2.kept = s.kept := by
  simp only [State.linkAnn]
  (repeat' split) <;> simp

@[simp] theorem unlinkAnnFrom_kept (s : State) (slot : Nat) (x : Incident) (annSlot : Nat) :
    (State.unlinkAnnFrom s slot x annSlot).2.kept = s.kept := by
  simp only [State.unlinkAnnFrom]
  split <;> simp

@[simp] theorem settleLinkAnnAt_kept (s : State) (r : Req) (slot : Nat) (x : Incident) :
    (State.settleLinkAnn s r slot x).2.kept = s.kept := by
  simp only [State.settleLinkAnn]
  (repeat' split) <;> simp

@[simp] theorem settleLinkAnnouncement_kept (r : Req) (s : State) :
    (settleLinkAnnouncement r s).2.kept = s.kept := by
  simp [settleLinkAnnouncement]

@[simp] theorem clear_kept (s : State) (slot : Nat) (x : Incident) :
    (State.clear s slot x).kept = s.kept := by
  simp [State.clear]

@[simp] theorem settleClearAt_kept (s : State) (r : Req) (slot : Nat) (x : Incident) :
    (State.settleClear s r slot x).2.kept = s.kept := by
  simp only [State.settleClear]
  (repeat' split) <;> simp

@[simp] theorem settleClearIncident_kept (r : Req) (s : State) :
    (settleClearIncident r s).2.kept = s.kept := by
  simp [settleClearIncident]

@[simp] theorem forgetIncident_kept (h : Nat) (s : State) (run : Nat) :
    (State.forgetIncident h s run).kept = s.kept := by
  simp only [State.forgetIncident]
  split <;> simp

@[simp] theorem retireIncident_kept (s : State) (slot : Nat) (x : Incident) :
    (State.retireIncident s slot x).kept = s.kept := by
  simp [State.retireIncident]

@[simp] theorem settleRetireIncAt_kept (s : State) (r : Req) (slot : Nat) (x : Incident) :
    (State.settleRetireInc s r slot x).2.kept = s.kept := by
  simp only [State.settleRetireInc]
  (repeat' split) <;> simp

@[simp] theorem settleRetireIncident_kept (r : Req) (s : State) :
    (settleRetireIncident r s).2.kept = s.kept := by
  simp [settleRetireIncident]

@[simp] theorem settleLookupIncident_kept (r : Req) (s : State) :
    (settleLookupIncident r s).2.kept = s.kept := by
  simp only [settleLookupIncident]
  split <;> simp

@[simp] theorem settleLookupDesk_kept (r : Req) (s : State) :
    (settleLookupDesk r s).2.kept = s.kept := by
  simp only [settleLookupDesk]
  split <;> simp

/-! ## Passenger -/

@[simp] theorem post_kept (s : State) (x : AnnSpec) (client : Nat) (run : Option Nat) :
    (State.post s x client run).2.kept = s.kept := by
  have h := createAnn_kept s x (.client client) none run
  simp only [State.post]
  split <;> simp_all

@[simp] theorem settlePostAnnouncement_kept (r : Req) (s : State) :
    (settlePostAnnouncement r s).2.kept = s.kept := by
  simp only [settlePostAnnouncement]
  (repeat' split) <;> simp

@[simp] theorem settleWithdrawAt_kept (s : State) (r : Req) (slot : Nat) (a : Announcement) :
    (State.settleWithdraw s r slot a).2.kept = s.kept := by
  simp only [State.settleWithdraw]
  split <;> simp

@[simp] theorem settleWithdrawAnnouncement_kept (r : Req) (s : State) :
    (settleWithdrawAnnouncement r s).2.kept = s.kept := by
  simp [settleWithdrawAnnouncement]

@[simp] theorem settleSetClassMap_kept (r : Req) (s : State) :
    (settleSetClassMap r s).2.kept = s.kept := by
  simp only [settleSetClassMap]
  (repeat' split) <;> simp

@[simp] theorem setChan_kept (s : State) (c : Nat) (x : ChanState) :
    (State.setChan s c x).kept = s.kept := rfl

@[simp] theorem makeReady_kept (s : State) (c : Nat) :
    (State.makeReady s c).kept = s.kept := by
  simp [State.makeReady]

@[simp] theorem settleEnableChannel_kept (r : Req) (s : State) :
    (settleEnableChannel r s).2.kept = s.kept := by
  simp only [settleEnableChannel]
  (repeat' split) <;> simp

@[simp] theorem settleDisableChannel_kept (r : Req) (s : State) :
    (settleDisableChannel r s).2.kept = s.kept := by
  simp only [settleDisableChannel]
  (repeat' split) <;> simp

@[simp] theorem settleSetChannelPolicy_kept (r : Req) (s : State) :
    (settleSetChannelPolicy r s).2.kept = s.kept := by
  simp only [settleSetChannelPolicy]
  (repeat' split) <;> simp

@[simp] theorem settleSetZoneBlock_kept (r : Req) (s : State) :
    (settleSetZoneBlock r s).2.kept = s.kept := by
  simp only [settleSetZoneBlock]
  (repeat' split) <;> simp

@[simp] theorem settleLookupAnnouncement_kept (r : Req) (s : State) :
    (settleLookupAnnouncement r s).2.kept = s.kept := by
  simp only [settleLookupAnnouncement]
  split <;> simp

@[simp] theorem settleLookupChannel_kept (r : Req) (s : State) :
    (settleLookupChannel r s).2.kept = s.kept := by
  simp only [settleLookupChannel]
  split <;> simp

@[simp] theorem settleLookupZones_kept (r : Req) (s : State) :
    (settleLookupZones r s).2.kept = s.kept := rfl

@[simp] theorem settleLookupBoard_kept (r : Req) (s : State) :
    (settleLookupBoard r s).2.kept = s.kept := withId_kept s r _ _ _ fun _ => by split <;> rfl

@[simp] theorem returnOnAir_kept (s : State) (c : Nat) :
    (State.returnOnAir s c).kept = s.kept := by
  simp only [State.returnOnAir]
  split <;> simp

@[simp] theorem reportReady_kept (s : State) (c : Nat) :
    (State.reportReady s c).kept = s.kept := by
  simp only [State.reportReady]
  split <;> simp

@[simp] theorem reportNotReady_kept (s : State) (c : Nat) :
    (State.reportNotReady s c).kept = s.kept := by
  simp only [State.reportNotReady]
  split <;> simp

@[simp] theorem settlePaStatusAt_kept (s : State) (c : Nat) (x : PaStatus) :
    (State.settlePaStatus s c x).kept = s.kept := by
  simp only [State.settlePaStatus]
  split <;> simp

@[simp] theorem settlePaDoneAt_kept (s : State) (c token : Nat) :
    (State.settlePaDone s c token).kept = s.kept := by
  simp only [State.settlePaDone]
  split <;> simp

@[simp] theorem settlePaTakenAt_kept (s : State) (c : Nat) (count : Half) :
    (State.settlePaTaken s c count).kept = s.kept := by
  simp [State.settlePaTaken]

@[simp] theorem becomeDue_kept (s : State) (slot : Nat) (a : Announcement) :
    (State.becomeDue s slot a).kept = s.kept := by
  simp [State.becomeDue]

/-! ## Port -/

@[simp] theorem clearLost_kept (s : State) (client : Nat) :
    (State.clearLost s client).kept = s.kept := rfl

@[simp] theorem settleLineStatus_kept (r : Req) (s : State) :
    (settleLineStatus r s).2.kept = s.kept := rfl

end Sys2Proof.Machine
end

