-- ==== Sys2Proof/Laws/Events.lean ====
section
/-! SUPPORT. What ends an event and what a request does as a whole: the boards and the line (`finish`), the port's
exchange (R175), and the operations that change the line description or the clock. -/

namespace Sys2Proof.Machine

/-! ## The end of an event -/

theorem reevaluate_lds (s : State) (p : Nat) : (s.reevaluate p).lds = s.lds := by
  unfold State.reevaluate
  split
  · rfl
  · dsimp only; split <;> split <;> rfl

theorem reevaluate_lck (s : State) (p : Nat) : (s.reevaluate p).lck = s.lck := by
  unfold State.reevaluate
  split
  · rfl
  · dsimp only; split <;> split <;> rfl

theorem reevaluate_rtb (s : State) (p : Nat) : (s.reevaluate p).rtb = s.rtb := by
  unfold State.reevaluate
  split
  · rfl
  · dsimp only; split <;> split <;> rfl

theorem reevaluate_mvt (s : State) (p : Nat) : (s.reevaluate p).mvt = s.mvt := by
  unfold State.reevaluate
  split
  · rfl
  · dsimp only; split <;> split <;> rfl

theorem reevaluate_drg (s : State) (p : Nat) : (s.reevaluate p).drg = s.drg := by
  unfold State.reevaluate
  split
  · rfl
  · dsimp only; split <;> split <;> rfl

theorem reevaluate_tpc (s : State) (p : Nat) : (s.reevaluate p).tpc = s.tpc := by
  unfold State.reevaluate
  split
  · rfl
  · dsimp only; split <;> split <;> rfl

theorem reevaluate_itb (s : State) (p : Nat) : (s.reevaluate p).itb = s.itb := by
  unfold State.reevaluate
  split
  · rfl
  · dsimp only; split <;> split <;> rfl

theorem reevaluate_crp (s : State) (p : Nat) : (s.reevaluate p).crp = s.crp := by
  unfold State.reevaluate
  split
  · rfl
  · dsimp only; split <;> split <;> rfl

theorem reevaluate_pending (s : State) (p : Nat) : (s.reevaluate p).pending = s.pending := by
  unfold State.reevaluate
  split
  · rfl
  · dsimp only; split <;> split <;> rfl

/-- A fold leaves alone what its step leaves alone. -/
theorem foldl_same {α β : Type} (g : State → β) (f : State → α → State) (h : ∀ t a, g (f t a) = g t) (l : List α)
    (s : State) : g (l.foldl f s) = g s := by
  induction l generalizing s with
  | nil => rfl
  | cons a l ih => rw [List.foldl_cons, ih, h]

@[simp] theorem finish_lds (s : State) : s.finish.lds = s.lds :=
  foldl_same (·.lds) _ reevaluate_lds _ s

@[simp] theorem finish_lck (s : State) : s.finish.lck = s.lck :=
  foldl_same (·.lck) _ reevaluate_lck _ s

@[simp] theorem finish_rtb (s : State) : s.finish.rtb = s.rtb :=
  foldl_same (·.rtb) _ reevaluate_rtb _ s

@[simp] theorem finish_mvt (s : State) : s.finish.mvt = s.mvt :=
  foldl_same (·.mvt) _ reevaluate_mvt _ s

@[simp] theorem finish_drg (s : State) : s.finish.drg = s.drg :=
  foldl_same (·.drg) _ reevaluate_drg _ s

@[simp] theorem finish_tpc (s : State) : s.finish.tpc = s.tpc :=
  foldl_same (·.tpc) _ reevaluate_tpc _ s

@[simp] theorem finish_itb (s : State) : s.finish.itb = s.itb :=
  foldl_same (·.itb) _ reevaluate_itb _ s

@[simp] theorem finish_crp (s : State) : s.finish.crp = s.crp :=
  foldl_same (·.crp) _ reevaluate_crp _ s

@[simp] theorem finish_pending (s : State) : s.finish.pending = s.pending :=
  foldl_same (·.pending) _ reevaluate_pending _ s

end Sys2Proof.Machine
end

