-- ==== Sys2Proof/Laws/Live.lean ====
section
/-! SUPPORT. The live records and their handles: a slot number lies in its table, the lists of live records hold exactly
them, a handle of a live slot resolves to it, and handles of different slots differ (R30, R31, R126, R127, R149). -/

namespace Sys2Proof.Machine

variable {α : Type} {n : Nat}

/-- A live slot of a table numbered from 1 stands in the list of slots with their numbers, and only such slots do. -/
theorem mem_slots {β : Type} (v : Vector α n) (g : α → Option β) (i : Nat) (b : β) :
    (i, b) ∈ v.toList.zipIdx.filterMap (fun p => (g p.1).map fun r => (p.2 + 1, r)) ↔
      (get1 v i).bind g = some b := by
  simp only [List.mem_filterMap, Option.map_eq_some_iff, Prod.mk.injEq, Prod.exists, List.mem_zipIdx_iff_getElem?, get1]
  constructor
  · rintro ⟨a, j, h, b', hb, rfl, rfl⟩
    simp [h, hb]
  · intro h
    split at h
    · simp at h
    · rename_i h0
      obtain ⟨a, ha, hb⟩ := Option.bind_eq_some_iff.1 h
      exact ⟨a, i - 1, ha, b, hb, by omega, rfl⟩

theorem mem_liveRuns {s : State} {i : Nat} {x : Run} : (i, x) ∈ s.liveRuns ↔ s.runAt i = some x := mem_slots _ _ i x

theorem mem_liveIncs {s : State} {i : Nat} {x : Incident} : (i, x) ∈ s.liveIncs ↔ s.incAt i = some x :=
  mem_slots _ _ i x

theorem mem_liveAnns {s : State} {i : Nat} {a : Announcement} : (i, a) ∈ s.liveAnns ↔ s.annAt i = some a :=
  mem_slots _ _ i a

/-- What holds of the listed live runs holds of every live run. -/
theorem forall_runs {s : State} {P : Nat → Run → Prop} (h : ∀ p ∈ s.liveRuns, P p.1 p.2) (i : Nat) (x : Run)
    (hx : s.runAt i = some x) : P i x := h (i, x) (mem_liveRuns.2 hx)

theorem forall_incs {s : State} {P : Nat → Incident → Prop} (h : ∀ p ∈ s.liveIncs, P p.1 p.2) (i : Nat) (x : Incident)
    (hx : s.incAt i = some x) : P i x := h (i, x) (mem_liveIncs.2 hx)

theorem forall_anns {s : State} {P : Nat → Announcement → Prop} (h : ∀ p ∈ s.liveAnns, P p.1 p.2) (i : Nat)
    (a : Announcement) (ha : s.annAt i = some a) : P i a := h (i, a) (mem_liveAnns.2 ha)

theorem runAt_range {s : State} {i : Nat} {x : Run} (h : s.runAt i = some x) : 1 ≤ i ∧ i ≤ 128 := by
  obtain ⟨y, hy, -⟩ := Option.bind_eq_some_iff.1 h
  exact get1_some_range hy

theorem incAt_range {s : State} {i : Nat} {x : Incident} (h : s.incAt i = some x) : 1 ≤ i ∧ i ≤ 48 := by
  obtain ⟨y, hy, -⟩ := Option.bind_eq_some_iff.1 h
  exact get1_some_range hy

theorem annAt_range {s : State} {i : Nat} {a : Announcement} (h : s.annAt i = some a) : 1 ≤ i ∧ i ≤ 96 := by
  obtain ⟨y, hy, -⟩ := Option.bind_eq_some_iff.1 h
  exact get1_some_range hy

theorem sub_range {s : State} {i : Nat} {x : SubLive} (h : s.sub i = some x) : 1 ≤ i ∧ i ≤ 8 := look_some_range h

theorem sec_range {s : State} {i : Nat} {x : SecLive} (h : s.sec i = some x) : 1 ≤ i ∧ i ≤ 16 := look_some_range h

theorem claim_range {s : State} {i : Nat} {c : Claim} (h : s.claim i = some c) : 1 ≤ i ∧ i ≤ 128 := look_some_range h

/-- Nobody waits when the eight substations' queues are empty. -/
theorem nobodyWaits_of {s : State} (h : ∀ k ∈ ids 8, (s.sub k).all (·.queue.isEmpty) = true) : NobodyWaits s := by
  intro k x hx
  have := h k (mem_ids.2 (sub_range hx))
  rw [hx] at this
  simpa using this

/-- A run waits nowhere when nobody waits. -/
theorem NobodyWaits.waitsNowhere {s : State} (h : NobodyWaits s) (i : Nat) : WaitsNowhere s i := by
  intro k x hx e he
  rw [h k x hx] at he
  simp at he

/-- The handle of a slot within a table names that slot. -/
theorem mkHandle_mod {g i : Nat} (h : i < 256) : mkHandle g i % 256 = i := by unfold mkHandle; omega

/-- A handle of a live slot resolves to it. -/
theorem resolveIn_mkHandle {m : Nat} {f : Nat → Option Nat} {g i : Nat} (h : 1 ≤ i) (h' : i ≤ m) (hm : m < 256)
    (hf : f i = some g) : resolveIn m f (mkHandle g i) = .live i := by
  have h1 : mkHandle g i % 256 = i := mkHandle_mod (by omega)
  have h2 : mkHandle g i ≠ 0 := by unfold mkHandle; omega
  have h3 : mkHandle g i / 256 = g := by unfold mkHandle; omega
  simp only [resolveIn, h2, if_false, h1]
  rw [if_neg (by omega), hf]
  simp [h3]

/-- A handle that resolves to a live slot is that slot's handle. -/
theorem resolveIn_live {m : Nat} {f : Nat → Option Nat} {h i : Nat} (hl : resolveIn m f h = .live i) :
    1 ≤ i ∧ i ≤ m ∧ ∃ g, f i = some g ∧ h = mkHandle g i := by
  unfold resolveIn at hl
  split at hl
  · simp at hl
  · split at hl
    · simp at hl
    · split at hl
      · simp at hl
      · rename_i h1 g hg
        split at hl
        · rename_i h2
          simp only [Resolved.live.injEq] at hl
          subst hl
          refine ⟨by omega, by omega, g, hg, ?_⟩
          unfold mkHandle; omega
        · simp at hl

theorem resolveRun_runHandle {s : State} {i : Nat} {x : Run} (h : s.runAt i = some x) :
    s.resolveRun (s.runHandle i) = .live i := by
  have hr := runAt_range h
  obtain ⟨y, hy, hx⟩ := Option.bind_eq_some_iff.1 h
  have : s.runHandle i = mkHandle y.gen i := by simp [State.runHandle, hy]
  rw [this]
  exact resolveIn_mkHandle hr.1 hr.2 (by decide) (by simp [hy, hx])

theorem resolveInc_incHandle {s : State} {i : Nat} {x : Incident} (h : s.incAt i = some x) :
    s.resolveInc (s.incHandle i) = .live i := by
  have hr := incAt_range h
  obtain ⟨y, hy, hx⟩ := Option.bind_eq_some_iff.1 h
  have : s.incHandle i = mkHandle y.gen i := by simp [State.incHandle, hy]
  rw [this]
  exact resolveIn_mkHandle hr.1 hr.2 (by decide) (by simp [hy, hx])

theorem resolveAnn_annHandle {s : State} {i : Nat} {a : Announcement} (h : s.annAt i = some a) :
    s.resolveAnn (s.annHandle i) = .live i := by
  have hr := annAt_range h
  obtain ⟨y, hy, hx⟩ := Option.bind_eq_some_iff.1 h
  have : s.annHandle i = mkHandle y.gen i := by simp [State.annHandle, hy]
  rw [this]
  exact resolveIn_mkHandle hr.1 hr.2 (by decide) (by simp [hy, hx])

/-- A handle that resolves to a live run is that of its slot. -/
theorem resolveRun_live {s : State} {h i : Nat} (hl : s.resolveRun h = .live i) :
    h = s.runHandle i ∧ ∃ x, s.runAt i = some x := by
  obtain ⟨-, -, g, hg, rfl⟩ := resolveIn_live hl
  obtain ⟨y, hy, hx⟩ := Option.bind_eq_some_iff.1 hg
  obtain ⟨x, hr, rfl⟩ := Option.map_eq_some_iff.1 hx
  exact ⟨by simp [State.runHandle, hy], x, by simp [State.runAt, hy, hr]⟩

theorem resolveInc_live {s : State} {h i : Nat} (hl : s.resolveInc h = .live i) :
    h = s.incHandle i ∧ ∃ x, s.incAt i = some x := by
  obtain ⟨-, -, g, hg, rfl⟩ := resolveIn_live hl
  obtain ⟨y, hy, hx⟩ := Option.bind_eq_some_iff.1 hg
  obtain ⟨x, hr, rfl⟩ := Option.map_eq_some_iff.1 hx
  exact ⟨by simp [State.incHandle, hy], x, by simp [State.incAt, hy, hr]⟩

theorem resolveAnn_live {s : State} {h i : Nat} (hl : s.resolveAnn h = .live i) :
    h = s.annHandle i ∧ ∃ a, s.annAt i = some a := by
  obtain ⟨-, -, g, hg, rfl⟩ := resolveIn_live hl
  obtain ⟨y, hy, hx⟩ := Option.bind_eq_some_iff.1 hg
  obtain ⟨x, hr, rfl⟩ := Option.map_eq_some_iff.1 hx
  exact ⟨by simp [State.annHandle, hy], x, by simp [State.annAt, hy, hr]⟩

/-- Handles of different run slots differ. -/
theorem runHandle_ne {s t : State} {i j : Nat} (hi : i ≤ 128) (hj : j ≤ 128) (h : i ≠ j) : s.runHandle i ≠ t.runHandle j := by
  intro e
  have := congrArg (· % 256) e
  simp only [State.runHandle, mkHandle_mod (by omega : i < 256), mkHandle_mod (by omega : j < 256)] at this
  exact h this

/-- Handles of different announcement slots differ. -/
theorem annHandle_ne {s t : State} {i j : Nat} (hi : i ≤ 96) (hj : j ≤ 96) (h : i ≠ j) : s.annHandle i ≠ t.annHandle j := by
  intro e
  have := congrArg (· % 256) e
  simp only [State.annHandle, mkHandle_mod (by omega : i < 256), mkHandle_mod (by omega : j < 256)] at this
  exact h this

end Sys2Proof.Machine
end

