-- ==== Sys2Proof/Laws/Memory.lean ====
section
/-! SUPPORT. The laws of the rings' memory: what a read gives after a slot is written, and that a write keeps the
canonical form. -/

namespace Sys2Proof.Machine

/-! ## The canonical form as a statement about lists -/

/-- The canonical form: addresses strictly rising, no zero byte listed. -/
theorem Memory.wf_iff (m : List Host.Cell) :
    Memory.wf m = true ↔ m.Pairwise (fun a b => a.1 < b.1) ∧ ∀ c ∈ m, c.2 ≠ 0 := by
  induction m with
  | nil => simp [Memory.wf]
  | cons c m ih =>
    cases m with
    | nil => simp [Memory.wf]
    | cons d m =>
      simp only [Memory.wf, Bool.and_eq_true, ih, List.pairwise_cons, List.mem_cons, bne_iff_ne, decide_eq_true_eq,
        forall_eq_or_imp]
      constructor
      · rintro ⟨⟨hc, hcd⟩, ⟨hd, hm⟩, hz⟩
        exact ⟨⟨⟨hcd, fun a ha => lt_trans hcd (hd a ha)⟩, hd, hm⟩, hc, hz⟩
      · rintro ⟨⟨⟨hcd, -⟩, hd, hm⟩, hc, hz⟩
        exact ⟨⟨hc, hcd⟩, ⟨hd, hm⟩, hz⟩

/-! ## Cells -/

theorem Memory.cells_bounds {base : Nat} {l : List Byte} {c : Host.Cell} (h : c ∈ Memory.cells base l) :
    base ≤ c.1 ∧ c.1 < base + l.length ∧ c.2 ≠ 0 := by
  induction l generalizing base with
  | nil => cases h
  | cons b l ih =>
    unfold Memory.cells at h
    split at h
    · obtain ⟨h₁, h₂, h₃⟩ := ih h; simp only [List.length_cons]; exact ⟨by omega, by omega, h₃⟩
    · next hb =>
      cases h with
      | head => exact ⟨le_refl _, by simp, hb⟩
      | tail _ h =>
        obtain ⟨h₁, h₂, h₃⟩ := ih h; simp only [List.length_cons]; exact ⟨by omega, by omega, h₃⟩

theorem Memory.cells_pairwise (base : Nat) (l : List Byte) :
    (Memory.cells base l).Pairwise fun a b => a.1 < b.1 := by
  induction l generalizing base with
  | nil => exact List.Pairwise.nil
  | cons b l ih =>
    unfold Memory.cells
    split
    · exact ih _
    · exact List.Pairwise.cons (fun c hc => by have := (Memory.cells_bounds hc).1; dsimp only; omega) (ih _)

theorem Memory.find_cells (base : Nat) (l : List Byte) (a : Nat) (h : base ≤ a) :
    (((Memory.cells base l).find? fun c => c.1 == a).map (·.2)).getD 0 = l.getD (a - base) 0 := by
  induction l generalizing base with
  | nil => simp [Memory.cells]
  | cons b l ih =>
    unfold Memory.cells
    by_cases hab : a = base
    · subst hab
      split
      · next hb =>
        have : (Memory.cells (a + 1) l).find? (fun c => c.1 == a) = none := by
          rw [List.find?_eq_none]
          intro c hc
          have := (Memory.cells_bounds hc).1
          simp; omega
        simp [this, hb]
      · simp
    · have hs : a - base = (a - (base + 1)) + 1 := by omega
      split
      · rw [ih (base + 1) (by omega), hs]; simp
      · rw [List.find?_cons_of_neg (by simpa using fun e => hab e.symm), ih (base + 1) (by omega), hs]; simp

/-! ## Writing a slot -/

theorem Memory.find_filter_ge (m : List Host.Cell) (a : Nat) (p : Host.Cell → Bool)
    (h : ∀ c : Host.Cell, c.1 = a → p c = true) :
    (m.filter p).find? (fun c => c.1 == a) = m.find? fun c => c.1 == a := by
  induction m with
  | nil => rfl
  | cons c m ih =>
    by_cases hc : c.1 = a
    · simp [List.filter_cons_of_pos (h c hc), hc]
    · by_cases hp : p c
      · rw [List.filter_cons_of_pos hp, List.find?_cons_of_neg (by simpa using hc),
          List.find?_cons_of_neg (by simpa using hc), ih]
      · rw [List.filter_cons_of_neg hp, List.find?_cons_of_neg (by simpa using hc), ih]

theorem Memory.find_filter_none (m : List Host.Cell) (a : Nat) (p : Host.Cell → Bool)
    (h : ∀ c : Host.Cell, c.1 = a → p c = false) : (m.filter p).find? (fun c => c.1 == a) = none := by
  rw [List.find?_eq_none]
  intro c hc
  have hp := (List.mem_filter.1 hc).2
  simp only [beq_iff_eq]
  intro e
  rw [h c e] at hp
  cases hp

/-- A byte of the slot just written reads as written; bytes past those given read zero. -/
theorem Memory.read_writeSlot_self (m : List Host.Cell) (slot i : Nat) (l : List Byte) (h : i < Config.slotBytes) :
    Memory.read (Memory.writeSlot m slot l) (slot * Config.slotBytes + i) = l.getD i 0 := by
  simp only [Config.slotBytes] at h ⊢
  unfold Memory.read Memory.writeSlot
  rw [List.find?_append, List.find?_append,
    Memory.find_filter_none m _ _ (fun c hc => by simp [Config.slotBytes, hc]),
    Memory.find_filter_none m _ _ (fun c hc => by simp [Config.slotBytes, hc]; omega)]
  simp only [Option.none_or, Option.or_none, Config.slotBytes]
  rw [Memory.find_cells _ _ _ (by omega)]
  simp [h]

/-- A byte outside the slot just written reads as before. -/
theorem Memory.read_writeSlot_other (m : List Host.Cell) (slot a : Nat) (l : List Byte)
    (h : a < slot * Config.slotBytes ∨ (slot + 1) * Config.slotBytes ≤ a) :
    Memory.read (Memory.writeSlot m slot l) a = Memory.read m a := by
  simp only [Config.slotBytes] at h
  have hc : (Memory.cells (slot * 256) (l.take 256)).find? (fun c => c.1 == a) = none := by
    rw [List.find?_eq_none]
    intro c hc
    have := Memory.cells_bounds hc
    simp only [List.length_take] at this
    simp only [beq_iff_eq]
    omega
  unfold Memory.read Memory.writeSlot
  rw [List.find?_append, List.find?_append, Config.slotBytes, hc]
  rcases h with h | h
  · rw [Memory.find_filter_ge m a _ (fun c hc => decide_eq_true (by rw [hc]; exact h)),
      Memory.find_filter_none m a (fun c => decide ((slot + 1) * 256 ≤ c.1))
        (fun c hc => decide_eq_false (by rw [hc]; omega))]
    simp
  · rw [Memory.find_filter_none m a _ (fun c hc => decide_eq_false (by rw [hc]; omega)),
      Memory.find_filter_ge m a (fun c => decide ((slot + 1) * 256 ≤ c.1))
        (fun c hc => decide_eq_true (by rw [hc]; exact h))]
    simp

/-- Writing a slot keeps the canonical form. -/
theorem Memory.writeSlot_wf (m : List Host.Cell) (slot : Nat) (l : List Byte) (h : Memory.wf m = true) :
    Memory.wf (Memory.writeSlot m slot l) = true := by
  rw [Memory.wf_iff] at h ⊢
  obtain ⟨hp, hz⟩ := h
  unfold Memory.writeSlot
  simp only [Config.slotBytes]
  constructor
  · rw [List.pairwise_append, List.pairwise_append]
    refine ⟨⟨hp.filter _, Memory.cells_pairwise _ _, ?_⟩, hp.filter _, ?_⟩
    · intro a ha b hb
      have := of_decide_eq_true (List.mem_filter.1 ha).2
      have := (Memory.cells_bounds hb).1
      omega
    · intro a ha b hb
      have hb' := of_decide_eq_true (List.mem_filter.1 hb).2
      rcases List.mem_append.1 ha with ha | ha
      · have := of_decide_eq_true (List.mem_filter.1 ha).2; omega
      · have := Memory.cells_bounds ha
        simp only [List.length_take] at this
        omega
  · intro c hc
    rcases List.mem_append.1 hc with hc | hc
    · rcases List.mem_append.1 hc with hc | hc
      · exact hz c (List.mem_of_mem_filter hc)
      · exact (Memory.cells_bounds hc).2.2
    · exact hz c (List.mem_of_mem_filter hc)

end Sys2Proof.Machine
end

