-- ==== Sys2Proof/Laws/PerInstr.lean ====
section
/-! SUPPORT. A statement about every command as syntax, by one lemma for each constructor of `Instr`. -/

namespace Sys2Proof.Laws

/-- A request command is well formed exactly when its slot contents fit the slot, and its kind's code is one of R194's. -/
def RequestWf.Statement (i : Instr) : Prop :=
  ∀ k r, i.request? = some (k, r) → (WellFormed i ↔ r.wf) ∧ 1 ≤ k.code ∧ k.code ≤ Machine.lastRequestCode

/-- A request command holds it by its kind. -/
theorem requestWf_request {i : Instr} {k : Machine.ReqKind} {r : Req} (h : i.request? = some (k, r))
    (hw : WellFormed i ↔ r.wf) : RequestWf.Statement i := by
  intro k' r' h'
  rw [h] at h'
  obtain ⟨rfl, rfl⟩ := Prod.mk.inj (Option.some.inj h')
  exact ⟨hw, by cases k <;> decide⟩

/-- A command that is no request of a known kind holds it. -/
theorem requestWf_other {i : Instr} (h : i.request? = none) : RequestWf.Statement i := by
  intro k r h'
  rw [h] at h'
  exact absurd h' (by simp)

theorem RequestWf.defineTimingPoint (r : Req) : RequestWf.Statement (.defineTimingPoint r) :=
  requestWf_request rfl Iff.rfl

theorem RequestWf.defineSegment (r : Req) : RequestWf.Statement (.defineSegment r) :=
  requestWf_request rfl Iff.rfl

theorem RequestWf.defineRoute (r : Req) : RequestWf.Statement (.defineRoute r) :=
  requestWf_request rfl Iff.rfl

theorem RequestWf.defineMerge (r : Req) : RequestWf.Statement (.defineMerge r) :=
  requestWf_request rfl Iff.rfl

theorem RequestWf.defineSubstation (r : Req) : RequestWf.Statement (.defineSubstation r) :=
  requestWf_request rfl Iff.rfl

theorem RequestWf.defineSection (r : Req) : RequestWf.Statement (.defineSection r) :=
  requestWf_request rfl Iff.rfl

theorem RequestWf.defineTrainClass (r : Req) : RequestWf.Statement (.defineTrainClass r) :=
  requestWf_request rfl Iff.rfl

theorem RequestWf.defineZoneGroup (r : Req) : RequestWf.Statement (.defineZoneGroup r) :=
  requestWf_request rfl Iff.rfl

theorem RequestWf.defineDeskClass (r : Req) : RequestWf.Statement (.defineDeskClass r) :=
  requestWf_request rfl Iff.rfl

theorem RequestWf.mapIncidentKind (r : Req) : RequestWf.Statement (.mapIncidentKind r) :=
  requestWf_request rfl Iff.rfl

theorem RequestWf.defineClient (r : Req) : RequestWf.Statement (.defineClient r) :=
  requestWf_request rfl Iff.rfl

theorem RequestWf.setLineParameter (r : Req) : RequestWf.Statement (.setLineParameter r) :=
  requestWf_request rfl Iff.rfl

theorem RequestWf.defineHeadwayBands (r : Req) : RequestWf.Statement (.defineHeadwayBands r) :=
  requestWf_request rfl Iff.rfl

theorem RequestWf.enterService (r : Req) : RequestWf.Statement (.enterService r) :=
  requestWf_request rfl Iff.rfl

theorem RequestWf.returnToSetup (r : Req) : RequestWf.Statement (.returnToSetup r) :=
  requestWf_request rfl Iff.rfl

theorem RequestWf.lookupLine (r : Req) : RequestWf.Statement (.lookupLine r) :=
  requestWf_request rfl Iff.rfl

theorem RequestWf.setClock (r : Req) : RequestWf.Statement (.setClock r) :=
  requestWf_request rfl Iff.rfl

theorem RequestWf.endDay (r : Req) : RequestWf.Statement (.endDay r) :=
  requestWf_request rfl Iff.rfl

theorem RequestWf.loadRun (r : Req) : RequestWf.Statement (.loadRun r) :=
  requestWf_request rfl Iff.rfl

theorem RequestWf.amendRun (r : Req) : RequestWf.Statement (.amendRun r) :=
  requestWf_request rfl Iff.rfl

theorem RequestWf.cancelRun (r : Req) : RequestWf.Statement (.cancelRun r) :=
  requestWf_request rfl Iff.rfl

theorem RequestWf.retireRun (r : Req) : RequestWf.Statement (.retireRun r) :=
  requestWf_request rfl Iff.rfl

theorem RequestWf.lookupRun (r : Req) : RequestWf.Statement (.lookupRun r) :=
  requestWf_request rfl Iff.rfl

theorem RequestWf.findRun (r : Req) : RequestWf.Statement (.findRun r) :=
  requestWf_request rfl Iff.rfl

theorem RequestWf.lookupCounters (r : Req) : RequestWf.Statement (.lookupCounters r) :=
  requestWf_request rfl Iff.rfl

theorem RequestWf.clearCounters (r : Req) : RequestWf.Statement (.clearCounters r) :=
  requestWf_request rfl Iff.rfl

theorem RequestWf.lookupPoint (r : Req) : RequestWf.Statement (.lookupPoint r) :=
  requestWf_request rfl Iff.rfl

theorem RequestWf.lookupSegment (r : Req) : RequestWf.Statement (.lookupSegment r) :=
  requestWf_request rfl Iff.rfl

theorem RequestWf.holdRun (r : Req) : RequestWf.Statement (.holdRun r) :=
  requestWf_request rfl Iff.rfl

theorem RequestWf.unholdRun (r : Req) : RequestWf.Statement (.unholdRun r) :=
  requestWf_request rfl Iff.rfl

theorem RequestWf.releaseRun (r : Req) : RequestWf.Statement (.releaseRun r) :=
  requestWf_request rfl Iff.rfl

theorem RequestWf.setRegulation (r : Req) : RequestWf.Statement (.setRegulation r) :=
  requestWf_request rfl Iff.rfl

theorem RequestWf.lookupRegulation (r : Req) : RequestWf.Statement (.lookupRegulation r) :=
  requestWf_request rfl Iff.rfl

theorem RequestWf.setWithhold (r : Req) : RequestWf.Statement (.setWithhold r) :=
  requestWf_request rfl Iff.rfl

theorem RequestWf.isolateSection (r : Req) : RequestWf.Statement (.isolateSection r) :=
  requestWf_request rfl Iff.rfl

theorem RequestWf.energiseSection (r : Req) : RequestWf.Statement (.energiseSection r) :=
  requestWf_request rfl Iff.rfl

theorem RequestWf.lookupSubstation (r : Req) : RequestWf.Statement (.lookupSubstation r) :=
  requestWf_request rfl Iff.rfl

theorem RequestWf.lookupSection (r : Req) : RequestWf.Statement (.lookupSection r) :=
  requestWf_request rfl Iff.rfl

theorem RequestWf.raiseIncident (r : Req) : RequestWf.Statement (.raiseIncident r) :=
  requestWf_request rfl Iff.rfl

theorem RequestWf.ackIncident (r : Req) : RequestWf.Statement (.ackIncident r) :=
  requestWf_request rfl Iff.rfl

theorem RequestWf.addRestriction (r : Req) : RequestWf.Statement (.addRestriction r) :=
  requestWf_request rfl Iff.rfl

theorem RequestWf.liftRestriction (r : Req) : RequestWf.Statement (.liftRestriction r) :=
  requestWf_request rfl Iff.rfl

theorem RequestWf.linkRun (r : Req) : RequestWf.Statement (.linkRun r) :=
  requestWf_request rfl Iff.rfl

theorem RequestWf.linkAnnouncement (r : Req) : RequestWf.Statement (.linkAnnouncement r) :=
  requestWf_request rfl Iff.rfl

theorem RequestWf.clearIncident (r : Req) : RequestWf.Statement (.clearIncident r) :=
  requestWf_request rfl Iff.rfl

theorem RequestWf.retireIncident (r : Req) : RequestWf.Statement (.retireIncident r) :=
  requestWf_request rfl Iff.rfl

theorem RequestWf.lookupIncident (r : Req) : RequestWf.Statement (.lookupIncident r) :=
  requestWf_request rfl Iff.rfl

theorem RequestWf.lookupDesk (r : Req) : RequestWf.Statement (.lookupDesk r) :=
  requestWf_request rfl Iff.rfl

theorem RequestWf.postAnnouncement (r : Req) : RequestWf.Statement (.postAnnouncement r) :=
  requestWf_request rfl Iff.rfl

theorem RequestWf.withdrawAnnouncement (r : Req) : RequestWf.Statement (.withdrawAnnouncement r) :=
  requestWf_request rfl Iff.rfl

theorem RequestWf.setClassMap (r : Req) : RequestWf.Statement (.setClassMap r) :=
  requestWf_request rfl Iff.rfl

theorem RequestWf.enableChannel (r : Req) : RequestWf.Statement (.enableChannel r) :=
  requestWf_request rfl Iff.rfl

theorem RequestWf.disableChannel (r : Req) : RequestWf.Statement (.disableChannel r) :=
  requestWf_request rfl Iff.rfl

theorem RequestWf.setChannelPolicy (r : Req) : RequestWf.Statement (.setChannelPolicy r) :=
  requestWf_request rfl Iff.rfl

theorem RequestWf.setZoneBlock (r : Req) : RequestWf.Statement (.setZoneBlock r) :=
  requestWf_request rfl Iff.rfl

theorem RequestWf.lookupAnnouncement (r : Req) : RequestWf.Statement (.lookupAnnouncement r) :=
  requestWf_request rfl Iff.rfl

theorem RequestWf.lookupChannel (r : Req) : RequestWf.Statement (.lookupChannel r) :=
  requestWf_request rfl Iff.rfl

theorem RequestWf.lookupZones (r : Req) : RequestWf.Statement (.lookupZones r) :=
  requestWf_request rfl Iff.rfl

theorem RequestWf.lookupBoard (r : Req) : RequestWf.Statement (.lookupBoard r) :=
  requestWf_request rfl Iff.rfl

theorem RequestWf.lineStatus (r : Req) : RequestWf.Statement (.lineStatus r) :=
  requestWf_request rfl Iff.rfl

theorem RequestWf.malformedRequest (kind : Byte) (r : Req) : RequestWf.Statement (.malformedRequest kind r) :=
  requestWf_other rfl

theorem RequestWf.arrived (run : Half) (point : Byte) : RequestWf.Statement (.arrived run point) :=
  requestWf_other rfl

theorem RequestWf.departed (run : Half) (point : Byte) : RequestWf.Statement (.departed run point) :=
  requestWf_other rfl

theorem RequestWf.passed (run : Half) (point : Byte) : RequestWf.Statement (.passed run point) :=
  requestWf_other rfl

theorem RequestWf.breaker (section_ : Byte) (pos : BreakerPos) : RequestWf.Statement (.breaker section_ pos) :=
  requestWf_other rfl

theorem RequestWf.substation (sub : Byte) (st : SupplyState) : RequestWf.Statement (.substation sub st) :=
  requestWf_other rfl

theorem RequestWf.paStatus (channel : Byte) (st : PaStatus) : RequestWf.Statement (.paStatus channel st) :=
  requestWf_other rfl

theorem RequestWf.paDone (channel : Byte) (token : Byte) : RequestWf.Statement (.paDone channel token) :=
  requestWf_other rfl

theorem RequestWf.paTaken (channel : Byte) (count : Half) : RequestWf.Statement (.paTaken channel count) :=
  requestWf_other rfl

theorem RequestWf.badFrame (bytes : List Byte) : RequestWf.Statement (.badFrame bytes) :=
  requestWf_other rfl

theorem RequestWf.requestProducerWrite (value : Half) : RequestWf.Statement (.requestProducerWrite value) :=
  requestWf_other rfl

theorem RequestWf.answerConsumerWrite (value : Half) : RequestWf.Statement (.answerConsumerWrite value) :=
  requestWf_other rfl

theorem RequestWf.portReset : RequestWf.Statement .portReset :=
  requestWf_other rfl

theorem RequestWf.discardedRegisterWrite (w : DiscardedWrite) : RequestWf.Statement (.discardedRegisterWrite w) :=
  requestWf_other rfl

theorem RequestWf.powerOn : RequestWf.Statement .powerOn :=
  requestWf_other rfl

theorem RequestWf.minuteBoundary : RequestWf.Statement .minuteBoundary :=
  requestWf_other rfl

theorem RequestWf.clockEnd : RequestWf.Statement .clockEnd :=
  requestWf_other rfl

theorem RequestWf.placementTimerExpiry (slot : Nat) : RequestWf.Statement (.placementTimerExpiry slot) :=
  requestWf_other rfl

theorem RequestWf.releaseEvent (slot : Nat) : RequestWf.Statement (.releaseEvent slot) :=
  requestWf_other rfl

theorem RequestWf.retry (slot : Nat) : RequestWf.Statement (.retry slot) :=
  requestWf_other rfl

theorem RequestWf.departureTimeout (slot : Nat) : RequestWf.Statement (.departureTimeout slot) :=
  requestWf_other rfl

theorem RequestWf.mergeFreeTimerExpiry (merge : Nat) : RequestWf.Statement (.mergeFreeTimerExpiry merge) :=
  requestWf_other rfl

theorem RequestWf.describerStaleTimerExpiry : RequestWf.Statement .describerStaleTimerExpiry :=
  requestWf_other rfl

theorem RequestWf.claimTimerExpiry (slot : Nat) : RequestWf.Statement (.claimTimerExpiry slot) :=
  requestWf_other rfl

theorem RequestWf.drainTimerExpiry (section_ : Nat) : RequestWf.Statement (.drainTimerExpiry section_) :=
  requestWf_other rfl

theorem RequestWf.confirmTimerExpiry (section_ : Nat) : RequestWf.Statement (.confirmTimerExpiry section_) :=
  requestWf_other rfl

theorem RequestWf.escalationTimerExpiry (slot : Nat) : RequestWf.Statement (.escalationTimerExpiry slot) :=
  requestWf_other rfl

theorem RequestWf.startTimerExpiry (slot : Nat) : RequestWf.Statement (.startTimerExpiry slot) :=
  requestWf_other rfl

theorem RequestWf.repeatTimerExpiry (slot : Nat) : RequestWf.Statement (.repeatTimerExpiry slot) :=
  requestWf_other rfl

theorem RequestWf.announcementExpiry (slot : Nat) : RequestWf.Statement (.announcementExpiry slot) :=
  requestWf_other rfl

theorem RequestWf.noticeWrite : RequestWf.Statement .noticeWrite :=
  requestWf_other rfl

theorem RequestWf.frameTransmitEnd : RequestWf.Statement .frameTransmitEnd :=
  requestWf_other rfl

theorem RequestWf.skipMarkingOnLoad (slot : Nat) : RequestWf.Statement (.skipMarkingOnLoad slot) :=
  requestWf_other rfl

theorem RequestWf.clockAdvance : RequestWf.Statement .clockAdvance :=
  requestWf_other rfl

end Sys2Proof.Laws
end

