-- ==== Sys2Proof/Laws/Port.lean ====
section
/-! SUPPORT. What the end of an event does when no board is marked, and what a request does as a whole: it waits, it is
refused at the port, or its owner settles it and the answer is written (R175 to R178). -/

namespace Sys2Proof.Machine

/-! ## The end of an event -/

/-- With no board marked, an event ends with the line alone. -/
theorem finish_clean (s : State) (h : s.piu.dirty = []) : s.finish = { s with fli := s.fli.startFrame } := by
  cases s with | mk lds lck rtb mvt drg tpc itb piu crp fli pending =>
  cases piu with | mk a b c d e dirty =>
  have : dirty = [] := h
  subst this
  have hf : ((ids 32).filter fun p => ([] : List Nat).contains p) = [] := by simp
  simp only [State.finish, State.flushBoards, State.onFli, State.unmarkBoards, State.onPiu, hf, List.foldl_nil]

/-- No event leaves a board marked. -/
@[simp] theorem finish_dirty (s : State) : s.finish.piu.dirty = [] := rfl

theorem reevaluate_piu (s : State) (p : Nat) :
    (s.reevaluate p).piu.slots = s.piu.slots ∧ (s.reevaluate p).piu.channels = s.piu.channels ∧
      (s.reevaluate p).piu.zones = s.piu.zones ∧ (s.reevaluate p).piu.classMap = s.piu.classMap := by
  unfold State.reevaluate
  split
  · exact ⟨rfl, rfl, rfl, rfl⟩
  · dsimp only; split <;> split <;> exact ⟨rfl, rfl, rfl, rfl⟩

@[simp] theorem finish_slots (s : State) : s.finish.piu.slots = s.piu.slots :=
  foldl_same (·.piu.slots) _ (fun t p => (reevaluate_piu t p).1) _ s

@[simp] theorem finish_channels (s : State) : s.finish.piu.channels = s.piu.channels :=
  foldl_same (·.piu.channels) _ (fun t p => (reevaluate_piu t p).2.1) _ s

@[simp] theorem finish_zones (s : State) : s.finish.piu.zones = s.piu.zones :=
  foldl_same (·.piu.zones) _ (fun t p => (reevaluate_piu t p).2.2.1) _ s

@[simp] theorem finish_classMap (s : State) : s.finish.piu.classMap = s.piu.classMap :=
  foldl_same (·.piu.classMap) _ (fun t p => (reevaluate_piu t p).2.2.2) _ s

/-- A field frame that begins takes one order from one queue and changes nothing else of the interface. -/
theorem startFrame_cases (f : Fli) :
    f.startFrame = f ∨ ∃ st o rest, f.sending = none ∧ f.queue st = o :: rest ∧
      f.startFrame = { f.setQueue st rest with sending := some o.frame, rotation := st } := by
  unfold Fli.startFrame
  split
  · exact .inl rfl
  · split
    · exact .inl rfl
    · split
      · exact .inl rfl
      · exact .inr ⟨_, _, _, by assumption, by assumption, rfl⟩

theorem setQueue_fields (f : Fli) (st : Stream) (q : List Order) :
    (f.setQueue st q).rx = f.rx ∧ (f.setQueue st q).badFrames = f.badFrames ∧
      (f.setQueue st q).unmatched = f.unmatched := by cases st <;> exact ⟨rfl, rfl, rfl⟩

@[simp] theorem startFrame_rx (f : Fli) : f.startFrame.rx = f.rx := by
  obtain h | ⟨st, o, rest, -, -, h⟩ := startFrame_cases f <;> rw [h]
  exact (setQueue_fields f st rest).1

@[simp] theorem startFrame_badFrames (f : Fli) : f.startFrame.badFrames = f.badFrames := by
  obtain h | ⟨st, o, rest, -, -, h⟩ := startFrame_cases f <;> rw [h]
  exact (setQueue_fields f st rest).2.1

@[simp] theorem startFrame_unmatched (f : Fli) : f.startFrame.unmatched = f.unmatched := by
  obtain h | ⟨st, o, rest, -, -, h⟩ := startFrame_cases f <;> rw [h]
  exact (setQueue_fields f st rest).2.2

theorem reevaluate_fli (s : State) (p : Nat) :
    (s.reevaluate p).fli.rx = s.fli.rx ∧ (s.reevaluate p).fli.badFrames = s.fli.badFrames ∧
      (s.reevaluate p).fli.unmatched = s.fli.unmatched := by
  unfold State.reevaluate
  split
  · exact ⟨rfl, rfl, rfl⟩
  · dsimp only; split <;> split <;> exact ⟨rfl, rfl, rfl⟩

@[simp] theorem finish_rx (s : State) : s.finish.fli.rx = s.fli.rx :=
  (startFrame_rx _).trans (foldl_same (·.fli.rx) _ (fun t p => (reevaluate_fli t p).1) _ s)

@[simp] theorem finish_badFrames (s : State) : s.finish.fli.badFrames = s.fli.badFrames :=
  (startFrame_badFrames _).trans (foldl_same (·.fli.badFrames) _ (fun t p => (reevaluate_fli t p).2.1) _ s)

@[simp] theorem finish_unmatched (s : State) : s.finish.fli.unmatched = s.fli.unmatched :=
  (startFrame_unmatched _).trans (foldl_same (·.fli.unmatched) _ (fun t p => (reevaluate_fli t p).2.2) _ s)

/-- After the streams of a queue's orders: what a stream's queue is when a frame may have begun (R189). -/
theorem startFrame_queue (f : Fli) (st : Stream) :
    f.startFrame.queue st = f.queue st ∨
      (f.sending = none ∧ ∃ o, f.queue st = o :: f.startFrame.queue st ∧ f.startFrame.sending = some o.frame) := by
  obtain h | ⟨st', o, rest, hn, hq, h⟩ := startFrame_cases f
  · exact .inl (by rw [h])
  · rw [h]
    by_cases e : st' = st
    · subst e
      exact .inr ⟨hn, o, by rw [hq]; cases st' <;> rfl, rfl⟩
    · left
      cases st' <;> cases st <;> first | rfl | exact absurd rfl e

/-! ## The exchange -/

@[simp] theorem recordRequest_kept (s : State) (n : Nat) (r : Req) :
    (s.recordRequest n r).kept = { s.kept with crp := (s.recordRequest n r).kept.crp } := rfl

@[simp] theorem portRefusal_recordRequest (s : State) (n : Nat) (r : Req) (k : Option ReqKind) (q : Req) :
    (s.recordRequest n r).portRefusal k q = s.portRefusal k q := rfl

/-- A request waits while none is available or no answer slot is free. -/
theorem takeRequest_waits (s : State) (k : ReqKind) (r : Req) (f : State → Reply × State) (h : s.canTake = false) :
    s.takeRequest k r f = s := by simp [State.takeRequest, h]

/-- A request that the port refuses changes the exchange alone. -/
theorem takeRequest_refused (s : State) (k : ReqKind) (r : Req) (f : State → Reply × State) (c : AnswerCode)
    (h : s.canTake = true) (hc : s.portRefusal (some k) r = some c) :
    s.takeRequest k r f = { s with
      crp := exchanged s.crp (requestBytes k.code r) (answerBytes k.code r c.code r.principal []) } := by
  simp only [State.takeRequest, h, if_true, portRefusal_recordRequest, hc]
  rfl

/-- A request that passes the port is settled by its owner and answered. -/
theorem takeRequest_passes (s : State) (k : ReqKind) (r : Req) (f : State → Reply × State) (h : Passes s k r) :
    s.takeRequest k r f =
      ((f (s.recordRequest k.code r)).2.writeAnswer (answerBytes k.code r (f (s.recordRequest k.code r)).1.code.code
        (answerHandle k r (f (s.recordRequest k.code r)).1) (f (s.recordRequest k.code r)).1.body)).finish := by
  simp only [State.takeRequest, h.1, if_true, portRefusal_recordRequest, h.2]

/-- A request whose owner answers `x` and makes `u` of the state, without marking a board. -/
theorem takeRequest_answered (s u : State) (k : ReqKind) (r : Req) (f : State → Reply × State) (x : Reply)
    (h : Passes s k r) (hf : f (s.recordRequest k.code r) = (x, u.recordRequest k.code r)) (hd : u.piu.dirty = []) :
    s.takeRequest k r f = answered u k r x.code (answerHandle k r x) x.body := by
  rw [takeRequest_passes s k r f h, hf, finish_clean _ (by exact hd)]
  rfl

/-- The same of the command's outcome: the answer's code, handle and body, and the state that the owner leaves. -/
theorem next_answered {s u : State} {k : ReqKind} {r : Req} {f : State → Reply × State} {code : AnswerCode} {h : Nat}
    {body : List Byte} (hp : Passes s k r) (hd : u.piu.dirty = [])
    (hf : f (s.recordRequest k.code r) = (⟨code, none, body⟩, u.recordRequest k.code r))
    (hh : (if k.namesHandle then r.principal else 0) = h) :
    (Host.Outcome.next (s.takeRequest k r f) : Host.Outcome State Fault Refusal) =
      .next (answered u k r code h body) := by
  rw [takeRequest_answered s u k r f _ hp hf hd, ← hh]; rfl

/-- The outcome of a request whose answer names a handle other than the request's. -/
theorem next_answered_handle {s u : State} {k : ReqKind} {r : Req} {f : State → Reply × State} {code : AnswerCode}
    {h : Nat} {body : List Byte} (hp : Passes s k r) (hd : u.piu.dirty = [])
    (hf : f (s.recordRequest k.code r) = (⟨code, some h, body⟩, u.recordRequest k.code r)) :
    (Host.Outcome.next (s.takeRequest k r f) : Host.Outcome State Fault Refusal) =
      .next (answered u k r code h body) := by
  rw [takeRequest_answered s u k r f _ hp hf hd]; rfl

end Sys2Proof.Machine
end

