-- ==== Sys2Proof/Tests/Slice0.lean ====
section
/-! SUPPORT. Tests: operands that no command can have, worked examples of the spec, and for each statement of
Certificates/Slice0/Obligations.lean a state and operands that meet its hypotheses. -/

namespace Sys2Proof.Tests

open Machine

/- One theorem at a time: the many kernel evaluations of this file would else wait for each other, each on a thread of
its own. -/
set_option Elab.async false

/-! ## A small line -/

/-- A request from a client, with tag 1. -/
def rq (client : Byte) (h : Half) (body : List Byte) : Req := ⟨1, client, h, body⟩

/-- Three timing points in a row with a branch from a fourth into the second, where a merge and a board stand. -/
def line : Lds :=
  { Lds.reset with
    mode := .service
    points := put (put (put (put Lds.reset.points 1 (some ⟨.up, 100, 1, 25, 90, 60, false⟩))
      2 (some ⟨.up, 1000, 2, 25, 90, 60, true⟩)) 3 (some ⟨.up, 2000, 3, 25, 90, 60, false⟩))
      4 (some ⟨.up, 900, 4, 25, 90, 60, false⟩)
    segments := put (put (put Lds.reset.segments 1 (some ⟨1, 2, 100, 1000, 1, 60, 3⟩))
      2 (some ⟨2, 3, 1000, 2000, 1, 60, 3⟩)) 3 (some ⟨4, 2, 900, 1000, 1, 60, 3⟩)
    routes := put (put Lds.reset.routes 1 (some [1, 2, 3])) 2 (some [4, 2, 3])
    merges := put Lds.reset.merges 1 (some ⟨2, 1, 3, 90⟩)
    substations := put Lds.reset.substations 1 (some 6)
    sections := put Lds.reset.sections 1 (some ⟨0, 3000, 1, none, 120⟩)
    classes := Vector.replicate 4 (some ⟨2, 30⟩)
    zoneGroups := mod1 Lds.reset.zoneGroups 1 fun _ => 1
    deskClasses := #v[some ⟨0, 1⟩, some ⟨1, 1⟩, some ⟨2, 1⟩, some ⟨4, 2⟩]
    kindMap := put (put Lds.reset.kindMap 1 (some .dispatch)) 3 (some .power)
    clients := #v[⟨true, .supervisor, none⟩, ⟨true, .dispatch, some 0⟩, ⟨true, .power, some 1⟩,
      ⟨true, .information, some 2⟩, ⟨true, .view, none⟩, ⟨false, .view, none⟩, ⟨false, .view, none⟩,
      ⟨false, .view, none⟩]
    params := { Lds.reset.params with template := some [7] }
    bands := some ⟨⟨0, 150⟩, ⟨30000, 150⟩, ⟨60000, 150⟩, ⟨90000, 150⟩⟩ }

/-- The line in SERVICE at 1,000 s with power on, and one request on the ring. -/
def demo : State :=
  { State.reset with
    lds := line
    lck := { Lck.reset with clock := 1000 }
    mvt := { Mvt.reset with staleTimer := some 1030 }
    tpc := { Tpc.reset with
      subs := put Tpc.reset.subs 1 (some ⟨.online, 0, 0, []⟩)
      secs := put Tpc.reset.secs 1 (some ⟨.energised, false, 0, none, none, false⟩) }
    crp := { Crp.reset with reqProd := 1 } }

/-- The line in SETUP after power-on with one request on the ring. -/
def setup : State := { State.reset with crp := { Crp.reset with reqProd := 1 } }

/-- The same line before it enters service. -/
def ready : State := { setup with lds := { line with mode := .setup } }

/-- Run 7 over the first route: stops at all three timing points. -/
def run (st : RunState) (cur : Nat) : Run :=
  { number := 7, route := 1, cls := 1, state := st
    stops := [⟨1, .stop, none, some 1100, none, none, none, false⟩,
      ⟨2, .stop, some 1200, some 1230, none, none, none, false⟩, ⟨3, .stop, some 1300, none, none, none, none, false⟩]
    cur := cur, causes := Causes.none, claimPresent := false, incidents := [], autoDelay := none, lateness := none,
    placeTimer := none, placeWaiting := false }

/-- A state with a run in slot 1 under generation 0; its handle is 1. -/
def withRun (s : State) (x : Run) : State :=
  s.onRtb fun t => { t with slots := mod1 t.slots 1 fun _ => ⟨0, some x⟩ }

/-- An incident raised by client 0. -/
def incident (st : IncidentState) : Incident :=
  { number := 5, kind := .trainFault, auto := none, detail := none, count := 1, severity := 2, state := st,
    source := .client 0, raisedAt := 900, ackBy := none, cls := .dispatch, desk := 0, escalation := some 1000,
    overdue := false, restrictions := [], runs := [], anns := [] }

/-- A state with an incident in slot 1; its handle is 1. -/
def withInc (s : State) (x : Incident) : State :=
  s.onItb fun t => { t with slots := mod1 t.slots 1 fun _ => ⟨0, some x⟩ }

/-- An announcement of client 3 for zone group 1. -/
def announcement (st : AnnState) : Announcement :=
  { spec := ⟨[9], 5, .groups [1], 2, 4, none, some 1000⟩, channel := 1, owner := .client 3, linkedInc := none,
    linkedRun := none, state := st, remaining := 2, due := some 900, nextDue := some 950, expiryTimer := some 1000,
    token := some 4 }

/-- A state with an announcement in slot 1; its handle is 1. -/
def withAnn (s : State) (a : Announcement) : State :=
  s.onPiu fun t => { t with slots := mod1 t.slots 1 fun _ => ⟨0, some a⟩ }

/-- A request passes the port where the two checks are computed to hold. -/
theorem passes {s : State} {k : ReqKind} {r : Req} (h : (s.canTake && (s.portRefusal (some k) r).isNone) = true) :
    Passes s k r := by
  simp only [Bool.and_eq_true, Option.isNone_iff_eq_none] at h
  exact h

/-- Requests pass the port where the two checks are computed to hold for each. -/
theorem allPass {s : State} {l : List (ReqKind × Req)}
    (h : (l.all fun x => s.canTake && (s.portRefusal (some x.1) x.2).isNone) = true) : ∀ x ∈ l, Passes s x.1 x.2 :=
  fun x hx => passes (List.all_eq_true.1 h x hx)

/-- A run waits nowhere where the eight substations' queues are computed not to name it. -/
theorem waitsNowhere {s : State} {i : Nat}
    (h : ∀ k ∈ ids 8, (s.sub k).all (fun x => x.queue.all fun e => e.run != s.runHandle i) = true) :
    WaitsNowhere s i := by
  intro k x hx e he
  have := h k (mem_ids.2 (sub_range hx))
  rw [hx] at this
  simp only [Option.all_some, List.all_eq_true, bne_iff_ne, ne_eq] at this
  exact this e he

/-- The entry at substation 1 is the only one that waits. -/
abbrev onlyWaits (s : State) (e : WaitEntry) : Prop :=
  ∀ k ∈ ids 8, (s.sub k).all (fun z => decide (z.queue = [] ∨ (k = 1 ∧ z.queue = [e]))) = true

theorem onlyWaits.at {s : State} {e : WaitEntry} (h : onlyWaits s e) {k : Nat} {z : SubLive} (hz : s.sub k = some z) :
    z.queue = [] ∨ (k = 1 ∧ z.queue = [e]) := by
  have := h k (mem_ids.2 (sub_range hz))
  rw [hz] at this
  exact of_decide_eq_true this

/-- The wait queues are sound where one entry waits, and its run is HELD for POWER alone. -/
theorem onlyWaits.waitingRuns {s : State} {e : WaitEntry} {i : Nat} {x : Run} (h : onlyWaits s e)
    (hr : s.resolveRun e.run = .live i) (hx : s.runAt i = some x) (hs : x.state = .held)
    (hc : x.causes = Causes.onlyPower) : WaitingRuns s := by
  refine ⟨fun k z hz => ?_, fun k l y z hy hz a ha b hb _ => ?_⟩
  · rcases h.at hz with hq | ⟨-, hq⟩ <;> rw [hq]
    · simp
    · exact ⟨by simp, fun a ha => ⟨i, x, by rw [List.mem_singleton.1 ha]; exact hr, hx, hs, hc⟩⟩
  · rcases h.at hy with hq | ⟨rfl, -⟩
    · simp [hq] at ha
    · rcases h.at hz with hq | ⟨rfl, -⟩
      · simp [hq] at hb
      · rfl

/-- What holds of the record that stands for a missing segment and of the 48 segments holds of every segment. -/
theorem forall_segs {s : State} {P : SegLive → Prop} (h0 : P ⟨[], 0, []⟩) (h : ∀ g ∈ ids 48, P (s.seg g)) (g : Nat) :
    P (s.seg g) := by
  by_cases hg : g ∈ ids 48
  · exact h g hg
  · have : get1 s.mvt.segs g = none := by
      by_contra hc
      obtain ⟨x, hx⟩ := Option.ne_none_iff_exists'.1 hc
      exact hg (mem_ids.2 (get1_some_range hx))
    simpa [State.seg, this] using h0

/-- What holds of the empty list and of the two merge order lists holds of every one. -/
theorem forall_lists {s : State} {P : List Nat → Prop} (h0 : P []) (h : ∀ m ∈ ids 2, P (s.mergeList m)) (m : Nat) :
    P (s.mergeList m) := by
  by_cases hm : m ∈ ids 2
  · exact h m hm
  · have : get1 s.mvt.mergeLists m = none := by
      by_contra hc
      obtain ⟨x, hx⟩ := Option.ne_none_iff_exists'.1 hc
      exact hm (mem_ids.2 (get1_some_range hx))
    simpa [State.mergeList, this] using h0

/-- What holds of the four channels and of a channel at reset holds of every channel. -/
theorem forall_chans {s : State} {P : Channel → Prop} (h0 : P Channel.reset) (h : ∀ x ∈ s.piu.channels.toList, P x)
    (c : Nat) : P (s.chan c) := by
  unfold State.chan get0
  cases hx : s.piu.channels.toList[c]? with
  | none => exact h0
  | some x => exact h x (List.mem_of_getElem? hx)

/-! ## Operands that no command can have -/

/-- A body of 251 bytes does not fit a slot (R194). -/
theorem test_long_body_refused : ¬WellFormed (.lookupLine (rq 0 0 (List.replicate 251 0))) := by
  show ¬(List.replicate 251 (0 : Byte)).length ≤ 250
  rw [List.length_replicate]
  decide

/-- Run slots are numbered from 1 to 128 (R30). -/
theorem test_run_slot_refused : ¬WellFormed (.retry 0) ∧ ¬WellFormed (.departureTimeout 129) := by
  simp [WellFormed, slotWf]

/-- Two merges (R6), 16 sections (R7), 48 incidents (R126), 96 announcements (R149). -/
theorem test_slots_refused : ¬WellFormed (.mergeFreeTimerExpiry 3) ∧ ¬WellFormed (.drainTimerExpiry 17) ∧
    ¬WellFormed (.escalationTimerExpiry 49) ∧ ¬WellFormed (.startTimerExpiry 97) := by
  simp [WellFormed, slotWf]

/-- A bad frame holds a kind and a length at least, and at most 67 bytes (R185). -/
theorem test_bad_frame_refused : ¬WellFormed (.badFrame [1]) ∧ ¬WellFormed (.badFrame (List.replicate 68 1)) := by
  simp [WellFormed, badFrameWf]

/-- A header that can be read makes no MALFORMED_REQUEST (R176). -/
theorem test_malformed_refused : ¬WellFormed (.malformedRequest 60 (rq 7 0 [])) ∧
    WellFormed (.malformedRequest 61 (rq 7 0 [])) ∧ WellFormed (.malformedRequest 1 (rq 8 0 [])) := by
  simp [WellFormed, headerUnreadable, Req.wf, rq]

/-! ## Worked examples of the spec -/

/-- The check of the nine bytes "123456789" under the parameters of R193. -/
theorem test_frame_check : frameCheck [0x31, 0x32, 0x33, 0x34, 0x35, 0x36, 0x37, 0x38, 0x39] = 0x6F91#16 := by
  decide +kernel

/-- A RELEASE order's frame: start code, kind 17, length 4, run low byte first, timing point, segment (R197). -/
theorem test_release_frame : (Order.frame (.release 4127 10 20)).take 7 = [126, 17, 4, 31, 16, 10, 20] := by decide +kernel

/-- The step takes the front command and runs it on the queue's rest. -/
theorem test_step_takes_front : step { setup with pending := [.portReset, .clockAdvance] } =
    .next { setup with crp := { Crp.reset with lastReset := .port }, pending := [.clockAdvance] } := rfl

/-- The clock takes its next value, and no minute boundary stands at 1,001 s (R18, R19). -/
theorem test_clock_advance : exec .clockAdvance demo = .next { demo with lck := { demo.lck with clock := 1001 } } := rfl

/-- A posting reaches the configured clients of its recipients and leaves the others' lists alone (R179). -/
theorem test_recipients :
    (ids 8).map (fun k => (get0 demo.lds.clients (k - 1)).any fun x => x.configured && haltedNotice.2 (k - 1) x) =
      [true, true, false, false, false, false, false, false] ∧
    (demo.timetableNotice true 0).length = 1 ∧ demo.timetableNotice false 0 = [] := by decide +kernel

/-! ## States and operands that meet the statements' hypotheses -/

theorem witness_StepRunsFrontCommand : setup.pending = [] := rfl

/-! ### What every step keeps -/

theorem witness_PortSoundKept : PortSound State.reset ∧ step State.reset = .next State.reset :=
  ⟨⟨⟨by decide, by decide⟩, ⟨by decide, by decide⟩, fun i x h => by
      have hx : x = ⟨[], false⟩ := by
        unfold get0 at h
        rw [show State.reset.crp.notices.toList = List.replicate 8 ⟨[], false⟩ from rfl, List.getElem?_replicate] at h
        split at h
        · exact (Option.some.inj h).symm
        · simp at h
      subst hx
      exact ⟨by decide, List.Pairwise.nil⟩, by decide⟩, rfl⟩

theorem witness_ClockSoundKept : ClockSound demo ∧ BetweenEvents demo ∧ step demo = .next demo :=
  ⟨⟨by decide, by decide⟩, rfl, rfl⟩

theorem witness_DescriptionStaysLocked : demo.inService = true ∧ demo.pending.head? ≠ some .powerOn ∧
    step demo = .next demo := ⟨by decide +kernel, by decide +kernel, rfl⟩

/-- The demo line at work, the clock's tick waiting: run 7 RELEASED under a claim, run 8 RUNNING in segment 1 with a
grant of merge 1, run 9 waiting for credits, an incident on desk 0, and an announcement suspended at channel 1 behind
the one on air. -/
def busy : State :=
  { demo with
    pending := [.clockAdvance]
    rtb := { demo.rtb with
      slots := mod1 (mod1 (mod1 demo.rtb.slots 1 fun _ => ⟨0, some { run .released 2 with claimPresent := true }⟩) 2
        fun _ => ⟨0, some { run .running 2 with number := 8 }⟩) 3
        fun _ => ⟨0, some { run .held 2 with number := 9, causes := Causes.onlyPower }⟩ }
    mvt := { demo.mvt with
      segs := mod1 demo.mvt.segs 1 fun _ => ⟨[2], 0, []⟩
      mergeLists := mod1 demo.mvt.mergeLists 1 fun _ => [2] }
    drg := { demo.drg with releasedCount := 1 }
    tpc := { demo.tpc with
      subs := put demo.tpc.subs 1 (some ⟨.online, 0, 2, [⟨3, 1, 2, 900, 0⟩]⟩)
      claims := put demo.tpc.claims 1 (some ⟨1, 1, 2, 900, none⟩) }
    itb := { demo.itb with
      slots := mod1 demo.itb.slots 1 fun _ => ⟨0, some (incident .raised)⟩
      desks := mod0 demo.itb.desks 0 fun _ => [1] }
    piu := { demo.piu with
      channels := mod0 demo.piu.channels 1 fun c => { c with onAir := some 1, stack := [2], producer := 16 } } }

theorem busy_steps : step busy = .next { busy with pending := [], lck := { busy.lck with clock := 1001 } } := rfl

theorem witness_TrackBoundsKept : TrackBounds busy :=
  ⟨forall_segs (P := fun g => g.queue.length ≤ 8) (by decide) (by decide +kernel),
    forall_lists (P := fun l => l.length ≤ 8 ∧ l.Nodup) (by decide) (by decide +kernel)⟩

theorem witness_ChannelBoundsKept : ChannelBounds busy := fun _ _ h =>
  (by decide +kernel : ∀ x ∈ busy.piu.channels.toList, x.stack.length ≤ 4 ∧ x.occupancy ≤ 17 ∧
    (x.onAir ≠ none → x.occupancy ≤ 16) ∧ 1 ≤ x.nextToken ∧ x.nextToken ≤ 255) _ (List.mem_of_getElem? h)

theorem witness_DeskQueuesKept : DeskQueues busy ∧ DeskOrder busy := by
  refine ⟨⟨fun d hd => ⟨(by decide +kernel : ∀ d < 8, (busy.desk d).Nodup) d hd, fun h => ⟨fun hh => ?_, ?_⟩⟩,
    fun h => absurd h (by decide +kernel)⟩, fun d => ?_⟩
  · obtain ⟨p, hp, q⟩ := (by decide +kernel : ∀ d < 8, ∀ h ∈ busy.desk d, ∃ p ∈ busy.liveIncs,
      p.2.desk = d ∧ p.2.state = .raised ∧ h = busy.incHandle p.1) d hd h hh
    exact ⟨p.1, p.2, mem_liveIncs.1 hp, q⟩
  · rintro ⟨i, x, hx, rfl, hs, rfl⟩
    exact (by decide +kernel : ∀ p ∈ busy.liveIncs, p.2.state = .raised → busy.incHandle p.1 ∈ busy.desk p.2.desk)
      (i, x) (mem_liveIncs.2 hx) hs
  · match d with
    | 0 => exact List.pairwise_singleton _ _
    | 1 | 2 | 3 | 4 | 5 | 6 | 7 => exact List.Pairwise.nil
    | d + 8 => rw [show busy.desk (d + 8) = [] from rfl]; exact List.Pairwise.nil

/-- The run that waits in the busy line, in slot 3. -/
def waiter : Run := { run .held 2 with number := 9, causes := Causes.onlyPower }

theorem witness_WaitingRunsKept : WaitingRuns busy :=
  onlyWaits.waitingRuns (e := ⟨3, 1, 2, 900, 0⟩) (i := 3) (x := waiter) (by decide +kernel) (by decide +kernel)
    (by decide +kernel) rfl rfl

/-- In the busy line every claim is that of its only RELEASED run. -/
theorem busy_claims {i : Nat} {c : Claim} (h : busy.claim i = some c) : i = 1 := by
  have := (by decide +kernel : ∀ i ∈ ids 128, busy.claim i = none ∨ i = 1) i (mem_ids.2 (claim_range h))
  rcases this with h' | h'
  · rw [h'] at h; simp at h
  · exact h'

theorem witness_CreditsKept : WaitingRuns busy ∧ Credits busy := by
  refine ⟨witness_WaitingRunsKept, fun i c h => ?_, ?_, fun k z hz => ?_, fun h => absurd h (by decide +kernel)⟩
  · obtain rfl := busy_claims h
    exact ⟨_, (by decide +kernel : busy.runAt 1 = some { run .released 2 with claimPresent := true }), .inl rfl⟩
  · exact forall_runs (P := fun i x => x.claimPresent = true ↔ busy.claim i ≠ none) (by decide +kernel)
  · have h := (by decide +kernel : ∀ k ∈ ids 8, (busy.sub k).all (fun z => z.inUse == ((ids 128).map fun i =>
      match busy.claim i with
      | some c => if c.sub = k then c.cost else 0
      | none => 0).sum) = true) k (mem_ids.2 (sub_range hz))
    rw [hz] at h
    exact eq_of_beq h

theorem witness_RunTableKept : WaitingRuns busy ∧ RunTableSound busy := by
  have seg1 : ∀ g, (busy.seg g).queue ≠ [] → g = 1 ∧ (busy.seg g).queue = [2] := by
    intro g hg
    have hr : g ∈ ids 48 := by
      by_contra hn
      have : get1 busy.mvt.segs g = none := by
        by_contra hc
        obtain ⟨x, hx⟩ := Option.ne_none_iff_exists'.1 hc
        exact hn (mem_ids.2 (get1_some_range hx))
      exact hg (by simp [State.seg, this])
    exact ((by decide +kernel : ∀ g ∈ ids 48, (busy.seg g).queue = [] ∨ (g = 1 ∧ (busy.seg g).queue = [2])) g
      hr).resolve_left hg
  refine ⟨witness_WaitingRunsKept, forall_runs (P := fun _ x => 1 ≤ x.number ∧ x.number ≤ 9999) (by decide +kernel),
    fun i j x y hx hy h => ?_, by decide +kernel, fun g => ?_, fun g k h hg hk =>
      (seg1 g (List.ne_nil_of_mem hg)).1.trans (seg1 k (List.ne_nil_of_mem hk)).1.symm,
    fun h => absurd h (by decide +kernel)⟩
  · exact (by decide +kernel : ∀ p ∈ busy.liveRuns, ∀ q ∈ busy.liveRuns, p.2.number = q.2.number → p.1 = q.1)
      (i, x) (mem_liveRuns.2 hx) (j, y) (mem_liveRuns.2 hy) h
  · by_cases hq : (busy.seg g).queue = []
    · simp [hq]
    · rw [(seg1 g hq).2]
      exact ⟨by decide, fun h hh => ⟨2, _, by rw [List.mem_singleton.1 hh]; decide +kernel,
        (by decide +kernel : busy.runAt 2 = some { run .running 2 with number := 8 }), .inl rfl⟩⟩

/-- The demo line with a CANCELLED run and a CLEARED incident, both in slot 1, that list each other. -/
def paired : State :=
  withInc (withRun demo { run .cancelled 2 with incidents := [1] }) { incident .cleared with runs := [1] }

/-- Two records that are linked, and a step from there. -/
theorem witness_RunTableKept_links : LinksAgree paired ∧ step paired = .next paired := by
  refine ⟨⟨forall_incs (P := fun i x => x.runs.length ≤ 4 ∧ x.runs.Nodup ∧ ∀ h ∈ x.runs, ∃ j y,
      paired.resolveRun h = .live j ∧ paired.runAt j = some y ∧ paired.incHandle i ∈ y.incidents) ?_,
    forall_runs (P := fun j y => y.incidents.length ≤ 4 ∧ y.incidents.Nodup ∧ ∀ h ∈ y.incidents, ∃ i x,
      paired.resolveInc h = .live i ∧ paired.incAt i = some x ∧ paired.runHandle j ∈ x.runs) ?_⟩, rfl⟩
  · rw [show paired.liveIncs = [(1, { incident .cleared with runs := [1] })] by decide +kernel]
    exact List.forall_mem_singleton.2 ⟨by decide, by decide, List.forall_mem_singleton.2
      ⟨1, { run .cancelled 2 with incidents := [1] }, by decide +kernel⟩⟩
  · rw [show paired.liveRuns = [(1, { run .cancelled 2 with incidents := [1] })] by decide +kernel]
    exact List.forall_mem_singleton.2 ⟨by decide, by decide, List.forall_mem_singleton.2
      ⟨1, { incident .cleared with runs := [1] }, by decide +kernel⟩⟩

theorem witness_RequestsAnsweredOnce : (Instr.lookupLine (rq 0 0 [])).request? = some (.lookupLine, rq 0 0 []) ∧
    demo.canTake = true := by decide +kernel

/-! ### The Control Room Port -/

theorem witness_NotEnabledChangesNothing :
    State.reset.canTake = false ∧
    (withRun demo { run .planned 1 with placeTimer := some 1001 }).reached (some 1001) = false ∧
    (withRun demo { run .held 1 with causes := Causes.onlyMerge }).runAt 1 ≠ none ∧
    Causes.onlyMerge ≠ Causes.none ∧ demo.reached (demo.arbiter 1).freeTimer = false ∧
    demo.reached demo.mvt.staleTimer = false ∧ demo.fli.sending = none ∧ demo.lck.minuteDue = false := by decide +kernel

/-- The permission table has every request kind once, by its code. -/
theorem test_permission_table : ((permissionTable.flatMap (·.1)).map ReqKind.code).isPerm (ids 60) = true := by
  decide +kernel

theorem witness_RefusedAtThePort :
    demo.canTake = true ∧
    demo.portRefusal (some .loadRun) (rq 4 0 []) = some .notPermitted ∧
    demo.portRefusal (some .lookupLine) (rq 5 0 []) = some .notPermitted ∧
    demo.portRefusal (some .lookupLine) (rq 8 0 []) = some .malformed ∧
    setup.portRefusal (some .lookupLine) (rq 7 0 []) = none ∧ ReqKind.lookupLine ∈ setupKinds ∧
    demo.portRefusal (some .lookupLine) (rq 4 0 []) = none ∧ (rq 7 0 []).tag ≠ 0 ∧ (rq 7 0 []).client.toNat ≤ 7 ∧
    (∃ row ∈ permissionTable, ReqKind.setWithhold ∈ row.1 ∧ Role.power ∈ row.2) ∧
    (¬∃ row ∈ permissionTable, ReqKind.setWithhold ∈ row.1 ∧ Role.supervisor ∈ row.2) ∧
    (61 : Byte).toNat = 61 ∧ headerUnreadable 61 (rq 7 0 []) ∧ ¬headerUnreadable 60 (rq 7 0 []) := by
  simp only [headerUnreadable]
  decide +kernel

/-- A state with an incident, a run and an announcement, each in slot 1. -/
def linkable (x : Incident) (r : Run) (a : Announcement) : State := withAnn (withInc (withRun demo r) x) a

/-- Those of the statements about links: a RAISED incident, a DWELLING run and a QUEUED announcement. -/
def linked : State := linkable (incident .raised) (run .dwelling 2) (announcement .queued)

/-- Handle 0, the slots behind the last one, a free slot, another generation. -/
theorem witness_HandlesRefused :
    BetweenEvents linked ∧
    (∀ x ∈ [(ReqKind.cancelRun, rq 1 0 []), (.cancelRun, rq 1 129 []), (.ackIncident, rq 0 49 []),
      (.withdrawAnnouncement, rq 3 97 []), (.withdrawAnnouncement, rq 3 257 []), (.linkRun, rq 0 1 [1, 1, 1])],
      Passes linked x.1 x.2) ∧
    linked.runTable.refuses 0 .noEffect ∧ linked.runTable.refuses 129 .notFound ∧
    linked.incTable.refuses 49 .notFound ∧ linked.annTable.refuses 97 .notFound ∧
    linked.annTable.refuses 257 .stale ∧ linked.runTable.refuses 128 .notFound ∧
    linked.runTable.refuses ((rq 0 1 [1, 1, 1]).u16 0) .stale ∧ linked.resolveInc (rq 0 1 [1, 1, 1]).principal = .live 1 ∧
    linked.incAt 1 = some (incident .raised) :=
  ⟨rfl, allPass (by decide +kernel), rfl, ⟨by decide, .inr (.inl (by decide))⟩,
    ⟨by decide, .inr (.inl (by decide))⟩, ⟨by decide, .inr (.inl (by decide))⟩,
    ⟨by decide +kernel, by decide +kernel⟩, ⟨by decide, .inr (.inr (by decide +kernel))⟩,
    ⟨by decide +kernel, by decide +kernel⟩, by decide +kernel⟩

/-- An advance of 32 is accepted on an empty ring, and one of 33 is not; an advance of 0 is accepted, and one past an
empty answer ring is not. -/
theorem witness_IndexWrites :
    ((32 : Half) - State.reset.crp.reqProd).toNat ≤ 32 - (State.reset.crp.reqProd - State.reset.crp.reqCons).toNat ∧
    32 - (State.reset.crp.reqProd - State.reset.crp.reqCons).toNat < ((33 : Half) - State.reset.crp.reqProd).toNat ∧
    ((0 : Half) - State.reset.crp.ansCons).toNat ≤ (State.reset.crp.ansProd - State.reset.crp.ansCons).toNat ∧
    (State.reset.crp.ansProd - State.reset.crp.ansCons).toNat < ((1 : Half) - State.reset.crp.ansCons).toNat := by decide +kernel

/-- A pending list with a notice for client 3, the rotation at its power-on place. -/
def noticed : State := demo.onCrp fun c => { c with notices := mod0 c.notices 3 fun x => x.join ⟨.ended, 1, 1⟩ }

theorem witness_NoticesJoinAndGo :
    (ClientNotices.mk [⟨.ended, 1, 1⟩] false).list = [] ++ ⟨.ended, 1, 1⟩ :: [] ∧
    (List.replicate 16 (Notice.mk .desk 1 1)).length = 16 ∧ 3 < 8 ∧ 4 ≤ noticed.crp.ansFree ∧
    (∀ e, e < 3 → (get0 noticed.crp.notices ((noticed.crp.rotation + 1 + e) % 8)).all (·.list.isEmpty) = true) ∧
    get0 noticed.crp.notices ((noticed.crp.rotation + 1 + 3) % 8) = some ⟨[⟨.ended, 1, 1⟩], false⟩ ∧
    { Crp.reset with ansProd := 29 }.ansFree < 4 := by decide +kernel

theorem witness_InterruptLineFollows : demo.canTake = true ∧ irqLine demo = false := by decide +kernel

/-! ### The Line Description Store -/

/-- Bodies of the DEFINE requests that cannot be read: an identifier on either side of its range, an action that is
neither DEFINE nor REMOVE, and with DEFINE a field one past its range. -/
theorem witness_bodies_unreadable :
    Passes ready .defineTimingPoint (rq 0 0 [33, 2]) ∧ Passes ready .defineHeadwayBands (rq 0 0 []) ∧
    (rq 0 0 []).headwayBands = none ∧ (rq 0 0 [33, 2]).define 1 32 (rq 0 0 [33, 2]).timingPoint = none ∧
    (rq 0 0 [0, 2]).define 1 48 (rq 0 0 [0, 2]).segment = none ∧
    (rq 0 0 [1, 3]).define 1 4 (rq 0 0 [1, 3]).route = none ∧ (rq 0 0 [1, 0]).define 1 2 (rq 0 0 [1, 0]).merge = none ∧
    (rq 0 0 [8, 1, 16]).define 1 8 (within 0 15 ((rq 0 0 [8, 1, 16]).u8 2)) = none ∧
    (rq 0 0 [17, 2]).define 1 16 (rq 0 0 [17, 2]).sectionFields = none ∧
    (rq 0 0 [4, 1, 5, 90, 0]).define 1 4 (rq 0 0 [4, 1, 5, 90, 0]).trainClass = none ∧
    (rq 0 0 [17, 2]).define 1 16 (some ((rq 0 0 [17, 2]).zones 2)) = none ∧
    (rq 0 0 [5, 2]).define 1 4 (rq 0 0 [5, 2]).desks = none ∧
    (rq 0 0 [6, 1, 5]).define 1 6 (DeskClass.ofCode ((rq 0 0 [6, 1, 5]).u8 2)) = none := by
  simp only [Passes]
  decide +kernel

/-- Every DEFINE body with each field at an end of its range, then the same requests with REMOVE. -/
theorem witness_DescriptionDefined :
    BetweenEvents setup ∧ Passes setup .defineTimingPoint (rq 7 0 [32, 1, 2, 0, 0, 32, 180, 0, 44, 1, 44, 1, 1]) ∧
    BetweenEvents ready ∧ Passes ready .defineTimingPoint (rq 0 0 [32, 2]) ∧
    Passes ready .defineSegment (rq 0 0 [48, 2]) ∧ Passes ready .defineZoneGroup (rq 0 0 [16, 2]) ∧
    setup.inService = false ∧
    (rq 7 0 [32, 1, 2, 0, 0, 32, 180, 0, 44, 1, 44, 1, 1]).define 1 32
      (rq 7 0 [32, 1, 2, 0, 0, 32, 180, 0, 44, 1, 44, 1, 1]).timingPoint =
        some (32, some ⟨.down, 0, 32, 180, 300, 300, true⟩) ∧
    (rq 7 0 [48, 1, 1, 2, 0, 0, 255, 255, 16, 88, 2, 6]).define 1 48
      (rq 7 0 [48, 1, 1, 2, 0, 0, 255, 255, 16, 88, 2, 6]).segment = some (48, some ⟨1, 2, 0, 65535, 16, 600, 6⟩) ∧
    (rq 7 0 [4, 1, 2, 1, 2]).define 1 4 (rq 7 0 [4, 1, 2, 1, 2]).route = some (4, some [1, 2]) ∧
    (rq 7 0 [2, 1, 32, 1, 48, 44, 1]).define 1 2 (rq 7 0 [2, 1, 32, 1, 48, 44, 1]).merge =
      some (2, some ⟨32, 1, 48, 300⟩) ∧
    (rq 7 0 [8, 1, 15]).define 1 8 (within 0 15 ((rq 7 0 [8, 1, 15]).u8 2)) = some (8, some 15) ∧
    (rq 7 0 [16, 1, 0, 0, 1, 0, 8, 0, 30, 0]).define 1 16 (rq 7 0 [16, 1, 0, 0, 1, 0, 8, 0, 30, 0]).sectionFields =
      some (16, some ⟨0, 1, 8, none, 30⟩) ∧
    (rq 7 0 [4, 1, 4, 90, 0]).define 1 4 (rq 7 0 [4, 1, 4, 90, 0]).trainClass = some (4, some ⟨4, 90⟩) ∧
    (rq 7 0 [16, 1, 255, 0, 0, 0]).define 1 16 (some ((rq 7 0 [16, 1, 255, 0, 0, 0]).zones 2)) = some (16, some 255) ∧
    (rq 7 0 [4, 1, 4, 4]).define 1 4 (rq 7 0 [4, 1, 4, 4]).desks = some (4, some ⟨4, 4⟩) ∧
    (rq 7 0 [6, 1, 4]).define 1 6 (DeskClass.ofCode ((rq 7 0 [6, 1, 4]).u8 2)) = some (6, some .supervisor) ∧
    (rq 7 0 [0, 0, 0, 60, 0, 1, 0, 0, 60, 0, 2, 0, 0, 60, 0, 3, 0, 0, 60, 0]).headwayBands =
      some ⟨⟨0, 60⟩, ⟨1, 60⟩, ⟨2, 60⟩, ⟨3, 60⟩⟩ ∧
    ready.inService = false ∧ (rq 0 0 [32, 2]).u8 1 = 2 ∧ (rq 0 0 [32, 2]).u8 0 = 32 ∧
    (look ready.lds.points 4).isSome = true ∧ (look ready.lds.points 32).isSome = false :=
  ⟨rfl, passes (by decide +kernel), rfl, passes (by decide +kernel), passes (by decide +kernel),
    passes (by decide +kernel), by decide +kernel⟩

theorem witness_DescriptionLocked :
    BetweenEvents demo ∧ Passes demo .defineRoute (rq 0 0 []) ∧ Passes demo .setLineParameter (rq 0 0 [3]) ∧
    Passes demo .enterService (rq 0 0 []) ∧ demo.inService = true ∧ (rq 0 0 [3]).u8 0 = 3 ∧ (rq 0 0 [6]).u8 0 = 6 := by
  simp only [Passes, BetweenEvents]
  decide +kernel

/-- The first and the last client, an adjustable parameter in SERVICE that changes and one that does not, and the weight
at its highest value. -/
theorem witness_ClientsAndParametersSet :
    BetweenEvents ready ∧ Passes ready .defineClient (rq 0 0 [7, 1, 4, 255]) ∧
    Passes demo .setLineParameter (rq 0 0 [2, 44, 1]) ∧ Passes demo .setLineParameter (rq 0 0 [1, 8]) ∧
    ready.inService = false ∧
    (rq 0 0 [7, 1, 4, 255]).define 0 7 (rq 0 0 [7, 1, 4, 255]).clientFields = some (7, some ⟨true, .supervisor, none⟩) ∧
    (rq 0 0 [0, 2]).define 0 7 (rq 0 0 [0, 2]).clientFields = some (0, none) ∧
    get0 ready.lds.clients 0 = some ⟨true, .supervisor, none⟩ ∧
    ParamKind.ofCode ((rq 0 0 [2, 44, 1]).u8 0) = some .departureTimeout ∧
    (rq 0 0 [2, 44, 1]).paramSetting .departureTimeout = some (.departureTimeout 300) ∧
    ParamKind.departureTimeout.adjustable = true ∧ demo.lds.params.set (.departureTimeout 300) ≠ demo.lds.params ∧
    demo.lds.params.set (.departureTimeout 120) = demo.lds.params ∧
    ParamKind.ofCode ((rq 0 0 [1, 8]).u8 0) = some .weight ∧
    (rq 0 0 [1, 8]).paramSetting .weight = some (.weight 8) ∧ demo.inService = true ∧ 8 ≠ demo.lds.params.w ∧
    Passes ready .defineClient (rq 0 0 [8, 1]) ∧
    (rq 0 0 [8, 1]).define 0 7 (rq 0 0 [8, 1]).clientFields = none ∧
    Passes ready .setLineParameter (rq 0 0 [9]) ∧ ParamKind.ofCode ((rq 0 0 [9]).u8 0) = none ∧
    (rq 0 0 [1, 9]).paramSetting .weight = none ∧ ParamKind.ofCode ((rq 0 0 [8, 0]).u8 0) = some .template ∧
    ParamKind.template.adjustable = true ∧ (rq 0 0 [8, 0]).paramSetting .template = some (.template none) := by
  simp only [Passes, BetweenEvents]
  decide +kernel

theorem witness_ValidatedDescription : line.validate = none := by decide +kernel

theorem witness_ServiceEnteredAndLeft :
    BetweenEvents ready ∧ Passes ready .enterService (rq 0 0 []) ∧ BetweenEvents demo ∧
    Passes demo .returnToSetup (rq 0 0 []) ∧ Passes ready .returnToSetup (rq 0 0 []) ∧
    (∀ i, demo.runAt i = none) ∧ (∀ i, demo.incAt i = none) ∧
    (∀ c x, get0 demo.piu.channels c = some x → x.state = .disabled) ∧ ready.inService = false ∧
    ready.lds.validate = none ∧ setup.lds.validate = some (.trainClass, 1, .missing) ∧ demo.inService = true ∧
    (withRun demo (run .running 2)).runAt 1 = some (run .running 2) ∧ ready.liveRuns = [] ∧
    (look ready.lds.points 2).any (·.board) = true ∧ 0 < ready.lds.params.lwm := by
  refine ⟨rfl, passes (by decide +kernel), rfl, passes (by decide +kernel), passes (by decide +kernel), fun i => ?_,
    fun i => ?_, fun _ _ h => (by decide +kernel : ∀ x ∈ demo.piu.channels.toList, x.state = .disabled) _
      (List.mem_of_getElem? h), by decide +kernel⟩
  · by_contra h
    obtain ⟨x, hx⟩ := Option.ne_none_iff_exists'.1 h
    exact absurd (mem_liveRuns.2 hx) (by rw [show demo.liveRuns = [] by decide +kernel]; simp)
  · by_contra h
    obtain ⟨x, hx⟩ := Option.ne_none_iff_exists'.1 h
    exact absurd (mem_liveIncs.2 hx) (by rw [show demo.liveIncs = [] by decide +kernel]; simp)

/-! ### The lookups -/

/-- A state with run 7 DWELLING at its stop in slot 1. -/
def dwelling : State := withRun demo (run .dwelling 2)

theorem witness_RecordLookups :
    BetweenEvents demo ∧ Passes demo .lookupPoint (rq 4 0 [4]) ∧ Passes demo .lookupBoard (rq 4 0 [33]) ∧
    Passes ready .lookupSegment (rq 4 0 [1]) ∧ Passes dwelling .lookupRun (rq 4 1 [3]) ∧
    Passes demo .findRun (rq 4 0 [7, 0]) ∧ Passes demo .lookupIncident (rq 4 1 []) ∧
    Passes demo .lookupAnnouncement (rq 4 1 []) ∧ demo.inService = true ∧ (demo.point 4).isSome = true ∧
    (demo.point 32).isSome = false ∧ 32 < (rq 4 0 [33]).u8 0 ∧ (demo.sub 1).isSome = true ∧
    (demo.sec 1).isSome = true ∧ ready.inService = false ∧ dwelling.resolveRun 1 = .live 1 ∧
    dwelling.runAt 1 = some (run .dwelling 2) ∧ (run .dwelling 2).count = 3 ∧ dwelling.resolveRun 257 = .stale ∧
    demo.resolveRun 1 = .notFound ∧ demo.resolveRun 0 = .zero ∧ (rq 4 0 [7, 0]).u16 0 = 7 ∧
    (∀ p ∈ dwelling.liveRuns, p.2.number = 7 → p.1 = 1) ∧ (rq 4 0 [16, 39]).u16 0 = 10000 ∧
    (withInc demo (incident .raised)).resolveInc 1 = .live 1 ∧
    (withAnn demo (announcement .queued)).resolveAnn 1 = .live 1 := by
  simp only [Passes, BetweenEvents]
  decide +kernel

theorem witness_WholeLookups :
    BetweenEvents demo ∧ Passes demo .lookupLine (rq 4 0 [1, 4]) ∧ Passes demo .lookupCounters (rq 4 0 []) ∧
    Passes demo .lookupRegulation (rq 4 0 []) ∧ Passes demo .lookupDesk (rq 4 0 [7]) ∧
    Passes demo .lookupChannel (rq 4 0 [3]) ∧ Passes demo .lookupZones (rq 4 0 []) ∧
    Passes demo .lineStatus (rq 4 0 []) ∧ ItemKind.ofCode 1 = some .timingPoint ∧
    (rq 4 0 [1, 32]).u8 1 ≤ ItemKind.timingPoint.last ∧ ItemKind.timingPoint.last < (rq 4 0 [1, 33]).u8 1 ∧
    ItemKind.ofCode ((rq 4 0 [13]).u8 0) = none := by
  simp only [Passes, BetweenEvents]
  decide +kernel

/-! ### Clock, runs and movements -/

/-- No live run has a number, where none of the listed ones has. -/
theorem numberFree {s : State} {n : Nat} (h : (s.liveRuns.all fun p => p.2.number != n) = true) (j : Nat) (x : Run)
    (hx : s.runAt j = some x) : x.number ≠ n := by
  have := List.all_eq_true.1 h (j, x) (mem_liveRuns.2 hx)
  simpa using this

/-- A state with an empty board at timing point 2. -/
def boarded (s : State) : State := s.onPiu fun p => { p with boards := put p.boards 2 (some Board.empty) }

/-- A state with a minute boundary due. -/
def dueMinute (s : State) : State := s.onLck fun c => { c with minuteDue := true }

/-- A step of 3,600 s and one of a second more, the last value that SET_CLOCK takes and the next one, another day. -/
theorem witness_ClockAdvancedAndSet :
    BetweenEvents demo ∧ Passes demo .setClock (rq 0 0 [248, 17, 0, 0, 0]) ∧
    Passes setup .setClock (rq 7 0 [223, 165, 1, 0, 0]) ∧ BetweenEvents (dueMinute (boarded demo)) ∧
    { demo.lck with clock := 107997 }.clock < 107998 ∧
    (rq 0 0 [248, 17, 0, 0, 0]).u24 0 = demo.lck.clock + 3600 ∧
    (rq 0 0 [249, 17, 0, 0, 0]).u24 0 = demo.lck.clock + 3601 ∧ (rq 0 0 [222, 165, 1, 1, 0]).u24 0 = 107998 ∧
    (rq 0 0 [222, 165, 1, 1, 0]).u16 3 ≠ demo.lck.day ∧ (rq 7 0 [223, 165, 1, 0, 0]).u24 0 = 107999 ∧
    demo.inService = true ∧ setup.inService = false ∧ (dueMinute (boarded demo)).lck.minuteDue = true ∧
    (dueMinute (boarded demo)).inService = true ∧ look (dueMinute (boarded demo)).piu.boards 2 = some Board.empty ∧
    (dueMinute setup).lck.minuteDue = true ∧ (dueMinute setup).inService = false := by
  simp only [Passes, BetweenEvents]
  decide +kernel

/-- A state at the last clock value of a service day that the clock reaches by itself. -/
def atEnd (s : State) : State := s.onLck fun c => { c with clock := 107998 }

theorem witness_DayRollsOver :
    BetweenEvents (atEnd (withRun (withInc (boarded demo) (incident .raised)) (run .dwelling 2))) ∧
    (∀ i a, (withAnn (atEnd demo) (announcement .resting)).annAt i = some a →
      a.linkedRun = none ∧ ∀ h, a.spec.target ≠ .followRun h) ∧
    (withAnn (atEnd demo) { announcement .resting with linkedRun := some 1 }).annAt 1 =
      some { announcement .resting with linkedRun := some 1 } ∧
    Passes demo .endDay (rq 0 0 [0, 0]) ∧ Passes ready .endDay (rq 0 0 [0, 0]) ∧ (atEnd demo).inService = true ∧
    (atEnd demo).lck.clock = 107998 ∧ (atEnd setup).inService = false ∧
    (withAnn (atEnd setup) (announcement .resting)).annAt 1 = some (announcement .resting) ∧
    (atEnd (withInc demo (incident .raised))).incAt 1 = some (incident .raised) ∧
    (rq 0 0 [0, 0]).u16 0 = demo.lck.day ∧ (rq 0 0 [1, 0]).u16 0 ≠ demo.lck.day ∧
    (withRun demo (run .released 2)).runAt 1 = some (run .released 2) ∧
    (withInc demo (incident .cleared)).incAt 1 = some (incident .cleared) ∧
    (ids 5).all (fun c => look demo.itb.pendingSet c = none) = true ∧
    look (boarded demo).piu.boards 2 = some Board.empty ∧
    get0 demo.lds.clients 1 = some ⟨true, .dispatch, some 0⟩ :=
  ⟨rfl, fun i a h => (forall_anns (P := fun _ a => a = announcement .resting) (by decide +kernel) i a h) ▸
      ⟨rfl, fun h => by simp [announcement]⟩,
    by decide +kernel, passes (by decide +kernel), passes (by decide +kernel), by decide +kernel⟩

/-- A LOAD_RUN body: run 9999 of class 4 over the first route, which halts at 1 and 3 and passes 2. -/
def loadBody : List Byte :=
  [15, 39, 1, 4, 3, 1, 1, 255, 255, 255, 232, 3, 0, 2, 2, 76, 4, 0, 76, 4, 0, 3, 1, 176, 4, 0, 255, 255, 255]

/-- What that body says. -/
def loaded : LoadBody :=
  ⟨9999, 1, 4, [⟨1, .stop, none, some 1000, none, none, none, false⟩,
    ⟨2, .pass, some 1100, some 1100, none, none, none, false⟩, ⟨3, .stop, some 1200, none, none, none, none, false⟩]⟩

/-- That body fits the line. -/
theorem loaded_fits : LoadFits demo loaded := by
  refine ⟨by decide, by decide, by decide, by decide, ⟨[1, 2, 3], 0, by decide +kernel⟩, fun k st h => ?_, by decide⟩
  match k with
  | 0 | 1 | 2 =>
    obtain rfl := Option.some.inj h
    decide
  | k + 3 => simp [loaded] at h

/-- A state whose run table is full of runs with the number 7. -/
def fullTable : State := demo.onRtb fun t => { t with slots := Vector.replicate 128 ⟨0, some (run .planned 1)⟩ }

/-- The numbers 9999 and 10000, a class too high; a live run's number; a full table; the lowest free slot 1 and 2. -/
theorem witness_RunLoaded :
    BetweenEvents demo ∧ Passes ready .loadRun (rq 1 0 loadBody) ∧ Passes demo .loadRun (rq 1 0 loadBody) ∧
    Passes fullTable .loadRun (rq 1 0 loadBody) ∧ LoadFits demo loaded ∧ ¬LoadFits demo { loaded with number := 10000 } ∧
    ¬LoadFits demo { loaded with cls := 5 } ∧ (∀ j x, demo.runAt j = some x → x.number ≠ 9999) ∧
    (∀ j x, fullTable.runAt j = some x → x.number ≠ 9999) ∧ (∀ i, 1 ≤ i → i ≤ 128 → fullTable.runAt i ≠ none) ∧
    demo.inService = true ∧ (rq 1 0 loadBody).load = some loaded ∧ (rq 1 0 []).load = none ∧
    (withRun demo { run .planned 1 with number := 9999 }).runAt 1 = some { run .planned 1 with number := 9999 } ∧
    demo.runAt 1 = none ∧ (withRun demo (run .planned 1)).runAt 1 ≠ none ∧
    (withRun demo (run .planned 1)).runAt 2 = none := by
  refine ⟨rfl, passes (by decide +kernel), passes (by decide +kernel), passes (by decide +kernel), loaded_fits,
    fun h => absurd h.2.1 (by decide), fun h => absurd h.2.2.2.1 (by decide), numberFree (by decide +kernel),
    numberFree (by decide +kernel), fun i h1 h2 => ?_, by decide +kernel⟩
  exact (by decide +kernel : ∀ i ∈ ids 128, fullTable.runAt i ≠ none) i (mem_ids.2 ⟨h1, h2⟩)

/-- What holds of the one entry of a list holds of each. -/
theorem one {α : Type} {a : α} {P : Nat → α → Prop} (h : P 0 a) (j : Nat) (e : α) (he : [a][j]? = some e) : P j e := by
  match j with
  | 0 => exact Option.some.inj he ▸ h
  | j + 1 => simp at he

/-- A state with run 7 PLANNED in slot 1. -/
def planned : State := withRun demo (run .planned 1)

/-- An AMEND_RUN body for one stop: its arrival in three bytes and no departure. -/
def amendBody (k : Byte) (arr : List Byte) : List Byte := [k, 1] ++ arr ++ [255, 255, 255]

/-- Run 7 with an arrival at each of its stops. -/
def atLast : Run :=
  { run .dwelling 3 with stops := (run .dwelling 3).stops.map fun x => { x with actArr := some 900 } }

theorem witness_RunAmended :
    BetweenEvents planned ∧ Passes planned .amendRun (rq 1 1 (amendBody 3 [21, 5, 0])) ∧
    AmendmentFits (run .planned 1) 3 [(some 1301, none)] ∧ planned.resolveRun 1 = .live 1 ∧
    planned.runAt 1 = some (run .planned 1) ∧
    (rq 1 1 (amendBody 3 [21, 5, 0])).amend = some (3, [(some 1301, none)]) ∧
    (withRun demo (run .terminated 3)).runAt 1 = some (run .terminated 3) ∧ (rq 1 1 []).amend = none ∧
    (rq 1 1 (amendBody 4 [21, 5, 0])).amend = some (4, [(some 1301, none)]) ∧ (run .planned 1).count < 4 + 1 - 1 ∧
    (run .planned 1).stopAt 3 = some ⟨3, .stop, some 1300, none, none, none, none, false⟩ ∧
    timesFit 3 3 .stop none none = false ∧
    nonDecreasing (schedule (amendStops (run .planned 1).stops 3 [(some 1229, none)])) = false ∧
    atLast.amendable 3 (some 1301) = false ∧
    amendStops (run .planned 1).stops 3 [(some 1300, none)] = (run .planned 1).stops := by
  refine ⟨rfl, passes (by decide +kernel), ⟨by decide, by decide, by decide, by decide,
    one (P := fun j (e : Option Nat × Option Nat) => ∃ st, (run .planned 1).stopAt (3 + j) = some st ∧
      timesFit 3 (3 + j) st.kind e.1 e.2 = true) ⟨_, rfl, by decide⟩, by decide,
    one (P := fun j (e : Option Nat × Option Nat) => (run .planned 1).amendable (3 + j) e.1 = true) (by decide),
    by decide⟩,
    by decide +kernel⟩

/-- An amendment that moves the departure of the current stop, of a DWELLING run, of a HELD run whose new release lies
ahead, and of one whose release does not; and one that moves a PLANNED run's first departure. -/
theorem witness_RunAmended_releases :
    (∀ st ∈ [RunState.dwelling, .held], AmendmentFits (run st 2) 2 [(some 1200, some 1250)]) ∧
    AmendmentFits (run .planned 1) 1 [(none, some 1150)] ∧
    { run .dwelling 2 with stops := amendStops (run .dwelling 2).stops 2 [(some 1200, some 1250)] }.curDep ≠
      (run .dwelling 2).curDep ∧ (run .dwelling 2).computable = true ∧
    ¬(dwelling.releaseInputs { run .held 2 with
      stops := amendStops (run .held 2).stops 2 [(some 1200, some 1250)] }).limited ≤ (dwelling.lck.clock : Int) ∧
    ((dwelling.onLck fun c => { c with clock := 1300 }).releaseInputs { run .held 2 with
      stops := (amendStops (run .held 2).stops 2 [(some 1200, some 1250)]).map fun st =>
        { st with actArr := some 1200 } }).limited ≤ 1300 := by
  have fits : ∀ st ∈ [RunState.dwelling, .held], AmendmentFits (run st 2) 2 [(some 1200, some 1250)] := by
    intro st h
    simp only [List.mem_cons, List.not_mem_nil, or_false] at h
    rcases h with rfl | rfl <;>
      exact ⟨by decide, by decide, by decide, by decide,
        one (P := fun j (e : Option Nat × Option Nat) => ∃ st, (run _ 2).stopAt (2 + j) = some st ∧
          timesFit 3 (2 + j) st.kind e.1 e.2 = true) ⟨_, rfl, by decide⟩, by decide,
        one (P := fun j (e : Option Nat × Option Nat) => (run _ 2).amendable (2 + j) e.1 = true) (by decide), by decide⟩
  exact ⟨fits, ⟨by decide, by decide, by decide, by decide,
    one (P := fun j (e : Option Nat × Option Nat) => ∃ st, (run .planned 1).stopAt (1 + j) = some st ∧
      timesFit 3 (1 + j) st.kind e.1 e.2 = true) ⟨_, rfl, by decide⟩, by decide,
    one (P := fun j (e : Option Nat × Option Nat) => (run .planned 1).amendable (1 + j) e.1 = true) (by decide),
    by decide⟩, by decide +kernel⟩

/-- A state whose single run stands RELEASED under a claim of substation 1. -/
def released (s : State) : State :=
  ((withRun s { run .released 2 with claimPresent := true }).modReg 1 fun x =>
    { x with departureTimer := some 1000, releaseSegment := some 2, grantedMerge := some 1 }).onTpc fun t => { t with
      subs := put t.subs 1 (some ⟨.online, 0, 2, []⟩)
      claims := put t.claims 1 (some ⟨1, 1, 2, 900, none⟩) }

/-- A state whose single run stands first in the queue of segment 1. -/
def onTrack (s : State) (x : Run) : State := (withRun s x).modSeg 1 fun g => { g with queue := [1] }

/-- A run of each state that CANCEL_RUN tells apart. -/
theorem witness_RunCancelled :
    BetweenEvents (released demo) ∧ Passes (released demo) .cancelRun (rq 1 1 []) ∧
    WaitsNowhere (released demo) 1 ∧ WaitsNowhere (onTrack demo (run .running 2)) 1 ∧
    (released demo).resolveRun 1 = .live 1 ∧
    (released demo).runAt 1 = some { run .released 2 with claimPresent := true } ∧
    ((released demo).reg 1).grantedMerge = some 1 ∧
    (onTrack demo (run .running 2)).runAt 1 = some (run .running 2) ∧ planned.runAt 1 = some (run .planned 1) ∧
    (withRun demo (run .held 2)).runAt 1 = some (run .held 2) ∧
    (withRun demo (run .cancelled 2)).runAt 1 = some (run .cancelled 2) ∧
    (withRun demo (run .terminated 3)).runAt 1 = some (run .terminated 3) :=
  ⟨rfl, passes (by decide +kernel), waitsNowhere (by decide +kernel), waitsNowhere (by decide +kernel),
    by decide +kernel⟩

theorem witness_RunRetired :
    BetweenEvents (withRun demo (run .cancelled 2)) ∧ LinksAgree paired ∧
    Passes (withRun demo (run .cancelled 2)) .retireRun (rq 1 1 []) ∧
    Passes (onTrack demo (run .cancelled 2)) .retireRun (rq 1 1 []) ∧ Passes demo .clearCounters (rq 1 0 []) ∧
    (withRun demo (run .cancelled 2)).queueOf 1 = none ∧
    (withRun demo (run .cancelled 2)).resolveRun 1 = .live 1 ∧
    (withRun demo (run .cancelled 2)).runHandle 1 = 1 ∧ (onTrack demo (run .cancelled 2)).queueOf 1 ≠ none ∧
    (onTrack demo (run .cancelled 2)).runAt 1 = some (run .cancelled 2) ∧
    Passes paired .retireRun (rq 1 1 []) ∧ paired.resolveRun 1 = .live 1 ∧ paired.queueOf 1 = none ∧
    paired.incAt 1 = some { incident .cleared with runs := [1] } := by
  refine ⟨rfl, witness_RunTableKept_links.1, ?_⟩
  simp only [Passes]
  decide +kernel

theorem witness_RunPlacedAndMarked :
    BetweenEvents (withRun demo { run .planned 1 with placeTimer := some 1000 }) ∧ BetweenEvents planned ∧
    (withRun demo { run .planned 1 with placeTimer := some 1000 }).runAt 1 =
      some { run .planned 1 with placeTimer := some 1000 } ∧
    demo.reached (some 1000) = true ∧ (run .planned 1).stopAt 1 ≠ none ∧ (demo.tp 1).occupant = none ∧
    ((withRun (demo.occupy 1 5) (run .planned 1)).tp 1).occupant ≠ none ∧
    planned.runAt 1 = some (run .planned 1) := ⟨rfl, rfl, by decide +kernel⟩

/-- A run at the head of segment 1 and in no merge's list is in order. -/
theorem inOrder {s : State} {p : Nat} (h : (s.queueOf (s.runHandle 1) = some 1 ∧
    (s.seg 1).queue.head? = some (s.runHandle 1)) ∧ (s.mergeList 1).all (· != s.runHandle 1) = true ∧
    (s.mergeAt p = none ∨ s.mergeAt p = some 1)) : InOrder s 1 1 p := by
  refine ⟨h.1.1, h.1.2, fun m hm hmem => ?_⟩
  rcases h.2.2 with e | e
  · rw [e] at hm; simp at hm
  · rw [e] at hm
    obtain rfl := Option.some.inj hm
    exact absurd (List.all_eq_true.1 h.2.1 _ hmem) (by simp)

/-- Run 7 at its second and at its last stop, and at its second with the platform occupied. -/
theorem witness_ArrivalTaken :
    Reported (onTrack demo (run .running 2)) 7 2 1 (run .running 2) ∧ InOrder (onTrack demo (run .running 2)) 1 1 2 ∧
    WaitsNowhere (onTrack demo (run .running 2)) 1 ∧ Reported (onTrack demo (run .running 3)) 7 3 1 (run .running 3) ∧
    InOrder (onTrack demo (run .running 3)) 1 1 3 ∧ (run .running 2).indexAt 2 = some 2 ∧
    (run .running 2).stopAt 2 = some ⟨2, .stop, some 1200, some 1230, none, none, none, false⟩ ∧
    ((run .running 2).stopAt 2).any Stop.halts = true ∧ (run .running 2).cur < (run .running 2).count ∧
    ((onTrack demo (run .running 2)).tp 2).occupant = none ∧ (run .running 3).indexAt 3 = some 3 ∧
    (run .running 3).cur = (run .running 3).count ∧ ((onTrack (demo.occupy 2 5) (run .running 2)).tp 2).occupant ≠ none ∧
    (onTrack (demo.occupy 2 5) (run .running 2)).freeInc = some 1 :=
  ⟨⟨rfl, by decide +kernel⟩, inOrder (by decide +kernel), waitsNowhere (by decide +kernel), ⟨rfl, by decide +kernel⟩,
    inOrder (by decide +kernel), by decide +kernel⟩

theorem witness_DepartureTaken :
    Reported (released demo) 7 2 1 { run .released 2 with claimPresent := true } ∧ NobodyWaits (released demo) ∧
    WaitsNowhere (released demo) 1 ∧
    (run .released 2).stopAt 2 = some ⟨2, .stop, some 1200, some 1230, none, none, none, false⟩ ∧
    ((released demo).reg 1).releaseSegment = some 2 ∧ ((released demo).seg 2).queue.length < 8 :=
  ⟨⟨rfl, by decide +kernel⟩, nobodyWaits_of (by decide +kernel), waitsNowhere (by decide +kernel), by decide +kernel⟩

/-- Run 7 with its second stop one at which it does not halt. -/
def passing : Run :=
  { run .running 2 with
    stops := [⟨1, .stop, none, some 1100, none, none, none, false⟩,
      ⟨2, .pass, some 1200, some 1200, none, none, none, false⟩, ⟨3, .stop, some 1300, none, none, none, none, false⟩] }

theorem witness_PassTaken :
    Reported (onTrack demo passing) 7 2 1 passing ∧ InOrder (onTrack demo passing) 1 1 2 ∧
    NobodyWaits (onTrack demo passing) ∧ passing.indexAt 2 = some 2 ∧
    (passing.stopAt 2).any Stop.halts = false ∧ passing.cur < passing.count ∧
    demo.lds.joining (passing.tpAt 2) (passing.tpAt 3) = some 2 ∧ ((onTrack demo passing).seg 2).queue.length < 8 :=
  ⟨⟨rfl, by decide +kernel⟩, inOrder (by decide +kernel), nobodyWaits_of (by decide +kernel), by decide +kernel⟩

/-- The segment 2 with eight runs in its queue. -/
def jammed (s : State) : State := s.modSeg 2 fun g => { g with queue := [9, 10, 11, 12, 13, 14, 15, 16] }

/-- Run 7 behind another run in segment 1. -/
def behind (x : Run) : State := (withRun demo x).modSeg 1 fun g => { g with queue := [9, 1] }

/-- Run 7 first in segment 1 and second in the list of merge 1. -/
def disordered (x : Run) : State := (onTrack demo x).modMergeList 1 fun _ => [9, 1]

/-- Every slot of the incident table live. -/
def fullIncidents (s : State) : State :=
  s.onItb fun t => { t with slots := Vector.replicate 48 ⟨0, some (incident .acknowledged)⟩ }

/-- A report of each discarded kind, with a free incident slot and without one. -/
theorem witness_reports_discarded :
    Reported dwelling 7 3 1 (run .dwelling 2) ∧ Reported (fullIncidents dwelling) 7 3 1 (run .dwelling 2) ∧
    dwelling.mvt.stale = false ∧ dwelling.freeInc = some 1 ∧ (fullIncidents dwelling).freeInc = none ∧
    Discards dwelling 1 (run .dwelling 2) 3 (.arrived 7 3) .unexpectedPoint ∧
    Discards (onTrack (demo.occupy 2 5) (run .running 2)) 1 (run .running 2) 2 (.arrived 7 2) .platformOccupied ∧
    Discards dwelling 1 (run .dwelling 2) 3 (.departed 7 3) .unexpectedPoint ∧
    Discards (jammed dwelling) 1 (run .dwelling 2) 2 (.departed 7 2) .queueFull ∧
    Discards dwelling 1 (run .dwelling 2) 3 (.passed 7 3) .unexpectedPoint ∧
    Discards (jammed (onTrack demo passing)) 1 passing 2 (.passed 7 2) .queueFull := by
  refine ⟨⟨rfl, by decide +kernel⟩, ⟨rfl, by decide +kernel⟩, by decide +kernel, by decide +kernel, by decide +kernel,
    ?_, ⟨by decide +kernel, .inr ⟨rfl, 2, by decide +kernel⟩⟩, ?_,
    ⟨by decide, .inr ⟨.inr (.inl rfl), by decide +kernel⟩⟩, trivial, .inr ⟨.inl rfl, 2, by decide +kernel⟩⟩
  · show (run .dwelling 2).tpAt 2 ≠ 3
    decide
  · show (run .dwelling 2).tpAt 2 ≠ 3
    decide

/-- Run 7 out of order, out of a merge's order, at a stop passed without halting, at a stop that misses steps, at its
end, CANCELLED in a queue, PLANNED at its first stop, and PASSED in the same places. -/
theorem witness_IrregularReports :
    Reported (behind (run .running 2)) 7 2 1 (run .running 2) ∧ WaitsNowhere (behind (run .running 2)) 1 ∧
    Reported (behind (run .running 2)) 7 3 1 (run .running 2) ∧
    Reported (behind (run .cancelled 2)) 7 2 1 (run .cancelled 2) ∧ Reported planned 7 1 1 (run .planned 1) ∧
    Carries (behind (run .running 2)) 1 1 2 2 (run .running 2) none (some .outOfOrder) ∧
    Carries (behind (run .running 2)) 1 1 3 3 (run .running 2) none (some .missedSteps) ∧
    Carries (disordered (run .running 2)) 1 1 2 2 (run .running 2) none (some .mergeOrder) ∧
    Carries (onTrack demo passing) 1 1 2 2 passing (some .stoppedAtPass) (some .stoppedAtPass) ∧
    Carries (onTrack demo (run .running 2)) 1 1 2 2 (run .running 2) (some .passedStop) (some .passedStop) ∧
    (behind (run .running 2)).queueOf ((behind (run .running 2)).runHandle 1) = some 1 ∧
    (behind (run .running 2)).freeInc = some 1 ∧ (run .running 2).indexAt 2 = some 2 ∧
    (run .running 2).indexAt 3 = some 3 ∧ (run .running 2).count = 3 ∧
    ((behind (run .running 2)).tp 2).occupant = none ∧ (run .planned 1).tpAt 1 = 1 ∧ (planned.tp 1).occupant = none ∧
    (behind (run .running 2)).lds.joining 2 3 = some 2 ∧ ((behind (run .running 2)).seg 2).queue.length < 8 := by
  refine ⟨⟨rfl, by decide +kernel⟩, waitsNowhere (by decide +kernel), ⟨rfl, by decide +kernel⟩,
    ⟨rfl, by decide +kernel⟩, ⟨rfl, by decide +kernel⟩, ⟨rfl, by decide +kernel⟩, ?_,
    ⟨rfl, by decide +kernel, 1, by decide +kernel⟩, ⟨rfl, rfl, inOrder (by decide +kernel)⟩,
    ⟨rfl, rfl, inOrder (by decide +kernel)⟩, by decide +kernel⟩
  show 2 < 3
  decide

theorem witness_UnreleasedDepartures :
    Reported dwelling 7 2 1 (run .dwelling 2) ∧ Reported planned 7 1 1 (run .planned 1) ∧ NobodyWaits dwelling ∧
    (run .dwelling 2).stopAt 2 = some ⟨2, .stop, some 1200, some 1230, none, none, none, false⟩ ∧
    dwelling.lds.joining ((run .dwelling 2).tpAt 2) ((run .dwelling 2).tpAt 3) = some 2 ∧
    (dwelling.seg 2).queue.length < 8 ∧ dwelling.freeInc = some 1 ∧ (run .planned 1).cur = 1 ∧
    planned.lds.joining ((run .planned 1).tpAt 1) ((run .planned 1).tpAt 2) = some 1 ∧
    (withRun demo (run .cancelled 2)).runNumbered 7 = some (1, run .cancelled 2) ∧
    (withRun demo (run .cancelled 2)).queueOf 1 = none :=
  ⟨⟨rfl, by decide +kernel⟩, ⟨rfl, by decide +kernel⟩, nobodyWaits_of (by decide +kernel), by decide +kernel⟩

/-- A state whose describer stale timer is due. -/
def staleDue (s : State) : State := { s with mvt := { s.mvt with staleTimer := some 1000 } }

theorem witness_ReportsDiscardedAndStale :
    BetweenEvents demo ∧ (∀ i x, demo.runAt i = some x → x.number ≠ 9999) ∧ Reported dwelling 7 2 1 (run .dwelling 2) ∧
    Repeats dwelling 1 (run .dwelling 2) 2 (.arrived 7 2) ∧
    Repeats (withRun demo (run .terminated 3)) 1 (run .terminated 3) 3 (.departed 7 3) ∧
    Repeats (onTrack demo (run .running 2)) 1 (run .running 2) 1 (.passed 7 1) ∧
    demo.point 32 = none ∧ demo.point 1 ≠ none ∧ demo.mvt.stale = false ∧ (9999 : Half).toNat ≤ 9999 ∧
    9999 < (10000 : Half).toNat ∧ (staleDue demo).reached (staleDue demo).mvt.staleTimer = true ∧
    (staleDue demo).staleStands = false ∧ (staleDue demo).freeInc = some 1 ∧
    (withInc demo { incident .raised with auto := some .describerStale }).staleStands = true :=
  ⟨rfl, numberFree (by decide +kernel), ⟨rfl, by decide +kernel⟩, .inl ⟨.inl rfl, rfl⟩, .inl ⟨rfl, rfl⟩,
    ⟨.inl rfl, by decide +kernel, rfl⟩, by decide +kernel⟩

/-! ### Regulation and power -/

/-- Rows 1 to 4 of R77's table: a follower ahead, no follower, a negative quotient truncated toward zero, and the dwell
floor. -/
theorem test_release_times :
    (⟨25200, 25240, 25, 90, 60, 150, 4, some 25130, some 25122, some 25410⟩ : ReleaseInputs).releaseTime 25200 = 25261 ∧
    (⟨25200, 25240, 25, 90, 60, 150, 4, some 25130, some 25122, none⟩ : ReleaseInputs).releaseTime 25200 = 25260 ∧
    (⟨25200, 25240, 25, 90, 60, 150, 3, some 25130, some 25122, some 25300⟩ : ReleaseInputs).releaseTime 25200 = 25236 ∧
    (⟨25200, 25240, 25, 90, 60, 150, 4, some 25130, some 25122, some 25050⟩ : ReleaseInputs).releaseTime 25200 =
      25225 := by decide +kernel

/-- A DWELLING run in slot 1 whose delay announcement stands in slot 1. -/
def delayed : State :=
  withAnn (withRun demo { run .dwelling 2 with autoDelay := some 1 }) { announcement .queued with linkedRun := some 1 }

/-- Run 7 at its second stop since 990 s. -/
def placed : Run :=
  { run .dwelling 2 with stops := (run .dwelling 2).stops.map fun x => if x.tp = 2 then { x with actArr := some 990 }
    else x }

/-- Run 7 on its way to its second stop, since 950 s. -/
def underway : Run :=
  { run .running 2 with stops := (run .running 2).stops.map fun x => { x with actDep := some 950 } }

/-- Inputs at their ends, a leader and a follower to compute them from, and each case of the comparison: a post, none for
want of a slot, a delay announcement that is withdrawn, and one that is left. -/
theorem witness_ReleaseTimeComputed :
    (run .dwelling 2).autoDelay = none ∧ (dwelling.lds.params.delay : Int) ≤ dwelling.lds.params.delay ∧
    (run .dwelling 2).state ≠ .terminated ∧ (run .dwelling 2).state ≠ .cancelled ∧ dwelling.freeAnn = some 1 ∧
    get0 dwelling.piu.classMap 2 = some 0 ∧ (dwelling.chan 0).state ≠ .ready ∧
    (run .cancelled 2).state = .cancelled ∧ delayed.runAt 1 = some { run .dwelling 2 with autoDelay := some 1 } ∧
    delayed.resolveAnn 1 = .live 1 ∧ (∀ p ∈ delayed.liveRuns, p.2.autoDelay = some 1 → p.1 = 1) ∧
    (59 : Int) < ((delayed.lds.params.delay / 2 : Nat) : Int) ∧
    (⟨1000, 0, 25, 90, 0, 150, 8, some 900, some 107950, some 1100⟩ : ReleaseInputs).hMax = 0 ∧
    dwelling.runAt 1 = some (run .dwelling 2) ∧ (run .dwelling 2).computable = true ∧
    placed.curStop = some ⟨2, .stop, some 1200, some 1230, some 990, none, none, false⟩ ∧
    demo.point (placed.tpAt placed.cur) = some ⟨.up, 1000, 2, 25, 90, 60, true⟩ ∧ demo.lds.bands.isSome = true ∧
    demo.mvt.stale = false ∧ (onTrack demo underway).candidateOf 1 = some (1, underway) ∧
    1 ∈ demo.lds.incoming 2 ∧ ((onTrack demo underway).predict underway 2).isSome = true := by decide +kernel

/-- A state whose run 1 has a dispatcher hold. -/
def heldByDispatcher (s : State) : State := s.modReg 1 fun x => { x with dispatcherHold := true }

/-- A run HELD for a cause set. -/
def heldFor (c : Causes) : Run := { run .held 2 with causes := c }

/-- A state with run 7 HELD without a cause at its second stop. -/
def standing : State := withRun demo (run .held 2)

/-- Substation 1 with one credit left. -/
def short (s : State) : State := s.modSub 1 fun x => { x with inUse := 5 }

/-- A HOLD on segments 1 and 2. -/
def closed (s : State) : State :=
  (s.modSeg 1 fun g => { g with holdCount := 1 }).modSeg 2 fun g => { g with holdCount := 1 }

/-- The last release of timing points 1 and 2 one second inside the separation. -/
def soon (s : State) : State :=
  (s.modTp 1 fun x => { x with lr := some 911 }).modTp 2 fun x => { x with lr := some 911 }

/-- Every state of a run under HOLD_RUN and UNHOLD_RUN, and the checks of RELEASE_RUN one by one, for a standing and for
a PLANNED run. -/
theorem witness_DispatcherRequests :
    BetweenEvents dwelling ∧ Passes dwelling .holdRun (rq 1 1 []) ∧
    Passes (heldByDispatcher (withRun demo (heldFor Causes.onlyMerge))) .unholdRun (rq 1 1 []) ∧
    Passes standing .releaseRun (rq 1 1 []) ∧ Passes planned .releaseRun (rq 1 1 []) ∧
    dwelling.resolveRun (rq 1 1 []).principal = .live 1 ∧ (dwelling.reg 1).dispatcherHold = false ∧
    (withRun demo (heldFor Causes.onlyPower)).runAt 1 = some (heldFor Causes.onlyPower) ∧
    ((heldByDispatcher standing).reg 1).dispatcherHold = true ∧ (heldFor Causes.onlyMerge).causes.merge = true ∧
    (withRun demo (run .released 2)).runAt 1 = some (run .released 2) ∧ planned.runAt 1 = some (run .planned 1) ∧
    standing.runAt 1 = some (run .held 2) ∧ standing.tooSoon (run .held 2) = false ∧
    standing.forcedGates 1 (run .held 2) = Causes.none ∧ standing.point 2 ≠ none ∧
    standing.startCost (run .held 2) = 2 ∧ standing.drawing (standing.drawSection (run .held 2)) = 1 ∧
    standing.available 1 = 6 ∧ (short standing).available 1 = 1 ∧
    (closed standing).forcedGates 1 (run .held 2) ≠ Causes.none ∧
    ((soon standing).tp 2).lr = some 911 ∧ 1000 < 911 + 90 ∧ (run .planned 1).cur = 1 ∧ planned.point 1 ≠ none ∧
    (planned.tp 1).occupant = none ∧ (soon planned).tooSoon (run .planned 1) = true ∧
    planned.tooSoon (run .planned 1) = false ∧ (closed planned).forcedGates 1 (run .planned 1) ≠ Causes.none ∧
    planned.forcedGates 1 (run .planned 1) = Causes.none ∧
    (short planned).available (planned.drawing (planned.drawSection (run .planned 1))) = 1 ∧
    planned.startCost (run .planned 1) = 2 ∧ ((withRun (demo.occupy 1 5) (run .planned 1)).tp 1).occupant ≠ none := by
  simp only [Passes, BetweenEvents]
  decide +kernel

/-- The weights 8 and 9, an action that is none, HALT and RESUME in the modes that take them and in those that do not.
-/
theorem witness_RegulationSet :
    BetweenEvents demo ∧ Passes demo .setRegulation (rq 1 0 [1]) ∧ Passes ready .setRegulation (rq 1 0 [1]) ∧
    WaitingRuns busy ∧ BetweenEvents busy ∧ Passes busy .setRegulation (rq 1 0 [1]) ∧
    busy.runAt 3 = some waiter ∧ (∀ j x, (withRun demo (heldFor Causes.onlyMerge)).runAt j = some x → x.state = .held) ∧
    demo.inService = true ∧ ready.inService = false ∧ (rq 1 0 [1]).regAction = some .halt ∧
    busy.inService = true ∧ busy.drg.mode = .automatic ∧ (rq 1 0 [2]).regAction = some .resume ∧
    (demo.onDrg fun d => { d with mode := .manual }).drg.mode ≠ .automatic ∧
    (rq 1 0 [3, 8]).regAction = some (.weight 8) ∧ (rq 1 0 [3, 9]).regAction = some (.weight 9) ∧
    (rq 1 0 [3, 4]).regAction = some (.weight demo.lds.params.w) ∧ (rq 1 0 [0]).regAction = none :=
  ⟨rfl, passes (by decide +kernel), passes (by decide +kernel), witness_WaitingRunsKept, rfl,
    passes (by decide +kernel), by decide +kernel, forall_runs (P := fun _ x => x.state = .held) (by decide +kernel),
    by decide +kernel⟩

/-- A state whose run in slot 1 has a release timer that is due. -/
def dueRelease (s : State) : State := s.modReg 1 fun x => { x with releaseTimer := some 1000 }

/-- A run HELD without a cause at its first stop, ahead of merge 1. -/
def merging : State := withRun demo (run .held 1)

/-- Run 7, granted merge 1 before, is released again over a span without a merge: the grant stands (R83, R87). -/
theorem test_grant_kept : standing.spanMerge (run .held 2) = none ∧
    (match exec (.retry 1) (standing.modReg 1 fun x => { x with grantedMerge := some 1 }) with
      | .next t => (t.reg 1).grantedMerge == some 1 && (t.runAt 1).any (fun x => x.state == .released)
      | _ => false) = true := by decide +kernel

/-- A grant of merge 1 that is one second short of its separation. -/
def granted (s : State) : State := s.modArbiter 1 fun _ => ⟨some 911, none, none⟩

/-- Run 7 ahead of merge 1, and run 8 that contends for it with an earlier scheduled arrival. -/
def rivals : State :=
  { merging with rtb := { merging.rtb with
      slots := mod1 merging.rtb.slots 2 fun _ => ⟨0, some { run .held 1 with
        number := 8
        causes := Causes.onlyMerge
        stops := [⟨1, .stop, none, some 1000, none, none, none, false⟩,
          ⟨2, .stop, some 1100, some 1130, none, none, none, false⟩,
          ⟨3, .stop, some 1200, none, none, none, none, false⟩] }⟩ } }

/-- Run 7 standing at its second stop, and one run that waits for credits since a given time. -/
def waitingBehind (since : Nat) : State := standing.modSub 1 fun x => { x with queue := [⟨3, 1, 6, since, 0⟩] }

theorem witness_ReleaseAttempted :
    BetweenEvents (dueRelease dwelling) ∧ (dueRelease dwelling).runAt 1 = some (run .dwelling 2) ∧
    (dueRelease dwelling).reached ((dueRelease dwelling).reg 1).releaseTimer = true ∧
    standing.runAt 1 = some (run .held 2) ∧ (run .held 2).causes = Causes.none ∧
    (standing.gates 1 (run .held 2)).2 = Causes.none ∧ standing.point 2 ≠ none ∧
    standing.sub 1 = some ⟨.online, 0, 0, []⟩ ∧ standing.drawing (standing.drawSection (run .held 2)) = 1 ∧
    standing.startCost (run .held 2) ≤ standing.available 1 ∧ (short standing).available 1 < 2 ∧
    (closed standing).plainGates 1 (run .held 2) ≠ Causes.none ∧ merging.spanMerge (run .held 1) = some (1, 1) ∧
    (granted merging).plainGates 1 (run .held 1) = Causes.none ∧
    ((granted merging).gates 1 (run .held 1)).2.merge = true ∧ (granted merging).mergeFree 1 = false ∧
    ((merging.modArbiter 1 fun _ => ⟨none, none, some 9⟩).arbiter 1).holder = some 9 ∧ 9 ≠ merging.runHandle 1 ∧
    8 ≤ ((merging.modMergeList 1 fun _ => [9, 10, 11, 12, 13, 14, 15, 16]).mergeList 1).length ∧
    merging.mergeFree 1 = true ∧ (merging.mergeList 1).length < 8 ∧ (merging.arbiter 1).holder = none ∧
    (∀ j ∈ merging.contenders 1, merging.precedes 1 1 j = true) ∧
    (closed merging).plainGates 1 (run .held 1) ≠ Causes.none ∧
    rivals.plainGates 1 (run .held 1) = Causes.none ∧ rivals.spanMerge (run .held 1) = some (1, 1) ∧
    (∃ j ∈ rivals.contenders 1, j ≠ 1 ∧ rivals.precedes 1 1 j = false) ∧
    ((waitingBehind 1001).gates 1 (run .held 2)).2 = Causes.none ∧
    (insertBy WaitEntry.before ((waitingBehind 1001).waitEntry 1 (run .held 2)) [⟨3, 1, 6, 1001, 0⟩]).head? =
      some ((waitingBehind 1001).waitEntry 1 (run .held 2)) ∧
    (waitingBehind 1001).available 1 < (waitingBehind 1001).startCost (run .held 2) + 6 ∧
    ((waitingBehind 900).modSub 1 fun x => { x with inUse := 1 }).available 1 < 6 ∧
    (insertBy WaitEntry.before ((waitingBehind 900).waitEntry 1 (run .held 2)) [⟨3, 1, 6, 900, 0⟩]).head? =
      some ⟨3, 1, 6, 900, 0⟩ := ⟨rfl, by decide +kernel⟩

/-- A run that contends for the merge ahead of it, the merge's free timer due. -/
def contending : State :=
  (withRun demo { run .held 1 with causes := Causes.onlyMerge }).modArbiter 1 fun _ => ⟨some 910, some 1000, none⟩

/-- What stands RELEASED in the busy line is due: its departure timer and its claim's timer. -/
def busyDue : State :=
  (busy.modReg 1 fun x => { x with departureTimer := some 1000, releaseSegment := some 2 }).putClaim 1
    (some ⟨1, 1, 2, 900, some 1000⟩)

theorem busyDue_waits : WaitingRuns busyDue :=
  onlyWaits.waitingRuns (e := ⟨3, 1, 2, 900, 0⟩) (i := 3) (x := waiter) (by decide +kernel) (by decide +kernel)
    (by decide +kernel) rfl rfl

theorem witness_RegulatorTimersExpire :
    BetweenEvents (released demo) ∧ NobodyWaits (released demo) ∧ WaitingRuns busyDue ∧
    BetweenEvents busyDue ∧ BetweenEvents contending ∧
    busyDue.runAt 1 = some { run .released 2 with claimPresent := true } ∧
    busyDue.reached (busyDue.reg 1).departureTimer = true ∧
    (released demo).runAt 1 = some { run .released 2 with claimPresent := true } ∧
    (released demo).reached ((released demo).reg 1).departureTimer = true ∧
    (released demo).claim 1 = some ⟨1, 1, 2, 900, none⟩ ∧ (released demo).sub 1 = some ⟨.online, 0, 2, []⟩ ∧
    contending.reached (contending.arbiter 1).freeTimer = true ∧ contending.mergeFree 1 = true ∧
    (contending.arbiter 1).holder = none ∧ contending.contenders 1 = [1] ∧
    (∀ j ∈ contending.contenders 1, contending.precedes 1 1 j = true) ∧ (contending.mergeList 1).length < 8 ∧
    (contending.modArbiter 1 fun _ => ⟨some 911, some 1000, none⟩).mergeFree 1 = false :=
  ⟨rfl, nobodyWaits_of (by decide +kernel), busyDue_waits, rfl, rfl, by decide +kernel⟩

/-- The due claim of a released run. -/
def dueClaim : State := (released demo).putClaim 1 (some ⟨1, 1, 2, 900, some 1000⟩)

/-- Substation 1 with 5 credits withheld and a run waiting for 4. -/
def withholding : State := demo.modSub 1 fun x => { x with withheld := 5, queue := [⟨1, 1, 4, 900, 0⟩] }

theorem witness_CreditsWithheldAndReturned :
    BetweenEvents demo ∧ Passes demo .setWithhold (rq 2 0 [1, 15]) ∧ Passes ready .setWithhold (rq 2 0 [1, 15]) ∧
    NobodyWaits dueClaim ∧ BetweenEvents busyDue ∧ WaitingRuns busyDue ∧ WaitsNowhere busyDue 1 ∧
    demo.inService = true ∧ ready.inService = false ∧
    demo.sub ((rq 2 0 [1, 15]).u8 0) = some ⟨.online, 0, 0, []⟩ ∧ (rq 2 0 [1, 15]).u8 1 = 15 ∧
    (rq 2 0 [1, 0]).u8 1 = 0 ∧ demo.sub ((rq 2 0 [8, 0]).u8 0) = none ∧ (rq 2 0 [0, 0]).u8 0 = 0 ∧
    (rq 2 0 [9, 16]).u8 0 = 9 ∧ (rq 2 0 [9, 16]).u8 1 = 16 ∧
    withholding.sub 1 = some ⟨.online, 5, 0, [⟨1, 1, 4, 900, 0⟩]⟩ ∧
    4 ≤ effective ((withholding.substationDef 1).getD 0) .online - 2 - 0 ∧
    dueClaim.claim 1 = some ⟨1, 1, 2, 900, some 1000⟩ ∧ dueClaim.reached (some 1000) = true ∧
    dueClaim.sub 1 = some ⟨.online, 0, 2, []⟩ ∧
    dueClaim.runAt 1 = some { run .released 2 with claimPresent := true } ∧
    busyDue.claim 1 = some ⟨1, 1, 2, 900, some 1000⟩ ∧ busyDue.reached (some 1000) = true ∧
    busyDue.sub 1 = some ⟨.online, 0, 2, [⟨3, 1, 2, 900, 0⟩]⟩ ∧
    busyDue.runAt 1 = some { run .released 2 with claimPresent := true } :=
  ⟨rfl, passes (by decide +kernel), passes (by decide +kernel), nobodyWaits_of (by decide +kernel), rfl,
    busyDue_waits, waitsNowhere (by decide +kernel), by decide +kernel⟩

/-- A state whose section 1 is in a state, with a manual isolation or not and a number of references. -/
def section1 (st : SecState) (manual : Bool) (refs : Nat) : State :=
  demo.modSec 1 fun _ => ⟨st, manual, refs, some 1000, some (1000, .openOrder), true⟩

/-- Both commands in SETUP, at the section numbers 0, 16 and 17, and a section in each state they tell apart. -/
theorem witness_SectionIsolatedAndEnergised :
    WaitingRuns busy ∧ BetweenEvents busy ∧ Passes busy .isolateSection (rq 2 0 [1]) ∧
    busy.sec 1 = some ⟨.energised, false, 0, none, none, false⟩ ∧ busy.spanIn 1 waiter = true ∧
    BetweenEvents demo ∧ Passes demo .isolateSection (rq 2 0 [1]) ∧ Passes ready .energiseSection (rq 0 0 [1]) ∧
    Passes demo .energiseSection (rq 2 0 [17]) ∧ Passes demo .isolateSection (rq 2 0 [16]) ∧
    ready.inService = false ∧ (rq 2 0 [0]).u8 0 = 0 ∧ 16 < (rq 2 0 [17]).u8 0 ∧ (rq 2 0 [16]).u8 0 ≤ 16 ∧
    demo.sec ((rq 2 0 [16]).u8 0) = none ∧
    (section1 .unknown true 0).sec 1 = some ⟨.unknown, true, 0, some 1000, some (1000, .openOrder), true⟩ ∧
    (section1 .energised false 0).sec 1 = some ⟨.energised, false, 0, some 1000, some (1000, .openOrder), true⟩ ∧
    (section1 .closing false 0).sec 1 = some ⟨.closing, false, 0, some 1000, some (1000, .openOrder), true⟩ ∧
    Passes (section1 .isolated true 0) .energiseSection (rq 2 0 [1]) ∧ demo.inService = true ∧
    demo.sec ((rq 2 0 [1]).u8 0) = some ⟨.energised, false, 0, none, none, false⟩ ∧
    demo.sectionDef 1 = some ⟨0, 3000, 1, none, 120⟩ ∧ ((section1 .isolated true 0).sec 1).any (·.manual) = true ∧
    (section1 .opening true 0).sec 1 = some ⟨.opening, true, 0, some 1000, some (1000, .openOrder), true⟩ ∧
    (section1 .draining true 0).sec 1 = some ⟨.draining, true, 0, some 1000, some (1000, .openOrder), true⟩ ∧
    (section1 .isolated true 1).sec 1 = some ⟨.isolated, true, 1, some 1000, some (1000, .openOrder), true⟩ ∧
    (demo.modSec 1 fun _ => ⟨.opening, true, 0, none, some (1030, .openOrder), false⟩).sec 1 =
      some ⟨.opening, true, 0, none, some (1030, .openOrder), false⟩ := by
  refine ⟨witness_WaitingRunsKept, ?_⟩
  simp only [Passes, BetweenEvents]
  decide +kernel

/-- The busy line while its section drains, the drain timer due. -/
def busyDraining : State := busy.modSec 1 fun _ => ⟨.draining, true, 0, some 1000, none, false⟩

theorem witness_SectionsMoved :
    WaitingRuns busyDraining ∧ WaitingRuns busy ∧ WaitsNowhere busyDraining 1 ∧ BetweenEvents busyDraining ∧
    busyDraining.sec 1 = some ⟨.draining, true, 0, some 1000, none, false⟩ ∧
    busyDraining.claim 1 = some ⟨1, 1, 2, 900, none⟩ ∧ busyDraining.runAt 3 = some waiter ∧
    busyDraining.spanIn 1 waiter = true ∧ busy.sec 1 = some ⟨.energised, false, 0, none, none, false⟩ ∧
    BetweenEvents (section1 .draining true 0) ∧ NobodyWaits (section1 .draining true 0) ∧ BetweenEvents demo ∧
    NobodyWaits demo ∧
    (section1 .draining true 0).sec 1 = some ⟨.draining, true, 0, some 1000, some (1000, .openOrder), true⟩ ∧
    demo.reached (some 1000) = true ∧
    (section1 .opening true 0).sec 1 = some ⟨.opening, true, 0, some 1000, some (1000, .openOrder), true⟩ ∧
    1000 ≤ (section1 .opening true 0).lck.clock ∧ (section1 .opening true 0).freeInc = some 1 ∧
    demo.sectionDef 2 = none ∧ demo.sectionDef 1 = some ⟨0, 3000, 1, none, 120⟩ ∧
    demo.sec 1 = some ⟨.energised, false, 0, none, none, false⟩ ∧ demo.freeInc = some 1 ∧
    (section1 .isolated true 0).sec 1 = some ⟨.isolated, true, 0, some 1000, some (1000, .openOrder), true⟩ ∧
    SecLive.count ⟨.isolated, true, 0, some 1000, some (1000, .openOrder), true⟩ ≠ 0 ∧
    SecLive.reported ⟨.isolated, false, 0, none, none, false⟩ .isOpen 0 = ⟨.isolated, false, 0, none, none, false⟩ :=
  ⟨onlyWaits.waitingRuns (e := ⟨3, 1, 2, 900, 0⟩) (i := 3) (x := waiter) (by decide +kernel) (by decide +kernel)
      (by decide +kernel) rfl rfl,
    witness_WaitingRunsKept, waitsNowhere (by decide +kernel), rfl, by decide +kernel, by decide +kernel,
    by decide +kernel, by decide +kernel, by decide +kernel, rfl, nobodyWaits_of (by decide +kernel), rfl,
    nobodyWaits_of (by decide +kernel), by decide +kernel⟩

theorem witness_SubstationReported :
    BetweenEvents demo ∧ NobodyWaits demo ∧ demo.substationDef 8 = none ∧ demo.substationDef 1 = some 6 ∧
    demo.sub 1 = some ⟨.online, 0, 0, []⟩ ∧ SupplyState.online ≠ .offline :=
  ⟨rfl, nobodyWaits_of (by decide +kernel), by decide +kernel⟩

/-- Section 1 fed from substation 1 or else 2, and run 7 waiting at substation 1, which has one credit left. -/
def twoFeeders : State :=
  { withRun demo (heldFor Causes.onlyPower) with
    lds := { line with
      substations := put line.substations 2 (some 6)
      sections := put line.sections 1 (some ⟨0, 3000, 1, some 2, 120⟩) }
    tpc := { demo.tpc with
      subs := put (put demo.tpc.subs 1 (some ⟨.online, 0, 5, [⟨1, 1, 2, 900, 0⟩]⟩)) 2 (some ⟨.online, 0, 0, []⟩) } }

/-- With substation 1 OFFLINE the waiting run moves to substation 2, which grants it. -/
theorem witness_SubstationReported_moves :
    WaitingRuns twoFeeders ∧
    (∀ k y, twoFeeders.sub k = some y → y.queue.Pairwise fun a b => a.before b = true) ∧
    twoFeeders.sub 1 = some ⟨.online, 0, 5, [⟨1, 1, 2, 900, 0⟩]⟩ ∧ twoFeeders.substationDef 1 = some 6 ∧
    (match exec (.substation 1 .offline) twoFeeders with
      | .next t => decide (t.claim 1 = some ⟨2, 1, 2, 1000, none⟩ ∧ twoFeeders.movedTo t 2 = [⟨1, 1, 2, 900, 0⟩] ∧
        twoFeeders.movedTo t 1 = [])
      | _ => false) = true := by
  have h : onlyWaits twoFeeders ⟨1, 1, 2, 900, 0⟩ := by decide +kernel
  refine ⟨h.waitingRuns (i := 1) (x := heldFor Causes.onlyPower) (by decide +kernel) (by decide +kernel) rfl rfl,
    fun k z hz => ?_, by decide +kernel⟩
  rcases h.at hz with hq | ⟨-, hq⟩ <;> rw [hq]
  · exact List.Pairwise.nil
  · exact List.pairwise_singleton _ _

/-! ### Incidents, passenger information and the field link -/

/-- A RAISE_INCIDENT body: PASSENGER_ALARM at severity 4, a HOLD over 0 to 65,535 both ways, no runs, no announcement.
-/
def raiseBody : List Byte := [4, 4, 1, 1, 0, 0, 255, 255, 3, 0, 0, 0, 0]

/-- The announcement of a RAISE_INCIDENT body: phrase 9, class 5, zone group 1, twice, interval 4, start now, and the
expiry in three bytes. -/
def annBody (expiry : List Byte) : List Byte := [1, 9, 0, 5, 1, 1, 0, 0, 2, 0, 4, 255, 255, 255] ++ expiry

/-- What that announcement specifies. -/
def raised (expiry : Option Nat) : AnnSpec := ⟨[9], 5, .groups [1], 2, 4, none, expiry⟩

/-- Each refusal in its turn, then an incident with a HOLD and one with an announcement, refused and taken. -/
theorem witness_IncidentRaised :
    BetweenEvents demo ∧ Passes demo .raiseIncident (rq 0 0 raiseBody) ∧ Passes ready .raiseIncident (rq 0 0 raiseBody) ∧
    demo.inService = true ∧ ready.inService = false ∧
    (rq 0 0 raiseBody).raise = some ⟨.passengerAlarm, 4, [⟨.hold, 0, 65535, .both, 0⟩], [], none⟩ ∧
    (rq 0 0 []).raise = none ∧
    (rq 0 0 ([4, 4, 0, 0, 1] ++ annBody [231, 3, 0])).raise =
      some ⟨.passengerAlarm, 4, [], [], some (raised (some 999))⟩ ∧
    demo.timesInRange (raised (some 999)) = false ∧ demo.timesInRange (raised (some 1001)) = true ∧
    (demo.roleOf (rq 0 0 raiseBody)).mayRestrict .hold = true ∧
    (demo.roleOf (rq 2 0 raiseBody)).mayRestrict .hold = false ∧ demo.unresolvedRun [] = none ∧
    dwelling.unresolvedRun [257] = some (.stale, 257) ∧ demo.fullRun [] = none ∧
    (withRun demo { run .dwelling 2 with incidents := [5, 6, 7, 8] }).fullRun [1] = some 1 ∧
    (fullIncidents demo).freeInc = none ∧ demo.freeInc = some 1 ∧
    demo.liveIncs.any (fun x => x.2.number == demo.itb.nextNumber) = false ∧
    demo.postRefusal { raised none with target := .followRun 5 } none ≠ none ∧ demo.postRefusal (raised none) none = none ∧
    demo.freeAnn = some 1 ∧ get0 demo.piu.classMap 5 = some 1 ∧ (demo.chan 1).state ≠ .ready := by
  simp only [Passes, BetweenEvents]
  decide +kernel

/-- A state with a RAISED incident in slot 1. -/
def alarmed : State := withInc demo (incident .raised)

theorem witness_IncidentAcknowledgedOrEscalated :
    BetweenEvents alarmed ∧ Passes alarmed .ackIncident (rq 1 1 []) ∧ alarmed.incAt 1 = some (incident .raised) ∧
    alarmed.resolveInc (rq 1 1 []).principal = .live 1 ∧
    (incident .raised).manages (alarmed.roleOf (rq 1 1 [])) = true ∧
    (incident .raised).manages (alarmed.roleOf (rq 3 1 [])) = false ∧ (incident .acknowledged).state = .acknowledged ∧
    (incident .cleared).state = .cleared ∧ alarmed.reached (incident .raised).escalation = true ∧
    { incident .raised with severity := 3 }.severity < 4 ∧ 4 ≤ { incident .raised with severity := 4 }.severity := by
  simp only [Passes, BetweenEvents]
  decide +kernel

/-- An incident with one HOLD restriction under number 1. -/
def restricting : Incident := { incident .raised with restrictions := [⟨1, ⟨.hold, 0, 65535, .both, 0⟩⟩] }

/-- A state with that incident in slot 1. -/
def restricted : State := withInc demo restricting

/-- An incident with four restrictions. -/
def filled : Incident :=
  { incident .raised with restrictions := (ids 4).map fun n => ⟨n, ⟨.skip, 0, 1, .both, 0⟩⟩ }

/-- An incident with one SKIP over every timing point, and the demo line under it with a run whose stop is marked. -/
def skipping : Incident := { incident .raised with restrictions := [⟨1, ⟨.skip, 0, 65535, .both, 0⟩⟩] }

/-- A SKIP at the timing points 1 to 4 for the stops of a DWELLING run, put in force and lifted; a SLOW beside a HOLD, a
HOLD over the waiting run of the busy line, and the refusals of both requests: a kind that is none, a role, a cleared
incident, four restrictions; the numbers 0, 1, 4 and 5. -/
theorem witness_RestrictionsInForce :
    BetweenEvents restricted ∧
    (∀ x ∈ [(ReqKind.addRestriction, rq 0 1 [2, 0, 0, 255, 255, 3, 200, 0]), (.liftRestriction, rq 0 1 [1]),
      (.liftRestriction, rq 2 1 [1])], Passes restricted x.1 x.2) ∧
    Passes linked .addRestriction (rq 0 1 [4, 0, 0, 255, 255, 3, 0, 0]) ∧
    Passes (withInc dwelling skipping) .liftRestriction (rq 0 1 [1]) ∧
    Passes busy .addRestriction (rq 0 1 [1, 0, 0, 255, 255, 3, 0, 0]) ∧ WaitingRuns busy ∧
    (rq 0 1 [4, 0, 0, 255, 255, 3, 0, 0]).restriction 0 = some ⟨.skip, 0, 65535, .both, 0⟩ ∧
    linked.runAt 1 = some (run .dwelling 2) ∧ (run .dwelling 2).count = 3 ∧
    linked.underSkip ⟨.skip, 0, 65535, .both, 0⟩ 2 = true ∧ linked.covered 2 = false ∧
    (withInc dwelling skipping).covered 2 = true ∧ (withInc dwelling skipping).incAt 1 = some skipping ∧
    linked.point 2 = some ⟨.up, 1000, 2, 25, 90, 60, true⟩ ∧ get1 linked.piu.zones 2 = some ⟨.none, .none⟩ ∧
    busy.incAt 1 = some (incident .raised) ∧
    (rq 0 1 [1, 0, 0, 255, 255, 3, 0, 0]).restriction 0 = some ⟨.hold, 0, 65535, .both, 0⟩ ∧
    restricted.resolveInc (rq 0 1 [1]).principal = .live 1 ∧ restricted.incAt 1 = some restricting ∧
    (rq 0 1 [2, 0, 0, 255, 255, 3, 200, 0]).restriction 0 = some ⟨.slow, 0, 65535, .both, 200⟩ ∧
    (rq 0 1 [5, 0, 0, 255, 255, 3, 0, 0]).restriction 0 = none ∧
    (restricted.roleOf (rq 0 1 [])).mayRestrict .slow = true ∧
    (restricted.roleOf (rq 2 1 [])).mayRestrict .slow = false ∧ restricting.state ≠ .cleared ∧
    (incident .cleared).state = .cleared ∧ restricting.freeNumber = some 2 ∧
    filled.freeNumber = none ∧ filled.restrictions.map (·.number) = [1, 2, 3, 4] ∧
    (rq 0 1 [1]).u8 0 = 1 ∧ (rq 0 1 [4]).u8 0 = 4 ∧ (rq 0 1 [0]).u8 0 = 0 ∧ (rq 0 1 [5]).u8 0 = 5 ∧
    restricting.restrictions.find? (fun q => q.number == 1) = some ⟨1, ⟨.hold, 0, 65535, .both, 0⟩⟩ ∧
    (restricted.roleOf (rq 2 1 [])).mayRestrict .hold = false ∧ (∀ q ∈ restricting.restrictions, q.number ≠ 4) :=
  ⟨rfl, allPass (by decide +kernel), passes (by decide +kernel), passes (by decide +kernel), passes (by decide +kernel),
    witness_WaitingRunsKept, by decide +kernel⟩

theorem witness_IncidentsLinked :
    BetweenEvents linked ∧ Passes linked .linkRun (rq 0 1 [1, 0, 1]) ∧
    Passes linked .linkAnnouncement (rq 0 1 [1, 0, 1]) ∧ linked.resolveInc (rq 0 1 [1, 0, 1]).principal = .live 1 ∧
    linked.incAt 1 = some (incident .raised) ∧ linked.resolveRun ((rq 0 1 [1, 0, 1]).u16 0) = .live 1 ∧
    linked.runAt 1 = some (run .dwelling 2) ∧ (rq 0 1 [1, 0, 1]).u8 2 = 1 ∧ (rq 0 1 [1, 0, 2]).u8 2 = 2 ∧
    (rq 0 1 [1, 0, 0]).u8 2 = 0 ∧ (rq 0 1 [1, 0, 3]).u8 2 = 3 ∧ (incident .raised).runs = [] ∧
    (run .dwelling 2).incidents = [] ∧ linked.resolveAnn ((rq 0 1 [1, 0, 1]).u16 0) = .live 1 ∧
    linked.annAt 1 = some (announcement .queued) ∧ (announcement .queued).linkedInc = none ∧
    1 ∈ { incident .raised with runs := [1], anns := [1] }.runs ∧ (incident .cleared).state = .cleared ∧
    4 ≤ { incident .raised with runs := [2, 3, 4, 5] }.runs.length ∧
    4 ≤ { run .dwelling 2 with incidents := [2, 3, 4, 5] }.incidents.length ∧
    { announcement .queued with linkedInc := some 2 }.linkedInc ≠ none := by
  simp only [Passes, BetweenEvents]
  decide +kernel

/-- A RAISED incident whose announcement is linked to it from both sides. -/
def announced : State :=
  linkable { incident .raised with anns := [1] } (run .dwelling 2) { announcement .queued with linkedInc := some 1 }

theorem witness_IncidentClearedAndRetired :
    BetweenEvents paired ∧ Passes paired .retireIncident (rq 0 1 []) ∧ paired.resolveInc 1 = .live 1 ∧
    paired.incAt 1 = some { incident .cleared with runs := [1] } ∧
    paired.runAt 1 = some { run .cancelled 2 with incidents := [1] } ∧ paired.runHandle 1 = 1 ∧
    BetweenEvents restricted ∧ Passes restricted .clearIncident (rq 0 1 []) ∧
    Passes announced .clearIncident (rq 0 1 []) ∧ Passes (withInc demo (incident .cleared)) .retireIncident (rq 0 1 []) ∧
    (∀ c, look (withInc demo (incident .cleared)).itb.pendingSet c = none) ∧
    restricted.resolveInc (rq 0 1 []).principal = .live 1 ∧ restricted.incAt 1 = some restricting ∧
    (∀ q ∈ restricting.restrictions, q.spec.kind ≠ .slow) ∧
    (∀ p ∈ planned.liveRuns, p.2.state ≠ .dwelling ∧ p.2.state ≠ .held) ∧
    restricting.manages (restricted.roleOf (rq 0 1 [])) = true ∧
    restricting.manages (restricted.roleOf (rq 3 1 [])) = false ∧ restricting.state = .raised ∧
    (restricted.canTake && (restricted.portRefusal (some .retireIncident) (rq 3 1 [])).isNone) = true ∧
    announced.incAt 1 = some { incident .raised with anns := [1] } ∧
    (announced.annOf 1).any (fun a => a.linkedInc == some (announced.incHandle 1)) = true ∧
    announced.annAt 1 = some { announcement .queued with linkedInc := some 1 } ∧ announced.annHandle 1 = 1 ∧
    (withInc demo (incident .cleared)).incAt 1 = some (incident .cleared) ∧
    ((withInc demo (incident .cleared)).enterPending .trip (.ofSection 16)).firstPending =
      some (.trip, ⟨.ofSection 16, 1⟩) := by
  refine ⟨rfl, passes (by decide +kernel), by decide +kernel, by decide +kernel, by decide +kernel, by decide +kernel,
    rfl, passes (by decide +kernel), passes (by decide +kernel), passes (by decide +kernel), fun c => ?_,
    by decide +kernel⟩
  by_contra h
  obtain ⟨x, hx⟩ := Option.ne_none_iff_exists'.1 h
  exact h ((by decide +kernel : ∀ c ∈ ids 5, look (withInc demo (incident .cleared)).itb.pendingSet c = none) c
    (mem_ids.2 (look_some_range hx)))

/-- A POST_ANNOUNCEMENT body: phrase 4095, class 5, zone group 1, twice, interval 4, no expiry, no linked run, and the
start time given in three bytes. -/
def postBody (start : List Byte) : List Byte := [1, 255, 15, 5, 1, 1, 0, 0, 2, 0, 4] ++ start ++ [255, 255, 255, 0, 0]

/-- What that body specifies. -/
def posted (start : Option Nat) : AnnSpec := ⟨[4095], 5, .groups [1], 2, 4, start, none⟩

/-- The demo line with channel 1 READY. -/
def ready1 : State := demo.modChan 1 fun c => { c with state := .ready }

/-- A post without a run handle and without an expiry finds a slot in the demo line. -/
theorem posted_taken (code : AnswerCode) (h : Nat) : ¬PostRefused demo (posted none) none code h := by
  rintro (⟨⟨e, he, _⟩, _⟩ | ⟨_, b, a, hs, _⟩ | ⟨_, _, ⟨_, b, a, hs, _⟩ | ⟨_, _, hf, _⟩⟩)
  · exact absurd he (by simp [posted])
  · exact absurd hs (by simp [postedRuns, posted])
  · exact absurd hs (by simp [postedRuns, posted])
  · exact hf 1 (by decide) (by decide) (by decide +kernel)

/-- Every slot of the announcement table live. -/
def fullAnns (s : State) : State :=
  s.onPiu fun t => { t with slots := Vector.replicate 96 ⟨0, some (announcement .resting)⟩ }

/-- One post for each row of refusals: an expiry that has passed, a linked run that is not live, one under another
generation, one that has ended, and a full table. -/
theorem witness_PostRefused :
    PostRefused demo { posted none with expiry := some 1000 } none .outOfRange 0 ∧
    PostRefused demo (posted none) (some 2) .notFound 2 ∧ PostRefused dwelling (posted none) (some 257) .stale 257 ∧
    PostRefused (withRun demo (run .cancelled 2)) (posted none) (some 1) .badState 1 ∧
    PostRefused (fullAnns demo) (posted none) none .full 0 := by
  have nl : ∀ s, ¬Late s (posted none) := fun s h => by
    obtain ⟨e, he, _⟩ := h
    exact absurd he (by simp [posted])
  refine ⟨.inl ⟨⟨1000, rfl, .inl (by decide)⟩, rfl, rfl⟩,
    .inr (.inl ⟨nl _, [], [], rfl, fun g hg => absurd hg (by simp), by decide, .inr (.inr (by decide +kernel))⟩),
    .inr (.inl ⟨nl _, [], [], rfl, fun g hg => absurd hg (by simp), by decide +kernel, by decide +kernel⟩),
    .inr (.inr ⟨nl _, fun g hg => ⟨1, ?_⟩, .inl ⟨rfl, [], [], rfl, fun g hg => absurd hg (by simp), run .cancelled 2,
      by decide +kernel, .inr rfl⟩⟩),
    .inr (.inr ⟨nl _, fun g hg => absurd hg (by simp [postedRuns, posted]), .inr ⟨rfl, rfl, fun i h h' => ?_,
      fun g hg => absurd hg (by simp [postedRuns, posted])⟩⟩)⟩
  · obtain rfl : g = 1 := by simpa [postedRuns, posted] using hg
    decide +kernel
  · exact (by decide +kernel : ∀ i ∈ ids 96, (fullAnns demo).annAt i ≠ none) i (mem_ids.2 ⟨h, h'⟩)

theorem witness_AnnouncementPosted :
    (∀ code h, ¬PostRefused demo (posted none) none code h) ∧ Passes ready .postAnnouncement (rq 3 0 []) ∧
    (rq 3 0 []).post = none ∧ Passes demo .postAnnouncement (rq 3 0 []) ∧ ready.inService = false ∧
    BetweenEvents demo ∧ Passes demo .postAnnouncement (rq 3 0 (postBody [255, 255, 255])) ∧
    Passes ready1 .postAnnouncement (rq 3 0 (postBody [255, 255, 255])) ∧ demo.inService = true ∧
    (rq 3 0 (postBody [255, 255, 255])).post = some (posted none, none) ∧
    (rq 3 0 (postBody [233, 3, 0])).post = some (posted (some 1001), none) ∧ demo.lck.clock = 1000 ∧
    demo.freeAnn = some 1 ∧ get0 demo.piu.classMap 5 = some 1 ∧
    (demo.chan 1).state ≠ .ready ∧ (ready1.chan 1).state = .ready ∧ (ready1.chan 1).onAir = none ∧
    (ready1.chan 1).queue = [] ∧ (ready1.chan 1).stack = [] ∧ (ready1.chan 1).occupancy < 16 ∧
    ready1.targetZones (posted none).target &&& ~~~ ready1.blockedZones 5 ≠ 0 := by
  refine ⟨posted_taken, ?_⟩
  simp only [Passes, BetweenEvents]
  decide +kernel

/-- A state with a QUEUED announcement in slot 1. -/
def queued : State := withAnn demo (announcement .queued)

theorem witness_AnnouncementEnded :
    BetweenEvents queued ∧ Passes queued .withdrawAnnouncement (rq 3 1 []) ∧
    Passes queued .withdrawAnnouncement (rq 2 1 []) ∧ queued.annAt 1 = some (announcement .queued) ∧
    queued.resolveAnn (rq 3 1 []).principal = .live 1 ∧
    (announcement .queued).owner = .client (rq 3 1 []).client.toNat ∧
    (announcement .queued).owner ≠ .client (rq 2 1 []).client.toNat ∧ queued.roleOf (rq 2 1 []) = .power ∧
    queued.reached (announcement .queued).expiryTimer = true := by
  simp only [Passes, BetweenEvents]
  decide +kernel

/-- The demo line with channel 1 DISABLED, its window not empty and its last status READY. -/
def stopped : State := demo.modChan 1 fun c => { c with lastStatus := some .ready, producer := 5, consumer := 3 }

/-- The last class, channel and zone and the first values behind them; a class that stays and one that moves; a channel
enabled in SETUP, from DISABLED and from HALTING, and one disabled. -/
theorem witness_PassengerSettingsWritten :
    BetweenEvents demo ∧
    (∀ x ∈ [(ReqKind.setClassMap, rq 3 0 [6, 3]), (.setClassMap, rq 3 0 [7, 4]), (.setChannelPolicy, rq 3 0 [3, 3]),
      (.setChannelPolicy, rq 3 0 [4, 0]), (.setZoneBlock, rq 3 0 [32, 2]), (.setZoneBlock, rq 3 0 [33, 3]),
      (.enableChannel, rq 3 0 [3]), (.enableChannel, rq 3 0 [4]), (.disableChannel, rq 3 0 [4])],
      Passes demo x.1 x.2) ∧
    Passes stopped .enableChannel (rq 3 0 [1]) ∧ (stopped.chan 1).state = .disabled ∧
    (stopped.chan 1).lastStatus = some .ready ∧ (stopped.chan 1).consumer ≠ (stopped.chan 1).producer ∧
    Passes ready .enableChannel (rq 3 0 [3]) ∧ Passes ready1 .disableChannel (rq 3 0 [1]) ∧
    (∀ j a, demo.annAt j = some a → a.spec.cls ≠ 6) ∧
    (rq 3 0 [6, 3]).u8 0 = 6 ∧ (rq 3 0 [6, 3]).u8 1 = 3 ∧ 6 < (rq 3 0 [7, 4]).u8 0 ∧ 3 < (rq 3 0 [7, 4]).u8 1 ∧
    get0 demo.piu.classMap 6 = some 2 ∧ (demo.chan 2).state = .disabled ∧ (demo.chan 3).state = .disabled ∧
    (withAnn demo (announcement .resting)).annAt 1 = some (announcement .resting) ∧
    WindowPolicy.ofCode ((rq 3 0 [3, 3]).u8 1) = some .drop ∧ (demo.chan 3).policy ≠ .drop ∧
    WindowPolicy.ofCode ((rq 3 0 [4, 0]).u8 1) = none ∧ get1 demo.piu.zones ((rq 3 0 [32, 2]).u8 0) = some ⟨.none, .none⟩ ∧
    BlockLevel.ofCode ((rq 3 0 [32, 2]).u8 1) = some .all ∧ 32 < (rq 3 0 [33, 3]).u8 0 ∧
    BlockLevel.ofCode ((rq 3 0 [33, 3]).u8 1) = none ∧ (rq 3 0 [3]).u8 0 ≤ 3 ∧ 3 < (rq 3 0 [4]).u8 0 ∧
    (demo.chan 3).lastStatus ≠ some .ready ∧ demo.inService = true ∧ ready.inService = false ∧
    (ready1.chan 1).state = .ready ∧ ((demo.modChan 1 fun c => { c with state := .halting }).chan 1).state = .halting :=
  ⟨rfl, allPass (by decide +kernel), passes (by decide +kernel), by decide +kernel, by decide +kernel,
    by decide +kernel, passes (by decide +kernel), passes (by decide +kernel),
    forall_anns (P := fun _ a => a.spec.cls ≠ 6) (by decide +kernel), by decide +kernel⟩

/-- The demo line with an announcement on air at channel 1 under token 4. -/
def onAir (left : Nat) : State :=
  (withAnn demo { announcement .onAir with remaining := left }).modChan 1 fun c =>
    { c with state := .ready, onAir := some 1, producer := 5, consumer := 3 }

theorem witness_PaReportsTaken :
    (onAir 2).resolveAnn 1 = .live 1 ∧ ((onAir 2).chan 1).onAir = some 1 ∧ ((onAir 2).chan 1).state = .ready ∧
    (announcement .onAir).due = some 900 ∧
    ((demo.modChan 1 fun c => { c with state := .pending, producer := 5, consumer := 3 }).chan 1).state = .pending ∧
    BetweenEvents (onAir 2) ∧
    (∀ c, (onAir 2).annHandle 1 ∉ ((onAir 2).chan c).queue ∧ (onAir 2).annHandle 1 ∉ ((onAir 2).chan c).stack) ∧
    (∀ c, c ≠ (1 : Byte).toNat → ((onAir 2).chan c).onAir ≠ some ((onAir 2).annHandle 1)) ∧
    (onAir 2).onAirWith 1 4 = some 1 ∧ (onAir 2).onAirWith 1 5 = none ∧
    (onAir 2).annAt 1 = some { announcement .onAir with remaining := 2 } ∧ (onAir 1).onAirWith 1 4 = some 1 ∧
    (onAir 1).annAt 1 = some { announcement .onAir with remaining := 1 } ∧ (announcement .onAir).spec.repeatCount ≠ 0 ∧
    (3 : Byte).toNat ≤ 3 ∧ 3 < (4 : Byte).toNat ∧ ((onAir 2).chan 1).occupancy = 2 ∧
    ((5 : Half) - ((onAir 2).chan 1).consumer).toNat = 2 ∧ ((6 : Half) - ((onAir 2).chan 1).consumer).toNat = 3 :=
  ⟨by decide +kernel, by decide +kernel, by decide +kernel, rfl, by decide +kernel, rfl,
    forall_chans (P := fun x => (onAir 2).annHandle 1 ∉ x.queue ∧ (onAir 2).annHandle 1 ∉ x.stack)
      (by decide +kernel) (by decide +kernel), fun c hc h => by
    match c with
    | 0 | 2 | 3 => exact absurd h (by decide +kernel)
    | 1 => exact hc rfl
    | c + 4 => rw [show ((onAir 2).chan (c + 4)).onAir = none from rfl] at h; simp at h,
    by decide +kernel⟩

theorem witness_AnnouncementBecomesDue :
    BetweenEvents (withAnn demo { announcement .scheduled with nextDue := some 1000 }) ∧
    (withAnn demo { announcement .scheduled with nextDue := some 1000 }).annAt 1 =
      some { announcement .scheduled with nextDue := some 1000 } ∧ 1000 ≤ demo.lck.clock ∧
    (announcement .scheduled).channel ≤ 3 ∧ (demo.chan 1).state ≠ .ready ∧
    (withAnn ready1 (announcement .resting)).annAt 1 = some (announcement .resting) ∧
    (announcement .resting).nextDue = some 950 ∧ ((withAnn ready1 (announcement .resting)).chan 1).state = .ready ∧
    ((withAnn ready1 (announcement .resting)).chan 1).queue = [] ∧
    (withAnn ready1 (announcement .resting)).zoneSet ((withAnn ready1 (announcement .resting)).annHandle 1) ≠ 0 :=
  ⟨rfl, by decide +kernel⟩

/-- The demo line with announcements in the slots 1 and 2 and with channel 1 as given. -/
def served (a b : Announcement) (f : Channel → Channel) : State :=
  ((withAnn demo a).onPiu fun t => { t with slots := mod1 t.slots 2 fun _ => ⟨0, some b⟩ }).modChan 1 f

/-- An announcement of a class whose repeat timer is due, RESTING at channel 1. -/
def resting (cls : Nat) : Announcement :=
  { announcement .resting with spec := { (announcement .resting).spec with cls := cls } }

/-- An announcement of a class on air at channel 1 under token 9. -/
def playing (cls : Nat) : Announcement :=
  { announcement .onAir with spec := { (announcement .onAir).spec with cls := cls }, token := some 9, nextDue := none }

/-- Channel 1 is closed behind a queued announcement; READY with room, with a full window under each policy, with an
announcement on air behind an empty and a full stack and at the last occupancy that lets a preemption through and the
first that does not; and READY with a suspended announcement. -/
theorem witness_AnnouncementBecomesDue_served :
    FallsDue (served (resting 4) (playing 3) id) (.repeatTimerExpiry 1) 1 950 (resting 4) ∧
    FallsDue (served { resting 7 with state := .scheduled } (playing 7) id) (.startTimerExpiry 1) 1 950
      { resting 7 with state := .scheduled } ∧
    QueueOrdered (served (resting 5) { announcement .queued with nextDue := none } fun c => { c with queue := [2] }) [2] ∧
    (served (resting 4) (playing 3) id).annHandle 1 = 1 ∧ (served (resting 4) (playing 3) id).annHandle 2 = 2 ∧
    (∀ c ∈ ({ Channel.reset with state := .ready } : Channel) ::
        [.wait, .redirect, .drop].map fun p => { Channel.reset with state := .ready, producer := 16, policy := p },
      c.onAir = none ∧ c.queue = [] ∧ c.stack = []) ∧
    ({ Channel.reset with producer := 16 } : Channel).occupancy = 16 ∧
    ({ Channel.reset with producer := 14 } : Channel).occupancy = 14 ∧
    ({ Channel.reset with producer := 15 } : Channel).occupancy = 15 ∧
    (served (resting 4) (playing 3) id).zoneSet 1 ≠ 0 ∧
    ((served (resting 4) (playing 3) id).onPiu fun t => { t with zones := mod1 t.zones 1 fun _ => ⟨.all, .none⟩ }).zoneSet
      1 = 0 ∧
    (resting 1).spec.cls = 1 ∧ (resting 6).spec.cls = 6 ∧ (resting 4).channel ≠ 0 ∧
    (resting 4).owner = .client 3 ∧ (get0 demo.lds.clients 3).any (·.configured) = true ∧
    (served (resting 4) (playing 3) fun c => { c with state := .ready, onAir := some 2 }).annAt 2 = some (playing 3) ∧
    (playing 3).spec.cls < (resting 4).spec.cls ∧ (playing 3).token = some 9 ∧ [5, 6, 7, 8].length = 4 ∧
    (served (playing 5) { announcement .suspended with nextDue := none } fun c =>
      { c with state := .ready, onAir := some 1, stack := [2] }).onAirWith 1 9 = some 1 ∧
    { playing 5 with remaining := 1 }.remaining ≤ 1 ∧ (playing 5).spec.repeatCount ≠ 0 := by
  refine ⟨⟨rfl, by decide +kernel, rfl, by decide, by decide, .inr ⟨rfl, rfl⟩⟩,
    ⟨rfl, by decide +kernel, rfl, by decide, by decide, .inl ⟨rfl, rfl⟩⟩,
    ⟨by decide +kernel, List.pairwise_singleton _ _⟩, by decide +kernel⟩

/-- Run 7 approaching the board of timing point 2, the same run standing before it, a due minute, a stale timer that has
run out, and a line that is STALE. -/
theorem witness_boards_shown :
    ((onTrack demo underway).boardCandidates 2).map (·.key) = [256] ∧
    ((withRun demo (run .dwelling 1)).boardCandidates 2).map (·.key) = [65792] ∧
    underway.indexAt 2 = some 2 ∧ (underway.stopAt 2).isSome = true ∧
    look (boarded demo).piu.boards 2 = some Board.empty ∧
    (boarded (onTrack demo underway)).boardNow 2 Board.empty ≠ Board.empty ∧
    (dueMinute demo).lck.minuteDue = true ∧ demo.inService = true ∧ BetweenEvents (dueMinute demo) ∧
    BetweenEvents (staleDue demo) ∧ (staleDue demo).reached (staleDue demo).mvt.staleTimer = true ∧
    (staleDue demo).mvt.stale = false ∧ (demo.onMvt fun m => { m with stale := true }).mvt.stale = true ∧
    demo.point (4 : Byte).toNat ≠ none ∧ 1 ≤ (9999 : Half).toNat ∧ (9999 : Half).toNat ≤ 9999 := by
  simp only [BetweenEvents]
  decide +kernel

/-- A bad frame: kind 0 is no report's, whatever its two check bytes. -/
def badBytes : List Byte := [0, 0, 0, 0]

theorem witness_FieldLineServed :
    demo.fli.rx = .hunt ∧ ({ demo with fli := { demo.fli with rx := .frame [0] } } : State).fli.rx = .frame [0] ∧
    ({ demo with fli := { demo.fli with sending := some [126] } } : State).fli.sending = some [126] ∧
    (∀ st, demo.fli.queue st = []) ∧
    (∀ m st', m < 3 → st'.number = (demo.fli.rotation.number + 1 + m) % 4 → demo.fli.queue st' = []) ∧
    ({ demo.fli with boardQ := [.openBreaker 16] } : Fli).queue .board = .openBreaker 16 :: [] ∧ (3 : Nat) < 4 ∧
    Stream.board.number = (demo.fli.rotation.number + 1 + 3) % 4 ∧ verdict badBytes = .bad ∧ verdict [1] ≠ .bad :=
  ⟨rfl, rfl, rfl, fun st => by cases st <;> rfl, fun _ st' _ _ => by cases st' <;> rfl, rfl, by decide +kernel⟩

/-- A report in its frame, a body of the longest length and one longer, a frame that lacks its last byte, and the
longest order whose length a receiver waits for. -/
theorem witness_FramesChecked :
    reportFrame (.arrived 9999 32) = some (1, [15, 39, 32]) ∧ reportOf 1 [15, 39, 32] = some (.arrived 9999 32) ∧
    (63 : Byte).toNat ≤ 63 ∧ (List.replicate 63 (0 : Byte)).length = (63 : Byte).toNat ∧ 63 < (64 : Byte).toNat ∧
    ([15, 39, 32, 0] : List Byte).length < (3 : Byte).toNat + 2 ∧
    (Order.play 3 255 0 [1, 2, 3, 4, 5, 4095]).body.length ≤ 63 := by decide +kernel

end Sys2Proof.Tests
end

/-! ## The Line Description Store: what its operations do -/

section
namespace Sys2Proof.Machine

/-! ### The line description in an event -/

/-- What the blocks' work leaves alone includes the description. -/
theorem lds_of_kept {s t : State} (h : t.kept = s.kept) : t.lds = s.lds :=
  (congrArg State.lds h :)

@[simp] theorem recordRequest_lds (s : State) (n : Nat) (r : Req) : (s.recordRequest n r).lds = s.lds := rfl

@[simp] theorem recordRequest_inService (s : State) (n : Nat) (r : Req) :
    (s.recordRequest n r).inService = s.inService := rfl

@[simp] theorem writeAnswer_lds (s : State) (b : List Byte) : (s.writeAnswer b).lds = s.lds := rfl

/-- A request leaves the description as the port found it, or as the owner leaves it. -/
theorem takeRequest_lds (s : State) (k : ReqKind) (r : Req) (f : State → Reply × State) :
    (s.takeRequest k r f).lds = s.lds ∨ (s.takeRequest k r f).lds = (f (s.recordRequest k.code r)).2.lds := by
  by_cases hc : s.canTake = true
  · cases hp : s.portRefusal (some k) r with
    | some c => exact .inl (by rw [takeRequest_refused s k r f c hc hp])
    | none => exact .inr (by rw [takeRequest_passes s k r f ⟨hc, hp⟩]; simp)
  · exact .inl (by rw [takeRequest_waits s k r f (by simpa using hc)])

@[simp] theorem takeMalformed_lds (s : State) (k : Byte) (r : Req) : (s.takeMalformed k r).lds = s.lds := by
  unfold State.takeMalformed; split <;> rfl

/-! ### DEFINE and REMOVE (R2) -/

section
variable {α : Type} {s : State} {defined : Nat → Bool} {write : Nat → Option α → State}

theorem settleDefine_service (h : s.inService = true) (parsed : Option (Nat × Option α)) :
    s.settleDefine parsed defined write = s.reply .locked := by
  simp [State.settleDefine, State.unlocked, h]

theorem settleDefine_unreadable (h : s.inService = false) :
    s.settleDefine none defined write = s.reply .outOfRange := by
  simp [State.settleDefine, State.unlocked, h]

theorem settleDefine_define (h : s.inService = false) (i : Nat) (x : α) :
    s.settleDefine (some (i, some x)) defined write = (Reply.just .ok, write i (some x)) := by
  simp [State.settleDefine, State.unlocked, h]

theorem settleDefine_remove (h : s.inService = false) (i : Nat) :
    s.settleDefine (some (i, none)) defined write =
      if defined i then (Reply.just .ok, write i none) else s.reply .noEffect := by
  simp [State.settleDefine, State.unlocked, h]

end

theorem settleDefineHeadwayBands_service {s : State} (h : s.inService = true) (r : Req) :
    settleDefineHeadwayBands r s = s.reply .locked := by
  simp [settleDefineHeadwayBands, State.unlocked, h]

/-- The description requests that are refused LOCKED in SERVICE whatever their body (R2, R12). -/
def describingKinds : List ReqKind :=
  [.defineTimingPoint, .defineSegment, .defineRoute, .defineMerge, .defineSubstation, .defineSection, .defineTrainClass,
    .defineZoneGroup, .defineDeskClass, .mapIncidentKind, .defineClient, .defineHeadwayBands]

/-- Such a command takes its request under an owner that answers LOCKED in SERVICE and changes nothing. -/
theorem describing_locked {c : Instr} {k : ReqKind} {r : Req} (hc : c.request? = some (k, r))
    (hk : k ∈ describingKinds) : ∃ f : State → Reply × State, (∀ s, exec c s = .next (s.takeRequest k r f)) ∧
      ∀ s, s.inService = true → f s = s.reply .locked := by
  cases c with
  | defineTimingPoint | defineSegment | defineRoute | defineMerge | defineSubstation | defineSection
  | defineTrainClass | defineZoneGroup | defineDeskClass | mapIncidentKind | defineClient =>
    cases hc
    exact ⟨_, fun _ => rfl, fun s hs => settleDefine_service hs _⟩
  | defineHeadwayBands =>
    cases hc
    exact ⟨_, fun _ => rfl, fun s hs => settleDefineHeadwayBands_service hs _⟩
  | _ =>
    cases hc <;> exact absurd hk (by decide)

/-! ### Parameters (R12, R13) -/

/-- The parameter that a setting writes. -/
def settingKind : ParamSetting → ParamKind
  | .weight _ => .weight
  | .departureTimeout _ => .departureTimeout
  | .staleTime _ => .staleTime
  | .confirmTimeout _ => .confirmTimeout
  | .horizon _ => .horizon
  | .lowWater _ => .lowWater
  | .delayThreshold _ => .delayThreshold
  | .template _ => .template

/-- A body is read as a setting of the parameter it names. -/
theorem paramSetting_kind {r : Req} {k : ParamKind} {x : ParamSetting} (h : r.paramSetting k = some x) :
    settingKind x = k := by
  cases k with
  | template =>
    simp only [Req.paramSetting, Option.bind_eq_bind, Option.bind_eq_some_iff] at h
    obtain ⟨n, -, codes, -, h⟩ := h
    cases h
    rfl
  | _ =>
    obtain ⟨v, -, rfl⟩ := Option.map_eq_some_iff.1 h
    rfl

@[simp] theorem setParam_lds (s : State) (x : ParamSetting) :
    (s.setParam x).lds = { s.lds with params := s.lds.params.set x } := by
  unfold State.setParam
  split
  · split
    · exact lds_of_kept (recomputeAll_kept _)
    · rfl
  · rfl

/-- The four adjustable parameters are no part of the locked description. -/
theorem lockedPart_set {d : Lds} {x : ParamSetting} (h : (settingKind x).adjustable = true) :
    lockedPart { d with params := d.params.set x } = lockedPart d := by
  cases x with
  | weight _ | departureTimeout _ | delayThreshold _ | template _ => rfl
  | staleTime _ | confirmTimeout _ | horizon _ | lowWater _ => simp [settingKind, ParamKind.adjustable] at h

end Sys2Proof.Machine
end

/-! ## The description stays locked in SERVICE -/

section
namespace Sys2Proof.Machine

/-! ### Events that leave the description alone -/

@[simp] theorem takeMovement_lds (s : State) (n p : Nat) (f : State → Nat → Run → Nat → State)
    (hf : ∀ t i r p, (f t i r p).kept = t.kept) : (s.takeMovement n p f).lds = s.lds := by
  apply lds_of_kept
  simp only [State.takeMovement]
  split
  · simp
  · rw [serveLeft_kept]
    split <;> simp [hf]

@[simp] theorem rollover_lds (s : State) (c : RolloverCause) (t : Nat) : (s.rollover c t).lds = s.lds := by
  unfold State.rollover
  split
  · simp only [State.rolloverService, lds_of_kept (postLineEvent_kept _ _), lds_of_kept (evalHorizon_kept _),
      lds_of_kept (clearBoards_kept _), lds_of_kept (rolloverItb_kept _ _), onTpc_lds,
      lds_of_kept (rolloverDrg_kept _), onMvt_lds, onLck_lds, lds_of_kept (rolloverRuns_kept _),
      lds_of_kept (carryAnns_kept _ _), lds_of_kept (withdrawAll_kept _ _)]
  · rfl

@[simp] theorem endOfClock_lds (s : State) : s.endOfClock.lds = s.lds := by simp [State.endOfClock]

theorem settleSetClock_lds (r : Req) (s : State) : (settleSetClock r s).2.lds = s.lds := by
  unfold settleSetClock settleSetClockService settleSetClockSetup
  (repeat' split) <;> rfl

theorem settleEndDay_lds (r : Req) (s : State) : (settleEndDay r s).2.lds = s.lds := by
  unfold settleEndDay
  (repeat' split) <;> simp [State.reply]

/-! ### One command at a time -/

/-- In SERVICE a command leaves the locked part of the description as it was. -/
def KeepsLocked (c : Instr) : Prop :=
  ∀ s t : State, s.inService = true → exec c s = .next t → lockedPart t.lds = lockedPart s.lds

/-- An event that leaves the description alone in every state. -/
theorem keepsLocked_event {c : Instr} (g : State → State) (hc : ∀ s, exec c s = .next (g s))
    (hg : ∀ s, (g s).lds = s.lds) : KeepsLocked c := by
  intro s t _ h
  rw [hc s] at h
  cases h
  rw [hg s]

/-- A request whose owner leaves the locked part as it is. -/
theorem keepsLocked_request {c : Instr} {k : ReqKind} {r : Req} (f : State → Reply × State)
    (hc : ∀ s, exec c s = .next (s.takeRequest k r f))
    (hf : ∀ s, s.inService = true → lockedPart (f s).2.lds = lockedPart s.lds) : KeepsLocked c := by
  intro s t hs h
  rw [hc s] at h
  cases h
  obtain h | h := takeRequest_lds s k r f <;> rw [h]
  exact hf (s.recordRequest k.code r) hs

/-- A request whose owner leaves the description alone. -/
theorem keepsLocked_owner {c : Instr} {k : ReqKind} {r : Req} {f : State → Reply × State}
    (hf : ∀ s, (f s).2.lds = s.lds) (hc : ∀ s, exec c s = .next (s.takeRequest k r f)) : KeepsLocked c :=
  keepsLocked_request f hc fun s _ => by rw [hf s]

/-- A request whose owner does nothing but a block's work inside the event. -/
theorem keepsLocked_kept {c : Instr} {k : ReqKind} {r : Req} {f : State → Reply × State}
    (hf : ∀ s, (f s).2.kept = s.kept) (hc : ∀ s, exec c s = .next (s.takeRequest k r f)) : KeepsLocked c :=
  keepsLocked_owner (fun s => lds_of_kept (hf s)) hc

/-- A description request that is refused LOCKED in SERVICE. -/
theorem keepsLocked_describing {c : Instr} {k : ReqKind} {r : Req} (hc : c.request? = some (k, r))
    (hk : k ∈ describingKinds) : KeepsLocked c := by
  obtain ⟨f, hf, hl⟩ := describing_locked hc hk
  exact keepsLocked_request f hf fun s hs => by rw [hl s hs]; rfl

/-! ### The requests that write in SERVICE -/

theorem settleSetLineParameter_locked (r : Req) (s : State) (hs : s.inService = true) :
    lockedPart (settleSetLineParameter r s).2.lds = lockedPart s.lds := by
  rw [show (settleSetLineParameter r s).2.lds = (s.settleParam r).2.lds from lds_of_kept (thenServe_kept _ _)]
  unfold State.settleParam
  split
  · rfl
  · next k _ =>
    split
    · rfl
    · next hadj =>
      split
      · rfl
      · next x hx =>
        split
        · rfl
        · split
          · rfl
          · rw [setParam_lds]
            exact lockedPart_set (by rw [paramSetting_kind hx]; simpa [hs] using hadj)

theorem settleSetRegulation_locked (r : Req) (s : State) :
    lockedPart (settleSetRegulation r s).2.lds = lockedPart s.lds := by
  rw [show (settleSetRegulation r s).2.lds = (s.settleAction r).2.lds from lds_of_kept (thenServe_kept _ _)]
  unfold State.settleAction
  split
  · rfl
  · split
    · rfl
    · split
      · exact congrArg lockedPart (lds_of_kept (halt_kept s))
      · rfl
    · split
      · rfl
      · exact congrArg lockedPart (lds_of_kept (resume_kept s))
    · split
      · rfl
      · split
        · rfl
        · rw [setParam_lds]
          exact lockedPart_set rfl

theorem settleEnterService_service {s : State} (hs : s.inService = true) (r : Req) :
    settleEnterService r s = s.reply .noEffect := by simp [settleEnterService, hs]

theorem returnToSetup_lds (s : State) : s.returnToSetup.lds = { s.lds with mode := .setup } := by
  have posted : (if s.mvt.stale then s.postLineEvent .staleCleared else s).lds = s.lds := by
    split
    · exact lds_of_kept (postLineEvent_kept _ _)
    · rfl
  simp only [State.returnToSetup, posted]

theorem settleReturnToSetup_locked (r : Req) (s : State) :
    lockedPart (settleReturnToSetup r s).2.lds = lockedPart s.lds := by
  unfold settleReturnToSetup
  split
  · rfl
  · split
    · rfl
    · rw [returnToSetup_lds]; rfl

/-! ### The timers' events -/

theorem finish_lds_of_kept {s t : State} (h : t.kept = s.kept) : t.finish.lds = s.lds :=
  (finish_lds t).trans (lds_of_kept h)

/-- An event of a record in a slot: nothing while there is no record or it is not due. -/
theorem keepsLocked_ofSlot {c : Instr} {i : Nat} (h : c ∈ [.placementTimerExpiry i, .releaseEvent i, .retry i,
    .departureTimeout i, .claimTimerExpiry i, .drainTimerExpiry i, .escalationTimerExpiry i, .startTimerExpiry i,
    .repeatTimerExpiry i, .announcementExpiry i]) : KeepsLocked c := by
  simp only [List.mem_cons, List.not_mem_nil, or_false] at h
  rcases h with rfl | rfl | rfl | rfl | rfl | rfl | rfl | rfl | rfl | rfl
  all_goals
    refine keepsLocked_event _ (fun _ => rfl) fun s => ?_
    split
    · split
      · exact finish_lds_of_kept (by simp)
      · rfl
    · rfl

theorem keepsLocked_confirmTimerExpiry (i : Nat) : KeepsLocked (.confirmTimerExpiry i) := by
  refine keepsLocked_event _ (fun _ => rfl) fun s => ?_
  split
  · split
    · split
      · exact finish_lds_of_kept (by simp)
      · rfl
    · rfl
  · rfl

/-- An event under one condition alone. -/
theorem keepsLocked_ofMark {c : Instr} {i : Nat} (h : c ∈ [.skipMarkingOnLoad i, .mergeFreeTimerExpiry i,
    .describerStaleTimerExpiry]) : KeepsLocked c := by
  simp only [List.mem_cons, List.not_mem_nil, or_false] at h
  rcases h with rfl | rfl | rfl
  all_goals
    refine keepsLocked_event _ (fun _ => rfl) fun s => ?_
    split
    · exact finish_lds_of_kept (by simp)
    · rfl

theorem keepsLocked_minuteBoundary : KeepsLocked (.minuteBoundary) := by
  refine keepsLocked_event _ (fun _ => rfl) fun s => ?_
  split
  · split
    · exact finish_lds_of_kept (s := s.onLck fun c => { c with minuteDue := false }) (by simp)
    · rfl
  · rfl

theorem keepsLocked_clock {c : Instr} (h : c ∈ [.clockEnd, .clockAdvance]) : KeepsLocked c := by
  simp only [List.mem_cons, List.not_mem_nil, or_false] at h
  rcases h with rfl | rfl
  all_goals
    refine keepsLocked_event _ (fun _ => rfl) fun s => ?_
    split
    · rfl
    · exact endOfClock_lds s

/-! ### Every command -/

/-- Every command but POWER_ON leaves the locked part of the description as it was in SERVICE (R2, R13, R15, R16). -/
theorem keepsLocked_of_ne_powerOn : ∀ c : Instr, c ≠ .powerOn → KeepsLocked c
  | .defineTimingPoint _, _ => keepsLocked_describing rfl (by decide)
  | .defineSegment _, _ => keepsLocked_describing rfl (by decide)
  | .defineRoute _, _ => keepsLocked_describing rfl (by decide)
  | .defineMerge _, _ => keepsLocked_describing rfl (by decide)
  | .defineSubstation _, _ => keepsLocked_describing rfl (by decide)
  | .defineSection _, _ => keepsLocked_describing rfl (by decide)
  | .defineTrainClass _, _ => keepsLocked_describing rfl (by decide)
  | .defineZoneGroup _, _ => keepsLocked_describing rfl (by decide)
  | .defineDeskClass _, _ => keepsLocked_describing rfl (by decide)
  | .mapIncidentKind _, _ => keepsLocked_describing rfl (by decide)
  | .defineClient _, _ => keepsLocked_describing rfl (by decide)
  | .setLineParameter r, _ => keepsLocked_request _ (fun _ => rfl) (settleSetLineParameter_locked r)
  | .defineHeadwayBands _, _ => keepsLocked_describing rfl (by decide)
  | .enterService r, _ => keepsLocked_request _ (fun _ => rfl) fun s hs => by rw [settleEnterService_service hs r]; rfl
  | .returnToSetup r, _ => keepsLocked_request _ (fun _ => rfl) fun s _ => settleReturnToSetup_locked r s
  | .lookupLine r, _ => keepsLocked_kept (settleLookupLine_kept r) fun _ => rfl
  | .setClock r, _ => keepsLocked_owner (settleSetClock_lds r) fun _ => rfl
  | .endDay r, _ => keepsLocked_owner (settleEndDay_lds r) fun _ => rfl
  | .loadRun r, _ => keepsLocked_kept (settleLoadRun_kept r) fun _ => rfl
  | .amendRun r, _ => keepsLocked_kept (settleAmendRun_kept r) fun _ => rfl
  | .cancelRun r, _ => keepsLocked_kept (settleCancelRun_kept r) fun _ => rfl
  | .retireRun r, _ => keepsLocked_kept (settleRetireRun_kept r) fun _ => rfl
  | .lookupRun r, _ => keepsLocked_kept (settleLookupRun_kept r) fun _ => rfl
  | .findRun r, _ => keepsLocked_kept (settleFindRun_kept r) fun _ => rfl
  | .lookupCounters r, _ => keepsLocked_kept (settleLookupCounters_kept r) fun _ => rfl
  | .clearCounters r, _ => keepsLocked_kept (settleClearCounters_kept r) fun _ => rfl
  | .lookupPoint r, _ => keepsLocked_kept (settleLookupPoint_kept r) fun _ => rfl
  | .lookupSegment r, _ => keepsLocked_kept (settleLookupSegment_kept r) fun _ => rfl
  | .holdRun r, _ => keepsLocked_kept (settleHoldRun_kept r) fun _ => rfl
  | .unholdRun r, _ => keepsLocked_kept (settleUnholdRun_kept r) fun _ => rfl
  | .releaseRun r, _ => keepsLocked_kept (settleReleaseRun_kept r) fun _ => rfl
  | .setRegulation r, _ => keepsLocked_request _ (fun _ => rfl) fun s _ => settleSetRegulation_locked r s
  | .lookupRegulation r, _ => keepsLocked_kept (settleLookupRegulation_kept r) fun _ => rfl
  | .setWithhold r, _ => keepsLocked_kept (settleSetWithhold_kept r) fun _ => rfl
  | .isolateSection r, _ => keepsLocked_kept (settleIsolateSection_kept r) fun _ => rfl
  | .energiseSection r, _ => keepsLocked_kept (settleEnergiseSection_kept r) fun _ => rfl
  | .lookupSubstation r, _ => keepsLocked_kept (settleLookupSubstation_kept r) fun _ => rfl
  | .lookupSection r, _ => keepsLocked_kept (settleLookupSection_kept r) fun _ => rfl
  | .raiseIncident r, _ => keepsLocked_kept (settleRaiseIncident_kept r) fun _ => rfl
  | .ackIncident r, _ => keepsLocked_kept (settleAckIncident_kept r) fun _ => rfl
  | .addRestriction r, _ => keepsLocked_kept (settleAddRestriction_kept r) fun _ => rfl
  | .liftRestriction r, _ => keepsLocked_kept (settleLiftRestriction_kept r) fun _ => rfl
  | .linkRun r, _ => keepsLocked_kept (settleLinkRun_kept r) fun _ => rfl
  | .linkAnnouncement r, _ => keepsLocked_kept (settleLinkAnnouncement_kept r) fun _ => rfl
  | .clearIncident r, _ => keepsLocked_kept (settleClearIncident_kept r) fun _ => rfl
  | .retireIncident r, _ => keepsLocked_kept (settleRetireIncident_kept r) fun _ => rfl
  | .lookupIncident r, _ => keepsLocked_kept (settleLookupIncident_kept r) fun _ => rfl
  | .lookupDesk r, _ => keepsLocked_kept (settleLookupDesk_kept r) fun _ => rfl
  | .postAnnouncement r, _ => keepsLocked_kept (settlePostAnnouncement_kept r) fun _ => rfl
  | .withdrawAnnouncement r, _ => keepsLocked_kept (settleWithdrawAnnouncement_kept r) fun _ => rfl
  | .setClassMap r, _ => keepsLocked_kept (settleSetClassMap_kept r) fun _ => rfl
  | .enableChannel r, _ => keepsLocked_kept (settleEnableChannel_kept r) fun _ => rfl
  | .disableChannel r, _ => keepsLocked_kept (settleDisableChannel_kept r) fun _ => rfl
  | .setChannelPolicy r, _ => keepsLocked_kept (settleSetChannelPolicy_kept r) fun _ => rfl
  | .setZoneBlock r, _ => keepsLocked_kept (settleSetZoneBlock_kept r) fun _ => rfl
  | .lookupAnnouncement r, _ => keepsLocked_kept (settleLookupAnnouncement_kept r) fun _ => rfl
  | .lookupChannel r, _ => keepsLocked_kept (settleLookupChannel_kept r) fun _ => rfl
  | .lookupZones r, _ => keepsLocked_kept (settleLookupZones_kept r) fun _ => rfl
  | .lookupBoard r, _ => keepsLocked_kept (settleLookupBoard_kept r) fun _ => rfl
  | .lineStatus r, _ => keepsLocked_kept (settleLineStatus_kept r) fun _ => rfl
  | .malformedRequest k r, _ => keepsLocked_event _ (fun _ => rfl) fun s => takeMalformed_lds s k r
  | .arrived _ _, _ => keepsLocked_event _ (fun _ => rfl) fun s => by simp
  | .departed _ _, _ => keepsLocked_event _ (fun _ => rfl) fun s => by simp
  | .passed _ _, _ => keepsLocked_event _ (fun _ => rfl) fun s => by simp
  | .breaker _ _, _ => keepsLocked_event _ (fun _ => rfl) fun s => finish_lds_of_kept (s := s.received 2) (by simp)
  | .substation _ _, _ => keepsLocked_event _ (fun _ => rfl) fun s => finish_lds_of_kept (s := s.received 2) (by simp)
  | .paStatus _ _, _ => keepsLocked_event _ (fun _ => rfl) fun s => finish_lds_of_kept (s := s.received 2) (by simp)
  | .paDone _ _, _ => keepsLocked_event _ (fun _ => rfl) fun s => finish_lds_of_kept (s := s.received 2) (by simp)
  | .paTaken _ _, _ => keepsLocked_event _ (fun _ => rfl) fun s => finish_lds_of_kept (s := s.received 3) (by simp)
  | .badFrame _, _ => keepsLocked_event _ (fun _ => rfl) fun _ => rfl
  | .requestProducerWrite _, _ => keepsLocked_event _ (fun _ => rfl) fun _ => rfl
  | .answerConsumerWrite _, _ => keepsLocked_event _ (fun _ => rfl) fun _ => rfl
  | .portReset, _ => keepsLocked_event _ (fun _ => rfl) fun _ => rfl
  | .discardedRegisterWrite _, _ => keepsLocked_event _ (fun _ => rfl) fun _ => rfl
  | .powerOn, h => absurd rfl h
  | .minuteBoundary, _ => keepsLocked_minuteBoundary
  | .clockEnd, _ => keepsLocked_clock (by simp)
  | .placementTimerExpiry i, _ => keepsLocked_ofSlot (i := i) (by simp)
  | .releaseEvent i, _ => keepsLocked_ofSlot (i := i) (by simp)
  | .retry i, _ => keepsLocked_ofSlot (i := i) (by simp)
  | .departureTimeout i, _ => keepsLocked_ofSlot (i := i) (by simp)
  | .mergeFreeTimerExpiry i, _ => keepsLocked_ofMark (i := i) (by simp)
  | .describerStaleTimerExpiry, _ => keepsLocked_ofMark (i := 0) (by simp)
  | .claimTimerExpiry i, _ => keepsLocked_ofSlot (i := i) (by simp)
  | .drainTimerExpiry i, _ => keepsLocked_ofSlot (i := i) (by simp)
  | .confirmTimerExpiry i, _ => keepsLocked_confirmTimerExpiry i
  | .escalationTimerExpiry i, _ => keepsLocked_ofSlot (i := i) (by simp)
  | .startTimerExpiry i, _ => keepsLocked_ofSlot (i := i) (by simp)
  | .repeatTimerExpiry i, _ => keepsLocked_ofSlot (i := i) (by simp)
  | .announcementExpiry i, _ => keepsLocked_ofSlot (i := i) (by simp)
  | .noticeWrite, _ => keepsLocked_event _ (fun _ => rfl) fun _ => rfl
  | .frameTransmitEnd, _ => keepsLocked_event _ (fun _ => rfl) fun _ => rfl
  | .skipMarkingOnLoad i, _ => keepsLocked_ofMark (i := i) (by simp)
  | .clockAdvance, _ => keepsLocked_clock (by simp)

/-- Settles O5: the front command is not POWER_ON, and every other one keeps the locked part. -/
theorem descriptionStaysLocked : Obligations.DescriptionStaysLocked := by
  intro s t hs hp h
  unfold step at h
  cases hq : s.pending with
  | nil => rw [hq] at h; cases h; rfl
  | cons c rest =>
    rw [hq] at h hp
    exact keepsLocked_of_ne_powerOn c (fun e => hp (by rw [e]; rfl)) (s.withPending rest) t hs h

end Sys2Proof.Machine
end

/-! ## The state after power-on -/

section
namespace Sys2Proof.Machine

/-! ### Tables of equal entries -/

theorem get0_replicate_some {α : Type} {n i : Nat} {a x : α} (h : get0 (Vector.replicate n a) i = some x) : x = a := by
  simp only [get0, Vector.toList_replicate] at h
  exact List.eq_of_mem_replicate (List.mem_of_getElem? h)

theorem get1_replicate_some {α : Type} {n i : Nat} {a x : α} (h : get1 (Vector.replicate n a) i = some x) : x = a := by
  cases i with
  | zero => cases h
  | succ i => exact get0_replicate_some h

@[simp] theorem look_replicate_none {α : Type} (n i : Nat) :
    look (Vector.replicate n (none : Option α)) i = none := by
  unfold look
  cases h : get1 (Vector.replicate n (none : Option α)) i with
  | none => rfl
  | some x => rw [get1_replicate_some h]; rfl

/-! ### No record is live -/

@[simp] theorem reset_runAt (i : Nat) : State.reset.runAt i = none := by
  unfold State.runAt
  cases h : get1 State.reset.rtb.slots i with
  | none => rfl
  | some x => rw [get1_replicate_some h]; rfl

@[simp] theorem reset_incAt (i : Nat) : State.reset.incAt i = none := by
  unfold State.incAt
  cases h : get1 State.reset.itb.slots i with
  | none => rfl
  | some x => rw [get1_replicate_some h]; rfl

@[simp] theorem reset_sub (i : Nat) : State.reset.sub i = none := look_replicate_none 8 i
@[simp] theorem reset_sec (i : Nat) : State.reset.sec i = none := look_replicate_none 16 i
@[simp] theorem reset_claim (i : Nat) : State.reset.claim i = none := look_replicate_none 128 i

@[simp] theorem reset_seg (i : Nat) : State.reset.seg i = ⟨[], 0, []⟩ := by
  unfold State.seg
  cases h : get1 State.reset.mvt.segs i with
  | none => rfl
  | some x => rw [get1_replicate_some h]; rfl

@[simp] theorem reset_mergeList (i : Nat) : State.reset.mergeList i = [] := by
  unfold State.mergeList
  cases h : get1 State.reset.mvt.mergeLists i with
  | none => rfl
  | some x => rw [get1_replicate_some h]; rfl

@[simp] theorem reset_desk (d : Nat) : State.reset.desk d = [] := by
  unfold State.desk
  cases h : get0 State.reset.itb.desks d with
  | none => rfl
  | some x => rw [get0_replicate_some h]; rfl

/-! ### The bounds and invariants -/

theorem reset_portSound : PortSound State.reset := by
  refine ⟨⟨rfl, rfl⟩, ⟨by decide, by decide⟩, fun i x h => ?_, by decide⟩
  rw [get0_replicate_some h]
  exact ⟨by decide, List.Pairwise.nil⟩

theorem reset_channelBounds : ChannelBounds State.reset := by
  intro c x h
  rw [get0_replicate_some h]
  decide

theorem reset_runTableSound : RunTableSound State.reset := by
  refine ⟨by simp, by simp, ?_, by simp, by simp, by simp⟩
  simp only [reset_runAt]
  decide

theorem reset_invariants :
    PortSound State.reset ∧ ClockSound State.reset ∧ BetweenEvents State.reset ∧ TrackBounds State.reset ∧
      ChannelBounds State.reset ∧ DeskQueues State.reset ∧ DeskOrder State.reset ∧ WaitingRuns State.reset ∧
      Credits State.reset ∧ RunTableSound State.reset ∧ LinksAgree State.reset :=
  ⟨reset_portSound, ⟨by decide, by decide⟩, rfl, by simp [TrackBounds], reset_channelBounds,
    ⟨by simp, fun _ => ⟨reset_incAt, reset_sec, rfl⟩⟩, by simp [DeskOrder], by simp [WaitingRuns],
    by simp [Credits], reset_runTableSound, by simp [LinksAgree]⟩

/-- Settles O2: POWER_ON gives the reset state with the waiting commands, read off record by record. -/
theorem powerOnValues : Obligations.PowerOnValues := by
  refine ⟨reset_invariants, fun s => ⟨_, rfl, rfl, ?_, ⟨rfl, rfl, rfl⟩, ?_, ?_, ?_, ⟨rfl, rfl, rfl, rfl, rfl⟩⟩⟩
  · refine ⟨rfl, look_replicate_none 32, look_replicate_none 48, look_replicate_none 4, look_replicate_none 2,
      look_replicate_none 8, look_replicate_none 16, look_replicate_none 4, fun i x h => ?_, rfl, rfl⟩
    rw [get0_replicate_some h]
  · refine ⟨fun i x h => ?_, fun i x h => ?_, fun i x h => ?_, rfl⟩ <;> (rw [get1_replicate_some h]; exact ⟨rfl, rfl⟩)
  · refine ⟨rfl, rfl, rfl, rfl, fun c x h => ?_⟩
    rw [get0_replicate_some h]
    exact ⟨rfl, rfl, rfl, rfl, rfl⟩
  · exact ⟨rfl, rfl, rfl, rfl, rfl, rfl, rfl, rfl⟩

end Sys2Proof.Machine
end

/-! ## The DEFINE requests in SETUP, and every description request in SERVICE -/

section
namespace Sys2Proof.Machine

/-! ### Reading a DEFINE body (R2) -/

theorem within_eq_some {lo hi x : Nat} (h : lo ≤ x) (h' : x ≤ hi) : within lo hi x = some x := by
  simp [within, h, h']

theorem within_eq_none {lo hi x : Nat} : within lo hi x = none ↔ x < lo ∨ hi < x := by
  simp only [within, ite_eq_right_iff, reduceCtorEq, imp_false]
  omega

/-- A body is unreadable for its identifier, for its action, or with DEFINE for a field. -/
theorem define_eq_none {α : Type} (r : Req) (lo hi : Nat) (fields : Option α) : r.define lo hi fields = none ↔
    r.u8 0 < lo ∨ hi < r.u8 0 ∨ (r.u8 1 ≠ 1 ∧ r.u8 1 ≠ 2) ∨ (r.u8 1 = 1 ∧ fields = none) := by
  rw [← or_assoc, ← within_eq_none]
  unfold Req.define
  cases within lo hi (r.u8 0) with
  | none => simp
  | some i =>
    split
    · next h ha => cases h; simp [ha]
    · next h ha => cases h; simp [ha]
    · next h1 h2 => simpa using .inl ⟨h1 i rfl, h2 i rfl⟩

theorem define_remove {α : Type} {r : Req} {lo hi i : Nat} (fields : Option α) (h : r.u8 1 = 2) (hi0 : r.u8 0 = i)
    (hl : lo ≤ i) (hh : i ≤ hi) : r.define lo hi fields = some (i, none) := by
  simp [Req.define, h, hi0, within_eq_some hl hh]

/-! ### One row of the description -/

/-- A command that defines and removes records of one table: the body it reads, when a record counts as defined, and
what it writes in the description. -/
structure DefineRow {α : Type} (c : Instr) (k : ReqKind) (r : Req) (parsed : Option (Nat × Option α))
    (defined : State → Nat → Bool) (write : Nat → Option α → Lds → Lds) : Prop where
  noHandle : k.namesHandle = false
  ofLds : ∀ s n q, defined (s.recordRequest n q) = defined s
  taken : ∀ s, exec c s = .next (s.takeRequest k r fun u =>
    u.settleDefine parsed (defined u) fun i x => u.onLds (write i x))

section
variable {α : Type} {c : Instr} {k : ReqKind} {r : Req} {parsed : Option (Nat × Option α)}
  {defined : State → Nat → Bool} {write : Nat → Option α → Lds → Lds} {s : State}

theorem DefineRow.define (row : DefineRow c k r parsed defined write) (hs : s.inService = false)
    (he : BetweenEvents s) (hp : Passes s k r) {i : Nat} {x : α} (h : parsed = some (i, some x)) :
    exec c s = .next (answered { s with lds := write i (some x) s.lds } k r .ok 0 []) := by
  rw [row.taken]
  exact next_answered hp (by exact he) (by rw [h]; exact settleDefine_define (s := s.recordRequest k.code r) hs i x)
    (by simp [row.noHandle])

theorem DefineRow.unreadable (row : DefineRow c k r parsed defined write) (hs : s.inService = false)
    (he : BetweenEvents s) (hp : Passes s k r) (h : parsed = none) :
    exec c s = .next (answered s k r .outOfRange 0 []) := by
  rw [row.taken]
  exact next_answered hp he (by rw [h]; exact settleDefine_unreadable (s := s.recordRequest k.code r) hs)
    (by simp [row.noHandle])

theorem DefineRow.remove (row : DefineRow c k r parsed defined write) (hs : s.inService = false)
    (he : BetweenEvents s) (hp : Passes s k r) {i : Nat} (h : parsed = some (i, none)) :
    exec c s = .next (if defined s i then answered { s with lds := write i none s.lds } k r .ok 0 []
      else answered s k r .noEffect 0 []) := by
  have settled := settleDefine_remove (defined := defined s) (write := fun i x =>
    (s.recordRequest k.code r).onLds (write i x)) (s := s.recordRequest k.code r) hs i
  rw [row.taken]
  split
  · next hd =>
    rw [if_pos hd] at settled
    exact next_answered hp (by exact he) (by rw [h, row.ofLds]; exact settled) (by simp [row.noHandle])
  · next hd =>
    rw [if_neg hd] at settled
    exact next_answered hp he (by rw [h, row.ofLds]; exact settled) (by simp [row.noHandle])

end

theorem defineTimingPoint_row (r : Req) : DefineRow (.defineTimingPoint r) .defineTimingPoint r
    (r.define 1 32 r.timingPoint) (fun s i => (look s.lds.points i).isSome)
    fun i x d => { d with points := put d.points i x } := ⟨rfl, fun _ _ _ => rfl, fun _ => rfl⟩

theorem defineSegment_row (r : Req) : DefineRow (.defineSegment r) .defineSegment r
    (r.define 1 48 r.segment) (fun s i => (look s.lds.segments i).isSome)
    fun i x d => { d with segments := put d.segments i x } := ⟨rfl, fun _ _ _ => rfl, fun _ => rfl⟩

theorem defineRoute_row (r : Req) : DefineRow (.defineRoute r) .defineRoute r
    (r.define 1 4 r.route) (fun s i => (look s.lds.routes i).isSome)
    fun i x d => { d with routes := put d.routes i x } := ⟨rfl, fun _ _ _ => rfl, fun _ => rfl⟩

theorem defineMerge_row (r : Req) : DefineRow (.defineMerge r) .defineMerge r
    (r.define 1 2 r.merge) (fun s i => (look s.lds.merges i).isSome)
    fun i x d => { d with merges := put d.merges i x } := ⟨rfl, fun _ _ _ => rfl, fun _ => rfl⟩

theorem defineSubstation_row (r : Req) : DefineRow (.defineSubstation r) .defineSubstation r
    (r.define 1 8 (within 0 15 (r.u8 2))) (fun s i => (look s.lds.substations i).isSome)
    fun i x d => { d with substations := put d.substations i x } := ⟨rfl, fun _ _ _ => rfl, fun _ => rfl⟩

theorem defineSection_row (r : Req) : DefineRow (.defineSection r) .defineSection r
    (r.define 1 16 r.sectionFields) (fun s i => (look s.lds.sections i).isSome)
    fun i x d => { d with sections := put d.sections i x } := ⟨rfl, fun _ _ _ => rfl, fun _ => rfl⟩

theorem defineTrainClass_row (r : Req) : DefineRow (.defineTrainClass r) .defineTrainClass r
    (r.define 1 4 r.trainClass) (fun s i => (look s.lds.classes i).isSome)
    fun i x d => { d with classes := put d.classes i x } := ⟨rfl, fun _ _ _ => rfl, fun _ => rfl⟩

theorem defineZoneGroup_row (r : Req) : DefineRow (.defineZoneGroup r) .defineZoneGroup r
    (r.define 1 16 (some (r.zones 2))) (fun s i => (get1 s.lds.zoneGroups i).getD 0 != 0)
    fun i x d => { d with zoneGroups := mod1 d.zoneGroups i fun _ => x.getD 0 } :=
  ⟨rfl, fun _ _ _ => rfl, fun _ => rfl⟩

theorem defineDeskClass_row (r : Req) : DefineRow (.defineDeskClass r) .defineDeskClass r
    (r.define 1 4 r.desks) (fun s i => (look s.lds.deskClasses i).isSome)
    fun i x d => { d with deskClasses := put d.deskClasses i x } := ⟨rfl, fun _ _ _ => rfl, fun _ => rfl⟩

theorem mapIncidentKind_row (r : Req) : DefineRow (.mapIncidentKind r) .mapIncidentKind r
    (r.define 1 6 (DeskClass.ofCode (r.u8 2))) (fun s i => (look s.lds.kindMap i).isSome)
    fun i x d => { d with kindMap := put d.kindMap i x } := ⟨rfl, fun _ _ _ => rfl, fun _ => rfl⟩

/-! ### The headway bands (R12) -/

theorem settleDefineHeadwayBands_setup {s : State} (hs : s.inService = false) (r : Req) :
    settleDefineHeadwayBands r s = r.headwayBands.elim (s.reply .outOfRange) fun b =>
      (Reply.just .ok, s.onLds fun d => { d with bands := some b }) := by
  unfold settleDefineHeadwayBands State.unlocked
  rw [if_neg (by simp [hs])]
  cases r.headwayBands <;> rfl

theorem exec_defineHeadwayBands {s : State} {r : Req} {b : Bands} (hs : s.inService = false) (he : BetweenEvents s)
    (hp : Passes s .defineHeadwayBands r) (hb : r.headwayBands = some b) : exec (.defineHeadwayBands r) s =
      .next (answered { s with lds := { s.lds with bands := some b } } .defineHeadwayBands r .ok 0 []) :=
  next_answered hp (by exact he)
    (by rw [settleDefineHeadwayBands_setup (s := s.recordRequest _ r) hs, hb]; rfl) rfl

theorem exec_defineHeadwayBands_unreadable {s : State} {r : Req} (hs : s.inService = false) (he : BetweenEvents s)
    (hp : Passes s .defineHeadwayBands r) (hb : r.headwayBands = none) :
    exec (.defineHeadwayBands r) s = .next (answered s .defineHeadwayBands r .outOfRange 0 []) :=
  next_answered hp he (by rw [settleDefineHeadwayBands_setup (s := s.recordRequest _ r) hs, hb]; rfl) rfl

theorem zoneGroup_undefined {v : Vector ZoneSet 16} {i : Nat} (h : 1 ≤ i) (h' : i ≤ 16) :
    ((get1 v i).getD 0 != 0) = true ↔ ¬ get1 v i = some 0 := by
  obtain ⟨z, hz⟩ := get1_isSome v h h'
  simp [hz]

/-- Settles O20: each table's row defines, removes and refuses as `DefineRow` says. -/
theorem descriptionDefined : Obligations.DescriptionDefined := by
  refine ⟨fun s r i hs he => ⟨?_, ?_, ?_, ?_, ?_, ?_, ?_, ?_, ?_, ?_, fun b hp hb => ?_⟩, fun α => define_eq_none,
    fun s r hs he => ⟨?_, ?_, ?_, ?_, ?_, ?_, ?_, ?_, ?_, ?_, fun hp hb => ?_⟩,
    fun s r i hs he ha hi h1 => ⟨?_, ?_, ?_, ?_, ?_, ?_, ?_, fun hp hn => ?_, ?_, ?_⟩⟩
  · exact fun _ hp => (defineTimingPoint_row r).define hs he hp
  · exact fun _ hp => (defineSegment_row r).define hs he hp
  · exact fun _ hp => (defineRoute_row r).define hs he hp
  · exact fun _ hp => (defineMerge_row r).define hs he hp
  · exact fun _ hp => (defineSubstation_row r).define hs he hp
  · exact fun _ hp => (defineSection_row r).define hs he hp
  · exact fun _ hp => (defineTrainClass_row r).define hs he hp
  · exact fun _ hp => (defineZoneGroup_row r).define hs he hp
  · exact fun _ hp => (defineDeskClass_row r).define hs he hp
  · exact fun _ hp => (mapIncidentKind_row r).define hs he hp
  · exact exec_defineHeadwayBands hs he hp hb
  · exact (defineTimingPoint_row r).unreadable hs he
  · exact (defineSegment_row r).unreadable hs he
  · exact (defineRoute_row r).unreadable hs he
  · exact (defineMerge_row r).unreadable hs he
  · exact (defineSubstation_row r).unreadable hs he
  · exact (defineSection_row r).unreadable hs he
  · exact (defineTrainClass_row r).unreadable hs he
  · exact (defineZoneGroup_row r).unreadable hs he
  · exact (defineDeskClass_row r).unreadable hs he
  · exact (mapIncidentKind_row r).unreadable hs he
  · exact exec_defineHeadwayBands_unreadable hs he hp hb
  · exact fun hp hn => (defineTimingPoint_row r).remove hs he hp (define_remove _ ha hi h1 hn)
  · exact fun hp hn => (defineSegment_row r).remove hs he hp (define_remove _ ha hi h1 hn)
  · exact fun hp hn => (defineRoute_row r).remove hs he hp (define_remove _ ha hi h1 hn)
  · exact fun hp hn => (defineMerge_row r).remove hs he hp (define_remove _ ha hi h1 hn)
  · exact fun hp hn => (defineSubstation_row r).remove hs he hp (define_remove _ ha hi h1 hn)
  · exact fun hp hn => (defineSection_row r).remove hs he hp (define_remove _ ha hi h1 hn)
  · exact fun hp hn => (defineTrainClass_row r).remove hs he hp (define_remove _ ha hi h1 hn)
  · rw [(defineZoneGroup_row r).remove hs he hp (define_remove _ ha hi h1 hn)]
    by_cases hz : get1 s.lds.zoneGroups i = some 0
    · rw [if_pos hz, if_neg (by simp [hz])]
    · rw [if_neg hz, if_pos ((zoneGroup_undefined h1 hn).2 hz)]; rfl
  · exact fun hp hn => (defineDeskClass_row r).remove hs he hp (define_remove _ ha hi h1 hn)
  · exact fun hp hn => (mapIncidentKind_row r).remove hs he hp (define_remove _ ha hi h1 hn)

end Sys2Proof.Machine
end

section
namespace Sys2Proof.Machine

/-! ### Description requests in SERVICE (R2, R12, R15) -/

/-- A refusal by the owner of a request that names no handle leaves an answer and nothing else. -/
theorem next_reply {s : State} {k : ReqKind} {r : Req} {f : State → Reply × State} {code : AnswerCode}
    (hp : Passes s k r) (he : BetweenEvents s) (hk : k.namesHandle = false)
    (hf : f (s.recordRequest k.code r) = (s.recordRequest k.code r).reply code) :
    (Host.Outcome.next (s.takeRequest k r f) : Host.Outcome State Fault Refusal) =
      .next (answered s k r code 0 []) :=
  next_answered hp he hf (by simp [hk])

/-- With every wait queue and every substation's credits as before the event, no queue is served (R112). -/
theorem serveLeft_of_waiting {s t : State} (h : ∀ i, s.waiting i = t.waiting i) : t.serveLeft s = t := by
  simp only [State.serveLeft, h, if_true]
  exact List.foldl_fixed _

@[simp] theorem thenServe_reply (s : State) (c : AnswerCode) : thenServe s (s.reply c) = s.reply c :=
  congrArg (Prod.mk _) (serveLeft_of_waiting (s := s) fun _ => rfl)

theorem settleParam_locked {s : State} (hs : s.inService = true) {r : Req} (h : r.u8 0 ∈ [3, 4, 5, 6]) :
    s.settleParam r = s.reply .locked := by
  simp only [List.mem_cons, List.not_mem_nil, or_false] at h
  unfold State.settleParam
  rcases h with h | h | h | h <;> simp [h, hs, ParamKind.ofCode, ParamKind.adjustable]

/-- Settles O21: a description request is LOCKED, so is a parameter that is not adjustable. -/
theorem descriptionLocked : Obligations.DescriptionLocked := by
  refine fun c k r s hs he hp => ⟨fun hc hk => ?_, ?_, ?_⟩
  · obtain ⟨f, hf, hl⟩ := describing_locked hc hk
    rw [hf]
    exact next_reply hp he ((by decide : ∀ k ∈ describingKinds, k.namesHandle = false) k hk) (hl _ hs)
  · rintro rfl h
    exact next_reply hp he rfl (by
      rw [settleSetLineParameter, settleParam_locked (s := s.recordRequest _ r) hs h, thenServe_reply])
  · rintro rfl
    exact next_reply hp he rfl (settleEnterService_service (s := s.recordRequest _ r) hs r)

end Sys2Proof.Machine
end

/-! ## What validation asks for (R14) -/

section
namespace Sys2Proof.Machine

/-! ### Findings -/

theorem failsIf_eq_none {k : ItemKind} {i : Nat} {bad : Bool} {f : ValidationFault} :
    failsIf k i bad f = none ↔ bad = false := by
  cases bad <;> simp [failsIf]

theorem firstFinding_eq_none {l : List (Option Finding)} : firstFinding l = none ↔ ∀ x ∈ l, x = none := by
  simp [firstFinding]

/-- A description passes validation exactly when every check of R14's table finds nothing. -/
theorem validate_eq_none {d : Lds} : d.validate = none ↔
    (∀ i ∈ ids 4, d.checkClass i = none) ∧ (∀ i ∈ ids 16, d.checkSection i = none) ∧
    (∀ i ∈ ids 32, d.checkPoint i = none) ∧ (∀ i ∈ ids 48, d.checkSegment i = none) ∧
    (∀ i ∈ ids 2, d.checkMerge i = none) ∧ (∃ i ∈ ids 4, (look d.routes i).isSome) ∧
    (∀ i ∈ ids 4, d.checkRoute i = none) ∧ (∀ c ∈ DeskClass.all, d.checkDesk c = none) ∧
    (∀ i ∈ ids 6, d.checkKind i = none) ∧ d.checkClients = none ∧ d.bands.isSome ∧ d.params.template.isSome := by
  simp only [Lds.validate, firstFinding_eq_none, List.mem_append, List.mem_cons, List.mem_map, List.not_mem_nil,
    or_false, or_imp, forall_and, forall_exists_index, and_imp, forall_apply_eq_imp_iff₂, forall_eq, failsIf_eq_none]
  simp [and_assoc, Option.isSome_iff_ne_none]

/-- The checks of one item find nothing exactly when none of their conditions holds. -/
theorem firstFinding_cons {x : Option Finding} {l : List (Option Finding)} :
    firstFinding (x :: l) = none ↔ x = none ∧ firstFinding l = none := by
  simp [firstFinding_eq_none]

@[simp] theorem firstFinding_nil : firstFinding [] = none := rfl

/-! ### The rows of the table -/

variable {d : Lds} {i : Nat}

theorem mem_ids_of_look {α : Type} {n : Nat} {v : Vector (Option α) n} {a : α} (h : look v i = some a) : i ∈ ids n :=
  mem_ids.2 (look_some_range h)

theorem mem_incoming {p : Nat} : i ∈ d.incoming p ↔ ∃ g, look d.segments i = some g ∧ g.toTp = p := by
  simp only [Lds.incoming, List.mem_filter, Option.any_eq_true, beq_iff_eq]
  exact ⟨And.right, fun ⟨g, hg, hp⟩ => ⟨mem_ids_of_look hg, g, hg, hp⟩⟩

theorem mem_outgoing {p : Nat} : i ∈ d.outgoing p ↔ ∃ g, look d.segments i = some g ∧ g.fromTp = p := by
  simp only [Lds.outgoing, List.mem_filter, Option.any_eq_true, beq_iff_eq]
  exact ⟨And.right, fun ⟨g, hg, hp⟩ => ⟨mem_ids_of_look hg, g, hg, hp⟩⟩

theorem checkClass_eq_none : d.checkClass i = none ↔ (look d.classes i).isSome := by
  simp [Lds.checkClass, failsIf_eq_none, Option.isSome_iff_ne_none]

theorem checkSection_eq_none {x : SectionDef} (hx : look d.sections i = some x) (h : d.checkSection i = none) :
    (look d.substations x.primary).isSome ∧
      ∀ y, x.secondary = some y → (look d.substations y).isSome ∧ y ≠ x.primary := by
  simp only [Lds.checkSection, hx, Option.bind_some, firstFinding_cons, failsIf_eq_none] at h
  obtain ⟨hp, hs, hne, -⟩ := h
  refine ⟨by simpa [Option.isSome_iff_ne_none] using hp, fun y hy => ⟨?_, ?_⟩⟩
  · simpa [hy, Option.isSome_iff_ne_none] using hs
  · rintro rfl; simp [hy] at hne

theorem checkPoint_eq_none {x : TimingPoint} (hx : look d.points i = some x) (h : d.checkPoint i = none) :
    (∃ j g, look d.segments j = some g ∧ (g.fromTp = i ∨ g.toTp = i)) ∧
      (d.incoming i).length ≤ 2 ∧ (d.outgoing i).length ≤ 2 ∧
      ((d.incoming i).length = 2 → ∃ j m, look d.merges j = some m ∧ m.tp = i) := by
  simp only [Lds.checkPoint, hx, Option.bind_some, firstFinding_cons, failsIf_eq_none] at h
  obtain ⟨hiso, hmany, hmerge, -⟩ := h
  refine ⟨?_, ?_, ?_, fun h2 => ?_⟩
  · by_cases hin : d.incoming i = []
    · have hout : d.outgoing i ≠ [] := by rintro e; simp [hin, e] at hiso
      obtain ⟨j, hj⟩ := List.exists_mem_of_ne_nil _ hout
      obtain ⟨g, hg, hp⟩ := mem_outgoing.1 hj
      exact ⟨j, g, hg, .inl hp⟩
    · obtain ⟨j, hj⟩ := List.exists_mem_of_ne_nil _ hin
      obtain ⟨g, hg, hp⟩ := mem_incoming.1 hj
      exact ⟨j, g, hg, .inr hp⟩
  · simp at hmany; exact hmany.1
  · simp at hmany; exact hmany.2
  · simp only [h2, beq_self_eq_true, Bool.true_and, Bool.not_eq_false', List.any_eq_true, Option.any_eq_true,
      beq_iff_eq] at hmerge
    obtain ⟨j, -, m, hm⟩ := hmerge
    exact ⟨j, m, hm⟩

/-- A segment of a valid description, but for the pairs that only a lower identifier may repeat. -/
theorem checkSegment_eq_none {g : Segment} (hg : look d.segments i = some g) (h : d.checkSegment i = none) :
    g.fromTp ≠ g.toTp ∧
      (∃ a b, look d.points g.fromTp = some a ∧ look d.points g.toTp = some b ∧ a.dir = b.dir) ∧
      (∃ x, look d.sections g.sec = some x ∧ x.lo ≤ g.lo ∧ g.hi ≤ x.hi) ∧
      ∀ j x, look d.segments j = some x → j < i → ¬ (x.fromTp = g.fromTp ∧ x.toTp = g.toTp) := by
  simp only [Lds.checkSegment, hg, Option.bind_some, firstFinding_cons, failsIf_eq_none] at h
  obtain ⟨hpts, hloop, hdir, hdup, hsec, hin, -⟩ := h
  refine ⟨by simpa using hloop, ?_, ?_, fun j x hx hj hpair => ?_⟩
  · cases ha : look d.points g.fromTp with
    | none => simp [ha] at hpts
    | some a =>
      cases hb : look d.points g.toTp with
      | none => simp [hb] at hpts
      | some b => exact ⟨a, b, rfl, rfl, by simpa [ha, hb] using hdir⟩
  · cases hs : look d.sections g.sec with
    | none => simp [hs] at hsec
    | some x => exact ⟨x, rfl, by simpa [hs] using hin⟩
  · have := List.any_eq_false.1 hdup j (mem_ids_of_look hx)
    simp [hx, hj, hpair] at this

theorem checkMerge_eq_none {m : MergeDef} (hm : look d.merges i = some m) (h : d.checkMerge i = none) :
    (look d.points m.tp).isSome ∧ (∀ j n, look d.merges j = some n → j < i → n.tp ≠ m.tp) ∧
      ∀ g, (∃ x, look d.segments g = some x ∧ x.toTp = m.tp) ↔ g = m.main ∨ g = m.branch := by
  simp only [Lds.checkMerge, hm, Option.bind_some, firstFinding_cons, failsIf_eq_none] at h
  obtain ⟨hpt, hrep, hfeeds, -⟩ := h
  refine ⟨by simpa [Option.isSome_iff_ne_none] using hpt, fun j n hn hj e => ?_, fun g => ?_⟩
  · have := List.any_eq_false.1 hrep j (mem_ids_of_look hn)
    simp [hn, hj, e] at this
  · have feeds : d.incoming m.tp = [min m.main m.branch, max m.main m.branch] := by simpa using hfeeds
    rw [← mem_incoming, feeds]
    simp only [List.mem_cons, List.not_mem_nil, or_false]
    omega

theorem checkRoute_eq_none {l : List Nat} (hl : look d.routes i = some l) (h : d.checkRoute i = none) :
    l.Nodup ∧ (∀ p ∈ l, (look d.points p).isSome) ∧ d.joined l = true := by
  simp only [Lds.checkRoute, hl, Option.bind_some, firstFinding_cons, failsIf_eq_none] at h
  obtain ⟨hpts, hrep, hjoin, -⟩ := h
  refine ⟨by simpa using hrep, fun p hp => ?_, by simpa using hjoin⟩
  simpa [Option.isSome_iff_ne_none] using List.any_eq_false.1 hpts p hp

theorem checkDesk_eq_none {c : DeskClass} {x : DeskDef} (hx : look d.deskClasses c.index = some x)
    (h : d.checkDesk c = none) : x.base + x.size ≤ 8 ∧ ∀ j y, look d.deskClasses j = some y → j < c.index →
      x.base + x.size ≤ y.base ∨ y.base + y.size ≤ x.base := by
  simp only [Lds.checkDesk, hx, firstFinding_cons, failsIf_eq_none] at h
  obtain ⟨hout, hshare, -⟩ := h
  refine ⟨by simpa using hout, fun j y hy hj => ?_⟩
  have := List.any_eq_false.1 hshare j (mem_ids_of_look hy)
  simp only [hy, hj, decide_true, Bool.true_and, Option.any_some, DeskDef.shares, overlaps, Bool.and_eq_true,
    decide_eq_true_eq] at this
  omega

theorem checkDesk_supervisor (h : d.checkDesk .supervisor = none) :
    (look d.deskClasses DeskClass.supervisor.index).isSome := by
  cases hx : look d.deskClasses DeskClass.supervisor.index with
  | some x => rfl
  | none => simp [Lds.checkDesk, hx, failsIf_eq_none] at h

/-- The desk map's numbers are those of the four classes. -/
theorem exists_index_eq {i : Nat} (h : i ∈ ids 4) : ∃ c ∈ DeskClass.all, c.index = i :=
  (by decide : ∀ i ∈ ids 4, ∃ c ∈ DeskClass.all, c.index = i) i h

theorem desk_of_checks {x : DeskDef} (h : ∀ c ∈ DeskClass.all, d.checkDesk c = none)
    (hx : look d.deskClasses i = some x) : x.base + x.size ≤ 8 ∧ ∀ j y, look d.deskClasses j = some y → j < i →
      x.base + x.size ≤ y.base ∨ y.base + y.size ≤ x.base := by
  obtain ⟨c, hc, rfl⟩ := exists_index_eq (mem_ids_of_look hx)
  exact checkDesk_eq_none hx (h c hc)

theorem checkKind_eq_none {c : DeskClass} (hc : look d.kindMap i = some c) (h : d.checkKind i = none) :
    (look d.deskClasses c.index).isSome := by
  simpa [Lds.checkKind, hc, failsIf_eq_none, Option.isSome_iff_ne_none] using h

theorem checkClients_eq_none (h : d.checkClients = none) :
    ∃ i c, get0 d.clients i = some c ∧ c.configured = true ∧ c.role = .supervisor := by
  simp only [Lds.checkClients, failsIf_eq_none, Bool.not_eq_false', List.any_eq_true, Bool.and_eq_true,
    beq_iff_eq] at h
  obtain ⟨c, hc, hs⟩ := h
  obtain ⟨i, hi⟩ := List.getElem?_of_mem hc
  exact ⟨i, c, hi, hs⟩

/-- What a lower identifier may not repeat, no other may. -/
theorem eq_of_not_lt {P : Nat → Nat → Prop} (h : ∀ i j, P i j → ¬ j < i) (symm : ∀ i j, P i j → P j i) {i j : Nat}
    (hp : P i j) : j = i := by
  have := h i j hp
  have := h j i (symm i j hp)
  omega

/-- Settles O23: every row of the table by the check that stands for it. -/
theorem validatedDescription : Obligations.ValidatedDescription := by
  intro d hv
  obtain ⟨hcls, hsec, hpt, hseg, hmrg, ⟨i, -, hi⟩, hrt, hdesk, hkind, hcli, hbands, htmpl⟩ := validate_eq_none.1 hv
  refine ⟨fun i h h' => checkClass_eq_none.1 (hcls i (mem_ids.2 ⟨h, h'⟩)), ⟨i, hi⟩, hbands, htmpl,
    fun i x hx => checkSection_eq_none hx (hsec i (mem_ids_of_look hx)),
    fun i x hx => checkPoint_eq_none hx (hpt i (mem_ids_of_look hx)), fun i g hg => ?_, fun i m hm => ?_,
    fun i l hl => checkRoute_eq_none hl (hrt i (mem_ids_of_look hl)),
    checkDesk_supervisor (hdesk _ (by decide)), fun i x hx => ?_,
    fun i c hc => checkKind_eq_none hc (hkind i (mem_ids_of_look hc)), checkClients_eq_none hcli⟩
  · obtain ⟨hne, hdir, hin, hdup⟩ := checkSegment_eq_none hg (hseg i (mem_ids_of_look hg))
    refine ⟨hne, hdir, hin, fun j h hh hf ht => ?_⟩
    refine eq_of_not_lt (P := fun i j => ∃ a b, look d.segments i = some a ∧ look d.segments j = some b ∧
      b.fromTp = a.fromTp ∧ b.toTp = a.toTp) ?_ ?_ ⟨g, h, hg, hh, hf, ht⟩
    · rintro i j ⟨a, b, ha, hb, hab⟩ hlt
      obtain ⟨-, -, -, hlow⟩ := checkSegment_eq_none ha (hseg i (mem_ids_of_look ha))
      exact hlow j b hb hlt hab
    · rintro i j ⟨a, b, ha, hb, h1, h2⟩
      exact ⟨b, a, hb, ha, h1.symm, h2.symm⟩
  · obtain ⟨hp, -, hfeeds⟩ := checkMerge_eq_none hm (hmrg i (mem_ids_of_look hm))
    refine ⟨hp, fun j n hn e => ?_, hfeeds⟩
    refine eq_of_not_lt (P := fun i j => ∃ a b, look d.merges i = some a ∧ look d.merges j = some b ∧ b.tp = a.tp)
      ?_ ?_ ⟨m, n, hm, hn, e⟩
    · rintro i j ⟨a, b, ha, hb, hab⟩ hlt
      obtain ⟨-, hlow, -⟩ := checkMerge_eq_none ha (hmrg i (mem_ids_of_look ha))
      exact hlow j b hb hlt hab
    · rintro i j ⟨a, b, ha, hb, h1⟩
      exact ⟨b, a, hb, ha, h1.symm⟩
  · have row {i : Nat} {x : DeskDef} (hx : look d.deskClasses i = some x) := desk_of_checks hdesk hx
    refine ⟨(row hx).1, fun j y hy hne => ?_⟩
    obtain hlt | hlt := Nat.lt_or_gt_of_ne hne
    · exact ((row hy).2 i x hx hlt).symm
    · exact (row hx).2 j y hy hlt

end Sys2Proof.Machine
end

/-! ## Lookups of a whole block (R17, R29, R52, R99, R146, R172, R184) -/

section
namespace Sys2Proof.Machine

/-- A lookup that answers OK with a body taken from the state, and changes nothing. -/
theorem next_answer {s : State} {k : ReqKind} {r : Req} {f : State → Reply × State} {body : List Byte}
    (hp : Passes s k r) (he : BetweenEvents s) (hk : k.namesHandle = false)
    (hf : f (s.recordRequest k.code r) = (s.recordRequest k.code r).answer body) :
    (Host.Outcome.next (s.takeRequest k r f) : Host.Outcome State Fault Refusal) =
      .next (answered s k r .ok 0 body) :=
  next_answered hp he hf (by simp [hk])

variable {s : State} {r : Req}

theorem exec_lookupLine (he : BetweenEvents s) (hp : Passes s .lookupLine r) {k : ItemKind}
    (hk : ItemKind.ofCode (r.u8 0) = some k) (hl : r.u8 1 ≤ k.last) : exec (.lookupLine r) s =
      .next ((s.lds.itemBody k (r.u8 1)).elim (answered s .lookupLine r .notFound 0 [])
        fun b => answered s .lookupLine r .ok 0 b) := by
  cases hb : s.lds.itemBody k (r.u8 1) with
  | none => exact next_reply hp he rfl (by simp [settleLookupLine, hk, Nat.not_lt.2 hl, hb])
  | some b => exact next_answer hp he rfl (by simp [settleLookupLine, hk, Nat.not_lt.2 hl, hb])

theorem exec_lookupLine_outOfRange (he : BetweenEvents s) (hp : Passes s .lookupLine r)
    (h : ∀ k, ItemKind.ofCode (r.u8 0) = some k → k.last < r.u8 1) :
    exec (.lookupLine r) s = .next (answered s .lookupLine r .outOfRange 0 []) := by
  cases hk : ItemKind.ofCode (r.u8 0) with
  | none => exact next_reply hp he rfl (by simp [settleLookupLine, hk])
  | some k => exact next_reply hp he rfl (by simp [settleLookupLine, hk, h k hk])

/-- The counters of a route in an answer; all 0 where the description has no such route (R52). -/
theorem encCounters_countersOf {i : Nat} (hi : i ∈ ids 4) : encCounters (s.countersOf i) =
    if (look s.lds.routes i).isSome then
      (get1 s.rtb.counters i).elim [] fun c =>
        enc16 c.onTime ++ enc16 c.late ++ enc16 c.veryLate ++ enc16 c.cancelled
    else enc16 0 ++ enc16 0 ++ enc16 0 ++ enc16 0 := by
  obtain ⟨c, hc⟩ := get1_isSome s.rtb.counters (mem_ids.1 hi).1 (mem_ids.1 hi).2
  unfold State.countersOf
  split
  · rw [hc]; rfl
  · rfl

theorem exec_lookupDesk (he : BetweenEvents s) (hp : Passes s .lookupDesk r) : exec (.lookupDesk r) s = .next (
    if r.u8 0 ≤ 7 then answered s .lookupDesk r .ok 0
      (encList (s.desk (r.u8 0)) s.deskEntry ++ enc8 (deskSet fun d => !(s.desk d).isEmpty))
    else answered s .lookupDesk r .outOfRange 0 []) := by
  split
  · next h => exact next_answer hp he rfl (by rw [settleLookupDesk, if_neg (by omega)]; rfl)
  · next h => exact next_reply hp he rfl (by rw [settleLookupDesk, if_pos (by omega)])

theorem exec_lookupChannel (he : BetweenEvents s) (hp : Passes s .lookupChannel r) :
    exec (.lookupChannel r) s = .next (
      if r.u8 0 ≤ 3 then answered s .lookupChannel r .ok 0 (s.channelBody (s.chan (r.u8 0)))
      else answered s .lookupChannel r .outOfRange 0 []) := by
  split
  · next h => exact next_answer hp he rfl (by rw [settleLookupChannel, if_neg (by omega)]; rfl)
  · next h => exact next_reply hp he rfl (by rw [settleLookupChannel, if_pos (by omega)])

/-- Settles O26: each lookup by its owner, which answers from the state and leaves it alone. -/
theorem wholeLookups : Obligations.WholeLookups := by
  refine fun r s he => ⟨fun k hp => exec_lookupLine he hp, exec_lookupLine_outOfRange he, fun hp => ?_,
    fun hp => next_answer hp he rfl rfl, exec_lookupDesk he, exec_lookupChannel he,
    fun hp => next_answer hp he rfl rfl, fun hp => next_answered hp (by exact he) rfl rfl⟩
  refine next_answer hp he rfl ?_
  rw [show settleLookupCounters r (s.recordRequest ReqKind.lookupCounters.code r) =
    (s.recordRequest ReqKind.lookupCounters.code r).answer ((ids 4).flatMap fun i => encCounters (s.countersOf i))
    from rfl]
  exact congrArg _ (List.flatMap_congr fun i hi => encCounters_countersOf hi)

end Sys2Proof.Machine
end

/-! ## What an event leaves behind: the answer, the notices, the boards, the orders -/

section
namespace Sys2Proof.Machine

/-! ### The answer (R175, R178) -/

/-- The blocks' work leaves the port alone but for its pending notices. -/
theorem crp_of_kept {s t : State} (h : t.kept = s.kept) : ∃ n, t.crp = { s.crp with notices := n } := by
  have hc : t.kept.crp = s.kept.crp := by rw [h]
  have hk (u : State) : u.crp = { u.kept.crp with notices := u.crp.notices } := rfl
  refine ⟨t.crp.notices, ?_⟩
  rw [hk t, hc]
  rfl

/-- A request that passes the port makes one exchange of the state that its owner leaves, and its event ends. -/
theorem next_answers {s u : State} {k : ReqKind} {r : Req} {f : State → Reply × State} {code : AnswerCode} {h : Nat}
    {body : List Byte} (hp : Passes s k r) (hf : f (s.recordRequest k.code r) = (⟨code, none, body⟩, u))
    (hc : ∃ n, u.crp = { (s.recordRequest k.code r).crp with notices := n })
    (hh : (if k.namesHandle then r.principal else 0) = h) :
    ∃ t, (Host.Outcome.next (s.takeRequest k r f) : Host.Outcome State Fault Refusal) = .next t ∧
      t = (u.writeAnswer (answerBytes k.code r code.code h body)).finish ∧ Answers s t k r code h body := by
  refine ⟨_, rfl, ?_, ?_⟩
  · rw [takeRequest_passes s k r f hp, hf, ← hh]; rfl
  · obtain ⟨n, hn⟩ := hc
    refine ⟨n, ?_⟩
    rw [takeRequest_passes s k r f hp, hf, finish_crp, ← hh]
    simp only [State.writeAnswer, onCrp_crp, hn]
    rfl

@[simp] theorem writeAnswer_lck (s : State) (b : List Byte) : (s.writeAnswer b).lck = s.lck := rfl
@[simp] theorem writeAnswer_rtb (s : State) (b : List Byte) : (s.writeAnswer b).rtb = s.rtb := rfl
@[simp] theorem writeAnswer_mvt (s : State) (b : List Byte) : (s.writeAnswer b).mvt = s.mvt := rfl
@[simp] theorem writeAnswer_drg (s : State) (b : List Byte) : (s.writeAnswer b).drg = s.drg := rfl
@[simp] theorem writeAnswer_tpc (s : State) (b : List Byte) : (s.writeAnswer b).tpc = s.tpc := rfl
@[simp] theorem writeAnswer_itb (s : State) (b : List Byte) : (s.writeAnswer b).itb = s.itb := rfl
@[simp] theorem writeAnswer_piu (s : State) (b : List Byte) : (s.writeAnswer b).piu = s.piu := rfl
@[simp] theorem writeAnswer_fli (s : State) (b : List Byte) : (s.writeAnswer b).fli = s.fli := rfl
@[simp] theorem writeAnswer_pending (s : State) (b : List Byte) : (s.writeAnswer b).pending = s.pending := rfl
@[simp] theorem writeAnswer_notices (s : State) (b : List Byte) : (s.writeAnswer b).crp.notices = s.crp.notices := rfl

/-! ### Posting (R179, R180) -/

@[simp] theorem postTo_lds (s : State) (n : Notice) (c : Nat) : (s.postTo n c).lds = s.lds :=
  lds_of_kept (postTo_kept s n c)

/-- Posting to a client changes the pending notices alone. -/
theorem postTo_onCrp (s : State) (n : Notice) (c : Nat) :
    ∃ l, s.postTo n c = s.onCrp fun x => { x with notices := l } := by
  unfold State.postTo
  split
  · exact ⟨_, rfl⟩
  · exact ⟨s.crp.notices, rfl⟩

/-- Posting changes the pending notices alone. -/
theorem postWhere_onCrp (s : State) (n : Notice) (p : Client → Bool) :
    ∃ l, s.postWhere n p = s.onCrp fun x => { x with notices := l } := by
  have posted (cs : List Nat) (u : State) :
      ∃ l, cs.foldl (fun t c => if (get0 s.lds.clients c).any p then t.postTo n c else t) u =
        u.onCrp fun x => { x with notices := l } := by
    induction cs generalizing u with
    | nil => exact ⟨u.crp.notices, rfl⟩
    | cons c cs ih =>
      rw [List.foldl_cons]
      split
      · obtain ⟨l, hl⟩ := postTo_onCrp u n c
        obtain ⟨m, hm⟩ := ih (u.postTo n c)
        exact ⟨m, by rw [hm, hl]; rfl⟩
      · exact ih u
  exact posted _ s

theorem postTo_notices {s : State} {k : Nat} {x : Client} (hx : get0 s.lds.clients k = some x) (n : Notice) (c : Nat) :
    get0 (s.postTo n c).crp.notices k =
      (get0 s.crp.notices k).map fun y => if c = k ∧ x.configured then y.join n else y := by
  unfold State.postTo
  by_cases hc : c = k
  · subst hc
    cases hb : x.configured <;> simp [hx, hb, get0_mod0_self]
  · split
    · simp [hc, get0_mod0_ne _ hc]
    · simp [hc]

/-- Posting joins the notice to the list of every configured client that satisfies the test, and to no other. -/
theorem postWhere_notices {s : State} {k : Nat} {x : Client} (hx : get0 s.lds.clients k = some x) (n : Notice)
    (p : Client → Bool) : get0 (s.postWhere n p).crp.notices k =
      (get0 s.crp.notices k).map fun y => if x.configured && p x then y.join n else y := by
  have posted (cs : List Nat) (hd : cs.Nodup) (u : State) (hu : u.lds = s.lds) :
      get0 (cs.foldl (fun t c => if (get0 s.lds.clients c).any p then t.postTo n c else t) u).crp.notices k =
        (get0 u.crp.notices k).map fun y => if k ∈ cs ∧ x.configured ∧ p x then y.join n else y := by
    induction cs generalizing u with
    | nil => simp
    | cons c cs ih =>
      obtain ⟨hc, hd⟩ := List.nodup_cons.1 hd
      rw [List.foldl_cons]
      split
      · next hany =>
        rw [ih hd _ (by simp [hu]), postTo_notices (by rw [hu]; exact hx)]
        by_cases hk : c = k
        · subst hk
          have hp : p x = true := by simpa [hx] using hany
          simp [hc, hp, Function.comp_def]
        · simp [hk, Ne.symm hk]
      · next hany =>
        rw [ih hd _ hu]
        by_cases hk : c = k
        · subst hk
          have hp : p x = false := by simpa [hx] using hany
          simp [hp]
        · simp [Ne.symm hk]
  have hk : k < 8 := by simpa [get0] using (List.getElem?_eq_some_iff.1 hx).1
  rw [State.postWhere, posted _ List.nodup_range s rfl]
  simp [hk]

/-! ### The horizon watch (R49, R50) -/

/-- The horizon count is formed from the runs, the clock and the parameters. -/
theorem horizon_of_eq {s t : State} (hr : t.rtb.slots = s.rtb.slots) (hc : t.lck = s.lck)
    (hl : t.lds.params = s.lds.params) : t.horizon = s.horizon := by
  simp only [State.horizon, State.runSlots, State.liveRuns, State.after, State.now, hr, hc, hl]
  rfl

theorem horizon_of_noRuns {s : State} (h : ∀ i, s.runAt i = none) : s.horizon = 0 := by
  have : s.liveRuns = [] := List.eq_nil_iff_forall_not_mem.2 fun p hp => by
    have := mem_liveRuns.1 (show (p.1, p.2) ∈ s.liveRuns from hp)
    simp [h p.1] at this
  simp [State.horizon, State.runSlots, this]

/-- The state after the evaluation of an armed watch: the count is stored, the watch stays armed at the low-water mark
or above, and the pending notices are `l`. -/
def State.watched (s : State) (l : Vector ClientNotices 8) : State :=
  { s with
    rtb := { s.rtb with horizonCount := s.horizon, armed := decide (s.lds.params.lwm ≤ s.horizon) }
    crp := { s.crp with notices := l } }

/-- The evaluation of an armed watch posts TIMETABLE_LOW to the DISPATCH clients below the low-water mark. -/
theorem evalHorizon_armed {s : State} (hs : s.inService = true) (ha : s.rtb.armed = true) :
    ∃ l, s.evalHorizon = s.watched l ∧
      ∀ k x, get0 s.lds.clients k = some x → get0 l k = (get0 s.crp.notices k).map fun c =>
        (s.timetableNotice true s.horizon).foldl (fun c n => if x.configured && n.2 k x then c.join n.1 else c) c := by
  unfold State.evalHorizon
  rw [if_pos hs]
  by_cases hn : s.horizon < s.lds.params.lwm
  · simp only [hn, ha, if_true]
    obtain ⟨l, hl⟩ := postWhere_onCrp (s.onRtb fun x => { x with horizonCount := s.horizon, armed := false })
      ⟨.timetableLow, 0, s.horizon⟩ fun c => c.role == .dispatch
    refine ⟨l, by rw [hl]; simp [State.watched, State.onCrp, State.onRtb, Nat.not_le.2 hn], fun k x hx => ?_⟩
    have posted := postWhere_notices (s := s.onRtb fun x => { x with horizonCount := s.horizon, armed := false }) hx
      ⟨.timetableLow, 0, s.horizon⟩ fun c => c.role == .dispatch
    rw [hl] at posted
    simpa [State.timetableNotice, hn, ofRole] using posted
  · simp only [hn, if_false]
    refine ⟨s.crp.notices, by simp [State.watched, State.onRtb, Nat.not_lt.1 hn], fun k x hx => ?_⟩
    simp [State.timetableNotice, hn]

/-! ### Orders (R188, R189) -/

/-- What joins a stream's queue before the event ends has been created by the event: its head may go onto a free
line. -/
theorem created_of_startFrame {s t : State} {st : Stream} {l : List Order} {g : Fli} (ht : t.fli = g.startFrame)
    (hq : g.queue st = s.fli.queue st ++ l) (hs : g.sending = s.fli.sending) : Created s t st l := by
  obtain h | ⟨hn, o, ho, hf⟩ := startFrame_queue g st
  · exact .inl (by rw [ht, h, hq])
  · exact .inr ⟨by rw [← hs, hn], o, by rw [← hq, ho, ht], by rw [ht, hf]⟩

/-! ### The boards (R169, R170) -/

/-- The BOARD_UPDATE order of a board as stored. -/
def boardOrder (p : Nat) (b : Board) : Order := .boardUpdate p b.line1 b.line2

/-- Sending the boards of several timing points joins their orders to the board stream and changes nothing else. -/
theorem foldl_orderBoard (ps : List Nat) (s : State) : ps.foldl State.orderBoard s =
    s.onFli fun f =>
      { f with boardQ := f.boardQ ++ ps.filterMap fun p => (look s.piu.boards p).map (boardOrder p) } := by
  induction ps generalizing s with
  | nil => simp [State.onFli]
  | cons p ps ih =>
    rw [List.foldl_cons, ih]
    unfold State.orderBoard
    cases hb : look s.piu.boards p with
    | none => simp [hb]
    | some b => simp [hb, State.order, State.onFli, Order.stream, Fli.setQueue, Fli.queue, boardOrder]

/-- A board's content is formed from the description, the clock, the runs and the track. -/
theorem boardContent_of_eq {s t : State} (hl : t.lds = s.lds) (hc : t.lck = s.lck) (hr : t.rtb = s.rtb)
    (hm : t.mvt = s.mvt) : t.boardContent = s.boardContent := by
  cases s; cases t
  simp only at hl hc hr hm
  subst hl hc hr hm
  rfl

/-- The order that the re-evaluation of a board creates, if its content changes (R170). -/
def State.boardChange (s : State) (p : Nat) : Option Order :=
  (look s.piu.boards p).bind fun b => if s.boardNow p b = b then none else some (boardOrder p (s.boardNow p b))

/-- A re-evaluation writes what the board shows now and creates an order where that differs. -/
theorem reevaluate_eq (s : State) (p : Nat) : ∃ v : Vector (Option Board) 32,
    s.reevaluate p = (s.onPiu fun t => { t with boards := v }).onFli
      (fun f => { f with boardQ := f.boardQ ++ (s.boardChange p).toList }) ∧
    ∀ q, look v q = if q = p then (look s.piu.boards p).map (s.boardNow p) else look s.piu.boards q := by
  unfold State.reevaluate State.boardChange
  cases hb : look s.piu.boards p with
  | none =>
    refine ⟨s.piu.boards, by simp [State.onPiu, State.onFli], fun q => ?_⟩
    split
    · next e => rw [e, hb]; rfl
    · rfl
  | some b =>
    have now : s.boardNow p b = if s.mvt.stale then b.hold else s.boardContent p := rfl
    simp only [Option.bind_some, Option.map_some, ← now]
    split
    · next h =>
      refine ⟨s.piu.boards, by simp [State.onPiu, State.onFli], fun q => ?_⟩
      split
      · next e => rw [e, hb, h]
      · rfl
    · next h =>
      refine ⟨put s.piu.boards p (some (s.boardNow p b)), rfl, fun q => ?_⟩
      split
      · next e => subst e; exact look_put_self _ (look_some_range hb).1 (look_some_range hb).2 _
      · next e => exact look_put_ne _ (Ne.symm e) _

/-- The re-evaluation of several boards, each once: all are formed from the same state, and the orders stand in the
order of the list. -/
theorem foldl_reevaluate {ps : List Nat} (hd : ps.Nodup) (s : State) : ∃ v : Vector (Option Board) 32,
    ps.foldl State.reevaluate s = (s.onPiu fun t => { t with boards := v }).onFli
      (fun f => { f with boardQ := f.boardQ ++ ps.filterMap s.boardChange }) ∧
    ∀ q, look v q = if q ∈ ps then (look s.piu.boards q).map (s.boardNow q) else look s.piu.boards q := by
  induction ps generalizing s with
  | nil => exact ⟨s.piu.boards, by simp [State.onPiu, State.onFli], by simp⟩
  | cons p ps ih =>
    obtain ⟨hp, hd⟩ := List.nodup_cons.1 hd
    obtain ⟨v, hv, hlook⟩ := reevaluate_eq s p
    obtain ⟨w, hw, hlook'⟩ := ih hd (s.reevaluate p)
    have now (q : Nat) (b : Board) : (s.reevaluate p).boardNow q b = s.boardNow q b := by
      rw [State.boardNow, State.boardNow, boardContent_of_eq (reevaluate_lds s p) (reevaluate_lck s p)
        (reevaluate_rtb s p) (reevaluate_mvt s p), reevaluate_mvt]
    have boards : (s.reevaluate p).piu.boards = v := by rw [hv]; rfl
    have change : ∀ q ∈ ps, (s.reevaluate p).boardChange q = s.boardChange q := by
      intro q hq
      have hne : q ≠ p := fun e => hp (e ▸ hq)
      simp only [State.boardChange, boards, hlook, if_neg hne, now]
    refine ⟨w, ?_, fun q => ?_⟩
    · rw [List.foldl_cons, hw, List.filterMap_congr change, hv]
      simp only [State.onPiu, State.onFli, List.filterMap_cons]
      cases s.boardChange p <;> simp
    · rw [hlook', boards, hlook]
      by_cases hq : q ∈ ps
      · have hne : q ≠ p := fun e => hp (e ▸ hq)
        simp only [hq, hne, if_true, if_false, List.mem_cons, or_true]
        exact congrArg (Option.map · _) (funext (now q))
      · by_cases he : q = p
        · subst he; simp [hq]
        · simp [hq, he]

theorem ids_nodup (n : Nat) : (ids n).Nodup := List.nodup_range.map Nat.succ_injective

/-- The end of an event re-evaluates the marked boards, ascending; a frame begins if the line is free (R170, R189). -/
theorem finish_eq (s : State) : ∃ v : Vector (Option Board) 32, s.finish = { s with
      piu := { s.piu with boards := v, dirty := [] }
      fli := Fli.startFrame { s.fli with
        boardQ := s.fli.boardQ ++ ((ids 32).filter fun p => s.piu.dirty.contains p).filterMap s.boardChange } } ∧
    ∀ q, look v q = if q ∈ s.piu.dirty then (look s.piu.boards q).map (s.boardNow q) else look s.piu.boards q := by
  obtain ⟨v, hv, hlook⟩ := foldl_reevaluate ((ids_nodup 32).filter fun p => s.piu.dirty.contains p) s
  refine ⟨v, ?_, fun q => ?_⟩
  · rw [State.finish, State.flushBoards, hv]; rfl
  · rw [hlook]
    by_cases hq : q ∈ ids 32
    · simp [hq]
    · have none : look s.piu.boards q = none := by
        by_contra h
        obtain ⟨b, hb⟩ := Option.ne_none_iff_exists'.1 h
        exact hq (mem_ids.2 (look_some_range hb))
      simp [none]

end Sys2Proof.Machine
end

/-! ## Entry into service and return to SETUP (R14 to R16) -/

section
namespace Sys2Proof.Machine

/-! ### Tables changed entry by entry -/

section
variable {α β : Type} {n : Nat}

theorem get1_map (v : Vector α n) (f : α → β) (i : Nat) : get1 (v.map f) i = (get1 v i).map f := by
  unfold get1
  split <;> simp

theorem look_map_bind (v : Vector (Option α) n) (f : α → Option β) (i : Nat) :
    look (v.map fun x => x.bind f) i = (look v i).bind f := by
  unfold look
  rw [get1_map]
  cases get1 v i <;> rfl

theorem look_map_map (v : Vector (Option α) n) (f : α → β) (i : Nat) :
    look (v.map fun x => x.map f) i = (look v i).map f := by
  unfold look
  rw [get1_map]
  cases get1 v i <;> rfl

end

/-! ### Entry into service (R15) -/

/-- The Passenger Information Unit at entry into service, with every board marked. -/
def Piu.entered (d : Lds) (p : Piu) : Piu :=
  { Piu.boardsFor d p.levelsDown with dirty := ids 32 ++ p.dirty }

/-- At entry every board that the description asks for is blank. -/
theorem look_entered_boards (d : Lds) (p : Piu) (q : Nat) : look (Piu.entered d p).boards q =
    (look d.points q).bind fun x => if x.board then some Board.empty else none := look_map_bind d.points _ q

/-- Sending every board as stored, ascending by timing point. -/
theorem foldl_boardPoints (s : State) : s.boardPoints.foldl State.orderBoard s =
    s.onFli fun f => { f with boardQ := f.boardQ ++
      ((ids 32).filterMap fun p => (look s.piu.boards p).map (boardOrder p)) } := by
  have sent : s.boardPoints.filterMap (fun p => (look s.piu.boards p).map (boardOrder p)) =
      (ids 32).filterMap fun p => (look s.piu.boards p).map (boardOrder p) := by
    rw [State.boardPoints, List.filterMap_filter]
    refine List.filterMap_congr fun p _ => ?_
    cases look s.piu.boards p <;> rfl
  rw [foldl_orderBoard, sent]

/-- The state at entry into service before the horizon watch is evaluated, record by record: every board is sent blank
(R15, R53, R71, R99, R100, R105, R114, R147, R171). -/
def State.entered (s : State) : State :=
  { s with
    lds := { s.lds with mode := .service }
    rtb := { s.rtb with armed := true }
    mvt := Mvt.fresh (some (s.after s.lds.params.tStale))
    drg := s.drg.fresh
    tpc := Tpc.enter s.lds s.tpc
    itb := s.itb.fresh
    piu := Piu.entered s.lds s.piu
    fli := { s.fli with boardQ := s.fli.boardQ ++
      (ids 32).filterMap fun p => (look (Piu.entered s.lds s.piu).boards p).map (boardOrder p) } }

theorem enterService_eq (s : State) : s.enterService = s.entered.evalHorizon := by
  unfold State.enterService
  simp only [foldl_boardPoints]
  rfl

theorem entered_horizon (s : State) : s.entered.horizon = s.horizon := horizon_of_eq rfl rfl rfl

theorem entered_blank {d : Lds} {p : Piu} {q : Nat} {b : Board} (h : look (Piu.entered d p).boards q = some b) :
    b = Board.empty := by
  rw [look_entered_boards] at h
  obtain ⟨x, -, hx⟩ := Option.bind_eq_some_iff.1 h
  split at hx
  · exact (Option.some.inj hx).symm
  · cases hx

/-- The re-evaluation that ends the entry into service: each blank board shows its content, and the content is sent
where it is not blank. -/
theorem entered_boards {s e : State} (hp : e.piu = Piu.entered s.lds s.piu) (hs : e.mvt.stale = false)
    {v : Vector (Option Board) 32} (hv : ∀ q, look v q =
      if q ∈ e.piu.dirty then (look e.piu.boards q).map (e.boardNow q) else look e.piu.boards q) (q : Nat) :
    look v q = (look (Piu.entered s.lds s.piu).boards q).map (fun _ => e.boardContent q) ∧
    e.boardChange q = (look v q).bind fun b => if b = Board.empty then none else some (boardOrder q b) := by
  have now (b : Board) : e.boardNow q b = e.boardContent q := by simp [State.boardNow, hs]
  have shown : look v q = (look e.piu.boards q).map fun _ => e.boardContent q := by
    rw [hv]
    split
    · exact congrArg (Option.map · _) (funext now)
    · next h =>
      have none : look e.piu.boards q = none := by
        by_contra hb
        obtain ⟨b, hb⟩ := Option.ne_none_iff_exists'.1 hb
        exact h (by rw [hp]; exact List.mem_append_left _ (mem_ids.2 (look_some_range hb)))
      simp [none]
  refine ⟨hp ▸ shown, ?_⟩
  rw [shown, State.boardChange]
  cases hb : look e.piu.boards q with
  | none => rfl
  | some b => simp [now, entered_blank (hp ▸ hb)]

/-- What the end of the event of ENTER_SERVICE leaves of the boards: every board is sent blank, ascending, and then
shows its content, sent where it is not blank. -/
theorem entered_finish (s : State) (l : Vector ClientNotices 8) (answer : List Byte) {t : State}
    (ht : t = ((s.entered.watched l).writeAnswer answer).finish) :
    (∀ p x, look s.lds.points p = some x → ((look t.piu.boards p).isSome ↔ x.board = true)) ∧
    (∀ p b, look t.piu.boards p = some b → b = t.boardContent p) ∧
    Created s t .board
      (((ids 32).filterMap fun p => (look t.piu.boards p).map fun _ => boardOrder p Board.empty) ++
        (ids 32).filterMap fun p => (look t.piu.boards p).bind fun b =>
          if b = Board.empty then none else some (boardOrder p b)) := by
  obtain ⟨v, hv, hlook⟩ := finish_eq ((s.entered.watched l).writeAnswer answer)
  have boards := entered_boards (s := s) rfl rfl hlook
  rw [← ht] at hv
  have shown : t.piu.boards = v := by rw [hv]
  have content : t.boardContent = ((s.entered.watched l).writeAnswer answer).boardContent :=
    boardContent_of_eq (by rw [hv]) (by rw [hv]) (by rw [hv]) (by rw [hv])
  refine ⟨fun p x hx => ?_, fun p c hc => ?_, created_of_startFrame (congrArg State.fli hv) ?_ rfl⟩
  · rw [shown, (boards p).1, look_entered_boards, hx]
    cases hb : x.board <;> simp [hb]
  · rw [shown, (boards p).1] at hc
    obtain ⟨-, -, rfl⟩ := Option.map_eq_some_iff.1 hc
    rw [content]
  · have blank (p : Nat) : ((look v p).map fun _ => boardOrder p Board.empty) =
        (look (Piu.entered s.lds s.piu).boards p).map (boardOrder p) := by
      rw [(boards p).1]
      cases hb : look (Piu.entered s.lds s.piu).boards p with
      | none => rfl
      | some b => rw [entered_blank hb]; rfl
    have marked : (ids 32).filter (fun p => (Piu.entered s.lds s.piu).dirty.contains p) = ids 32 :=
      List.filter_eq_self.2 fun p hp => by simpa [Piu.entered] using .inl hp
    show (s.fli.boardQ ++ _) ++ List.filterMap _ ((ids 32).filter fun p => (Piu.entered s.lds s.piu).dirty.contains p) =
      s.fli.boardQ ++ _
    rw [marked, List.append_assoc, shown, funext blank, funext fun p => (boards p).2]

/-- A valid description enters service (R15). -/
theorem settleEnterService_valid {s : State} (hs : s.inService = false) (hv : s.lds.validate = none) (r : Req) :
    settleEnterService r s = (Reply.just .ok, s.enterService) := by
  simp [settleEnterService, hs, hv]

theorem settleEnterService_invalid {s : State} (hs : s.inService = false) {k : ItemKind} {i : Nat}
    {f : ValidationFault} (hv : s.lds.validate = some (k, i, f)) (r : Req) :
    settleEnterService r s = (⟨.outOfRange, none, enc8 k.code ++ enc8 i ++ enc8 f.code⟩, s) := by
  simp [settleEnterService, hs, hv]

/-! ### Return to SETUP (R16) -/

theorem liveRuns_eq_nil {s : State} : s.liveRuns = [] ↔ ∀ i, s.runAt i = none := by
  rw [List.eq_nil_iff_forall_not_mem]
  refine ⟨fun h i => ?_, fun h p hp => ?_⟩
  · by_contra hi
    obtain ⟨x, hx⟩ := Option.ne_none_iff_exists'.1 hi
    exact h (i, x) (mem_liveRuns.2 hx)
  · exact absurd (mem_liveRuns.1 (show (p.1, p.2) ∈ s.liveRuns from hp)) (by simp [h])

theorem liveIncs_eq_nil {s : State} : s.liveIncs = [] ↔ ∀ i, s.incAt i = none := by
  rw [List.eq_nil_iff_forall_not_mem]
  refine ⟨fun h i => ?_, fun h p hp => ?_⟩
  · by_contra hi
    obtain ⟨x, hx⟩ := Option.ne_none_iff_exists'.1 hi
    exact h (i, x) (mem_liveIncs.2 hx)
  · exact absurd (mem_liveIncs.1 (show (p.1, p.2) ∈ s.liveIncs from hp)) (by simp [h])

/-- The return may be made exactly while no run and no incident is live and every channel is DISABLED. -/
theorem mayNotReturn_eq_false {s : State} : s.mayNotReturn = false ↔
    (∀ i, s.runAt i = none) ∧ (∀ i, s.incAt i = none) ∧
      ∀ c x, get0 s.piu.channels c = some x → x.state = .disabled := by
  have channels : (s.piu.channels.toList.any fun c => c.state != .disabled) = false ↔
      ∀ c x, get0 s.piu.channels c = some x → x.state = .disabled := by
    simp only [List.any_eq_false, bne_iff_ne, ne_eq, not_not]
    refine ⟨fun h c x hx => h x (List.mem_of_getElem? hx), fun h x hx => ?_⟩
    obtain ⟨c, hc⟩ := List.getElem?_of_mem hx
    exact h c x hc
  simp only [State.mayNotReturn, Bool.or_eq_false_iff, Bool.not_eq_false', List.isEmpty_iff, liveRuns_eq_nil,
    liveIncs_eq_nil, channels, and_assoc]

theorem settleReturnToSetup_refused {s : State} (hs : s.inService = true) (h : s.mayNotReturn = true) (r : Req) :
    settleReturnToSetup r s = s.reply .badState := by simp [settleReturnToSetup, hs, h]

theorem settleReturnToSetup_setup {s : State} (hs : s.inService = false) (r : Req) :
    settleReturnToSetup r s = s.reply .noEffect := by simp [settleReturnToSetup, hs]

theorem settleReturnToSetup_returns {s : State} (hs : s.inService = true) (h : s.mayNotReturn = false) (r : Req) :
    settleReturnToSetup r s = (Reply.just .ok, s.returnToSetup) := by simp [settleReturnToSetup, hs, h]

/-- The return to SETUP, record by record; at most a notice is posted. -/
theorem returnToSetup_eq (s : State) : ∃ l, s.returnToSetup = { s with
    lds := { s.lds with mode := .setup }
    rtb := { s.rtb with horizonCount := 0, armed := true }
    mvt := Mvt.fresh none
    drg := s.drg.fresh
    tpc := s.tpc.leave
    itb := s.itb.fresh
    piu := { s.piu.levelsDown with boards := Vector.replicate 32 none }
    crp := { s.crp with notices := l } } := by
  have posted : ∃ l, (if s.mvt.stale then s.postLineEvent .staleCleared else s) =
      s.onCrp fun c => { c with notices := l } := by
    split
    · exact postWhere_onCrp s _ _
    · exact ⟨s.crp.notices, rfl⟩
  obtain ⟨l, hl⟩ := posted
  exact ⟨l, by rw [State.returnToSetup, hl]; rfl⟩

/-! ### The statement -/

variable {s : State} {r : Req}

/-- ENTER_SERVICE on a valid description: the state that the end of its event leaves, and the notices posted. -/
theorem exec_enterService_valid (hs : s.inService = false) (hp : Passes s .enterService r)
    (hv : s.lds.validate = none) : ∃ l answer t, exec (.enterService r) s = .next t ∧
      Answers s t .enterService r .ok 0 [] ∧
      t = (((s.recordRequest ReqKind.enterService.code r).entered.watched l).writeAnswer answer).finish ∧
      Posted s t (s.timetableNotice true s.horizon) := by
  obtain ⟨l, hl, hposted⟩ := evalHorizon_armed (s := (s.recordRequest ReqKind.enterService.code r).entered) rfl rfl
  obtain ⟨t, ht, hfin, hans⟩ := next_answers (f := settleEnterService r) hp
    (settleEnterService_valid (s := s.recordRequest _ r) hs hv r) ⟨l, by rw [enterService_eq, hl]; rfl⟩ rfl
  rw [enterService_eq, hl] at hfin
  rw [entered_horizon] at hposted
  refine ⟨l, _, t, ht, hans, hfin, fun k x hx => ?_⟩
  rw [hfin, finish_crp]
  exact hposted k x hx

/-- RETURN_TO_SETUP where nothing stands against it. -/
theorem exec_returnToSetup (he : BetweenEvents s) (hs : s.inService = true) (hp : Passes s .returnToSetup r)
    (h : s.mayNotReturn = false) : ∃ answer t, exec (.returnToSetup r) s = .next t ∧
      Answers s t .returnToSetup r .ok 0 [] ∧
      ∃ u, u = ((s.recordRequest ReqKind.returnToSetup.code r).returnToSetup).writeAnswer answer ∧
        t = { u with fli := s.fli.startFrame } := by
  obtain ⟨l, hl⟩ := returnToSetup_eq (s.recordRequest ReqKind.returnToSetup.code r)
  obtain ⟨t, ht, hfin, hans⟩ := next_answers (f := settleReturnToSetup r) hp
    (settleReturnToSetup_returns (s := s.recordRequest _ r) hs h r) ⟨l, by rw [hl]⟩ rfl
  refine ⟨answerBytes ReqKind.returnToSetup.code r AnswerCode.ok.code 0 [], t, ht, hans, _, rfl, ?_⟩
  rw [hfin, finish_clean _ (by rw [hl]; exact he), hl]
  rfl

/-- Settles O24: both mode changes by the state their event leaves, and their refusals. -/
theorem serviceEnteredAndLeft : Obligations.ServiceEnteredAndLeft := by
  refine ⟨fun s r hs he hp => ⟨fun hv => ?_, fun k i f hv => ?_⟩, fun s r he hp => ⟨fun hs => ?_, fun hs h => ?_,
    fun hs hruns hincs hchans => ?_⟩⟩
  · obtain ⟨l, answer, t, ht, hans, hfin, hposted⟩ := exec_enterService_valid hs hp hv
    obtain ⟨hboards, hcontent, hcreated⟩ := entered_finish _ l answer hfin
    have horizon : t.horizon = s.horizon := by
      rw [hfin]
      exact horizon_of_eq (by rw [finish_rtb]; rfl) (by rw [finish_lck]; rfl) (by rw [finish_lds]; rfl)
    have count : t.rtb.horizonCount = s.horizon := by rw [hfin, finish_rtb]; rfl
    refine ⟨t, ht, hans, ?_, ?_, ?_, ?_, ?_, ?_, ?_, ?_, ?_, ?_, fun i => ?_, fun i => ?_, fun i => ?_, fun d => ?_,
      fun c => ?_, fun z x y hx hy => ?_, hboards, count.trans horizon.symm, ?_,
      fun hr => count.trans (horizon_of_noRuns hr), horizon ▸ hposted, hcontent, hcreated⟩
    all_goals subst hfin
    · exact finish_lds _
    · exact finish_lck _
    · exact finish_pending _
    · rw [finish_itb]; rfl
    · exact finish_slots _
    · exact finish_channels _
    · rw [finish_rtb]; rfl
    · rw [finish_rtb]; rfl
    · exact finish_mvt _
    · exact finish_drg _
    · rw [State.sub, finish_tpc]; exact look_map_map _ _ i
    · rw [State.claim, finish_tpc]; exact look_replicate_none 128 i
    · rw [State.sec, finish_tpc]; exact look_map_map _ _ i
    · rw [State.desk, finish_itb]; exact reset_desk d
    · rw [finish_itb]; exact look_replicate_none 5 c
    · rw [finish_zones] at hy
      have hm : get1 (s.piu.zones.map fun (w : ZoneLevels) => { w with derived := BlockLevel.none }) z = some y := hy
      rw [get1_map, hx] at hm
      exact (Option.some.inj hm).symm
    · rw [horizon, finish_rtb]; rfl
  · exact next_answered hp he (settleEnterService_invalid (s := s.recordRequest _ r) hs hv r) rfl
  · exact next_reply hp he rfl (settleReturnToSetup_setup (s := s.recordRequest _ r) hs r)
  · have refused : s.mayNotReturn = true := by
      rw [← Bool.not_eq_false, mayNotReturn_eq_false]
      rintro ⟨hruns, hincs, hchans⟩
      obtain ⟨i, x, hx⟩ | ⟨i, x, hx⟩ | ⟨c, x, hx, hd⟩ := h
      · simp [hruns] at hx
      · simp [hincs] at hx
      · exact hd (hchans c x hx)
    exact next_reply hp he rfl (settleReturnToSetup_refused (s := s.recordRequest _ r) hs refused r)
  · obtain ⟨answer, t, ht, hans, u, hu, rfl⟩ :=
      exec_returnToSetup he hs hp (mayNotReturn_eq_false.2 ⟨hruns, hincs, hchans⟩)
    obtain ⟨l, hl⟩ := returnToSetup_eq (s.recordRequest ReqKind.returnToSetup.code r)
    rw [hl] at hu
    subst hu
    exact ⟨_, ht, hans, rfl, rfl, rfl, rfl, rfl, rfl, look_replicate_none 8, look_replicate_none 128,
      look_replicate_none 16, rfl, rfl, rfl, rfl, look_replicate_none 32, rfl⟩

end Sys2Proof.Machine
end

/-! ## Computing releases again: what it leaves of the runs (R76 to R80) -/

section
namespace Sys2Proof.Machine

/-! ### The outline of the line -/

/-- A run without its link to a delay announcement and its cause MERGE, which the work of other runs may change. -/
def Run.outline (x : Run) : Run := { x with autoDelay := none, causes := { x.causes with merge := false } }

section
variable {x y : Run} (h : y.outline = x.outline)
include h

theorem stops_of_outline : y.stops = x.stops := (congrArg Run.stops h :)

theorem cur_of_outline : y.cur = x.cur := (congrArg Run.cur h :)

theorem state_of_outline : y.state = x.state := (congrArg Run.state h :)

theorem plan_of_outline : y.plan = x.plan := (congrArg Run.plan h :)

theorem departureFailed_of_outline : y.causes.departureFailed = x.causes.departureFailed :=
  (congrArg (fun r => r.causes.departureFailed) h :)

end

/-- A run slot with the outline of its run. -/
def State.outlineAt (s : State) (i : Nat) : Option RunSlot :=
  (get1 s.rtb.slots i).map fun x => { x with run := x.run.map Run.outline }

/-- The track, the regulator mode and the outline of every run: what is left alone by announcements, wait queues and
the choice of priority holders. -/
def State.outline (s : State) : Mvt × RegMode × (Nat → Option RunSlot) := (s.mvt, s.drg.mode, s.outlineAt)

theorem modRun_outlineAt_ne (s : State) {i j : Nat} (h : i ≠ j) (f : Run → Run) :
    (s.modRun i f).outlineAt j = s.outlineAt j :=
  congrArg (Option.map _) (get1_mod1_ne s.rtb.slots h _)

theorem modRun_outlineAt_self (s : State) (i : Nat) (f : Run → Run) :
    (s.modRun i f).outlineAt i =
      (get1 s.rtb.slots i).map fun x => { x with run := x.run.map fun r => (f r).outline } := by
  refine (congrArg (Option.map _) (get1_mod1_self s.rtb.slots i _)).trans ?_
  simp [Function.comp_def]

/-- A change of a run that its outline does not show. -/
theorem modRun_outline (s : State) (i : Nat) {f : Run → Run} (h : ∀ x, (f x).outline = x.outline) :
    (s.modRun i f).outline = s.outline := by
  refine congrArg (fun o => (s.mvt, s.drg.mode, o)) (funext fun j => ?_)
  by_cases hj : i = j
  · subst hj
    rw [modRun_outlineAt_self]
    simp [State.outlineAt, h]
  · exact modRun_outlineAt_ne s hj f

/-- The same change of a run, made where the outlines agree. -/
theorem modRun_outline_congr {s t : State} (ho : t.outline = s.outline) (i : Nat) {f : Run → Run}
    (h : ∀ x, (f x.outline).outline = (f x).outline) : (t.modRun i f).outline = (s.modRun i f).outline := by
  obtain ⟨hmvt, hmode, hruns⟩ : t.mvt = s.mvt ∧ t.drg.mode = s.drg.mode ∧ t.outlineAt = s.outlineAt := by
    simpa [State.outline] using ho
  have changed (u : State) (j : Nat) : (u.modRun i f).outlineAt j =
      if i = j then (u.outlineAt i).map fun x => { x with run := x.run.map fun r => (f r).outline }
      else u.outlineAt j := by
    split
    · next hj =>
      subst hj
      rw [modRun_outlineAt_self]
      simp [State.outlineAt, Function.comp_def, h]
    · next hj => exact modRun_outlineAt_ne u hj f
  simp only [State.outline, modRun_mvt, modRun_drg, hmvt, hmode, Prod.mk.injEq, true_and]
  funext j
  rw [changed, changed, hruns]

/-! ### Announcements -/

@[simp] theorem onPiu_outline (s : State) (f : Piu → Piu) : (s.onPiu f).outline = s.outline := rfl
@[simp] theorem onItb_outline (s : State) (f : Itb → Itb) : (s.onItb f).outline = s.outline := rfl
@[simp] theorem onTpc_outline (s : State) (f : Tpc → Tpc) : (s.onTpc f).outline = s.outline := rfl
@[simp] theorem onCrp_outline (s : State) (f : Crp → Crp) : (s.onCrp f).outline = s.outline := rfl
@[simp] theorem modReg_outline (s : State) (i : Nat) (f : RegRec → RegRec) : (s.modReg i f).outline = s.outline := rfl
@[simp] theorem modArbiter_outline (s : State) (i : Nat) (f : Arbiter → Arbiter) :
    (s.modArbiter i f).outline = s.outline := rfl
@[simp] theorem modSub_outline (s : State) (i : Nat) (f : SubLive → SubLive) : (s.modSub i f).outline = s.outline := rfl
@[simp] theorem modInc_outline (s : State) (i : Nat) (f : Incident → Incident) :
    (s.modInc i f).outline = s.outline := rfl
@[simp] theorem modAnn_outline (s : State) (i : Nat) (f : Announcement → Announcement) :
    (s.modAnn i f).outline = s.outline := rfl
@[simp] theorem modChan_outline (s : State) (i : Nat) (f : Channel → Channel) :
    (s.modChan i f).outline = s.outline := rfl
@[simp] theorem markBoard_outline (s : State) (p : Nat) : (s.markBoard p).outline = s.outline := rfl

@[simp] theorem order_outline (s : State) (o : Order) : (s.order o).outline = s.outline := by
  cases o <;> rfl

/-- A fold keeps the outline that its step keeps. -/
theorem foldl_outline {α : Type} (f : State → α → State) (h : ∀ t a, (f t a).outline = t.outline) (l : List α)
    (s : State) : (l.foldl f s).outline = s.outline := by
  induction l generalizing s with
  | nil => rfl
  | cons a l ih => rw [List.foldl_cons, ih, h]

@[simp] theorem ite_outline (p : Prop) [Decidable p] (a b : State) :
    (if p then a else b).outline = if p then a.outline else b.outline := by split <;> rfl

@[simp] theorem modRun_autoDelay_outline (s : State) (i : Nat) (a : Option Nat) :
    (s.modRun i fun x => { x with autoDelay := a }).outline = s.outline :=
  modRun_outline s i fun _ => rfl

@[simp] theorem markRun_outline (s : State) (i : Nat) (r : Run) : (s.markRun i r).outline = s.outline := by
  unfold State.markRun
  exact foldl_outline _ (fun t p => by simp) _ _

@[simp] theorem modIncOf_outline (s : State) (h : Nat) (f : Incident → Incident) :
    (s.modIncOf h f).outline = s.outline := by
  unfold State.modIncOf; split <;> simp

@[simp] theorem modAnnOf_outline (s : State) (h : Nat) (f : Announcement → Announcement) :
    (s.modAnnOf h f).outline = s.outline := by
  unfold State.modAnnOf; split <;> simp

@[simp] theorem enqueue_outline (s : State) (h c due : Nat) : (s.enqueue h c due).outline = s.outline := by
  simp [State.enqueue]

@[simp] theorem sendCut_outline (s : State) (c token : Nat) : (s.sendCut c token).outline = s.outline := by
  simp [State.sendCut]

@[simp] theorem play_outline (s : State) (c h : Nat) (z : ZoneSet) : (s.play c h z).outline = s.outline := by
  simp [State.play]

@[simp] theorem clearAutoDelay_outline (s : State) (h : Nat) : (s.clearAutoDelay h).outline = s.outline := by
  unfold State.clearAutoDelay
  (repeat' split) <;> simp

@[simp] theorem notifyEnded_outline (s : State) (owner : Owner) (h : Nat) (why : EndReason) :
    (s.notifyEnded owner h why).outline = s.outline := by
  unfold State.notifyEnded
  split
  · obtain ⟨l, hl⟩ := postTo_onCrp s ⟨.ended, h, why.code⟩ (by assumption)
    rw [hl, onCrp_outline]
  · rfl

@[simp] theorem endAnn_outline (s : State) (slot : Nat) (why : EndReason) :
    (s.endAnn slot why).outline = s.outline := by
  unfold State.endAnn
  split
  · rfl
  · simp only [State.retireAnn, onPiu_outline, notifyEnded_outline, clearAutoDelay_outline]
    unfold State.unlinkAnn
    split <;> simp

@[simp] theorem occurrenceDone_outline (s : State) (i : Nat) : (s.occurrenceDone i).outline = s.outline := by
  unfold State.occurrenceDone
  split <;> simp

@[simp] theorem consume_outline (s : State) (c h : Nat) : (s.consume c h).outline = s.outline := by
  simp only [State.consume]
  split <;> simp

@[simp] theorem redirect_outline (s : State) (c h : Nat) : (s.redirect c h).outline = s.outline := by
  simp [State.redirect]

@[simp] theorem preempt_outline (s : State) (c h old : Nat) (z : ZoneSet) :
    (s.preempt c h old z).outline = s.outline := by
  simp [State.preempt]

@[simp] theorem fullWindow_outline (s : State) (c h : Nat) (b : Bool) : (s.fullWindow c h b).1.outline = s.outline := by
  simp only [State.fullWindow]
  (repeat' split) <;> simp

@[simp] theorem lookEmpty_outline (s : State) (c : Nat) : (s.lookEmpty c).1.outline = s.outline := by
  simp only [State.lookEmpty]
  (repeat' split) <;> simp

@[simp] theorem lookBusy_outline (s : State) (c old : Nat) : (s.lookBusy c old).1.outline = s.outline := by
  simp only [State.lookBusy]
  (repeat' split) <;> simp

@[simp] theorem lookChannel_outline (s : State) (c : Nat) : (s.lookChannel c).1.outline = s.outline := by
  unfold State.lookChannel
  split <;> simp

@[simp] theorem serveLoop_outline (c n : Nat) (s : State) (moved : Bool) :
    (State.serveLoop c n s moved).1.outline = s.outline := by
  induction n generalizing s moved with
  | zero => rfl
  | succ n ih =>
    have looked := lookChannel_outline s c
    unfold State.serveLoop
    split <;> rename_i heq <;> rw [heq] at looked <;> simpa [ih] using looked

@[simp] theorem serveOne_outline (s : State) (c : Nat) : (s.serveOne c).1.outline = s.outline := by
  unfold State.serveOne
  split <;> simp

@[simp] theorem serveChannel_outline (s : State) (c : Nat) : (s.serveChannel c).outline = s.outline := by
  have served := serveOne_outline s c
  unfold State.serveChannel
  split <;> rename_i heq <;> rw [heq] at served <;> simpa using served

@[simp] theorem serveOrHalt_outline (s : State) (c : Nat) : (s.serveOrHalt c).outline = s.outline := by
  simp [State.serveOrHalt, State.haltChannel]

@[simp] theorem withdraw_outline (s : State) (h : Nat) : (s.withdraw h).outline = s.outline := by
  unfold State.withdraw State.withdrawServing State.endServing
  (repeat' split) <;> simp

@[simp] theorem createAnn_outline (s : State) (x : AnnSpec) (o : Owner) (inc run : Option Nat) :
    (s.createAnn x o inc run).1.outline = s.outline := by
  unfold State.createAnn
  split <;> simp

@[simp] theorem startAnn_outline (s : State) (h : Nat) : (s.startAnn h).outline = s.outline := by
  unfold State.startAnn
  split <;> simp

@[simp] theorem postDelay_outline (s : State) (i : Nat) (r : Run) : (s.postDelay i r).outline = s.outline := by
  have created := createAnn_outline s (s.delaySpec (s.runHandle i)) .engine none (some (s.runHandle i))
  simp only [State.postDelay]
  split
  · rfl
  · split <;> rename_i heq <;> rw [heq] at created <;> simpa using created

@[simp] theorem compareDelay_outline (s : State) (i : Nat) (late : Int) :
    (s.compareDelay i late).outline = s.outline := by
  unfold State.compareDelay
  (repeat' split) <;> simp

/-! ### Wait queues and priority holders -/

@[simp] theorem leaveQueues_outline (s : State) (h : Nat) : (s.leaveQueues h).outline = s.outline :=
  foldl_outline _ (fun t i => by simp) _ _

@[simp] theorem nameHolder_outline (s : State) (m i : Nat) : (s.nameHolder m i).outline = s.outline := by
  unfold State.nameHolder
  split
  · exact modRun_outline _ i fun _ => rfl
  · rfl

@[simp] theorem chooseHolder_outline (s : State) (m : Nat) : (s.chooseHolder m).outline = s.outline := by
  unfold State.chooseHolder
  (repeat' split) <;> simp

@[simp] theorem loseHolder_outline (s : State) (h : Nat) : (s.loseHolder h).outline = s.outline := by
  unfold State.loseHolder State.loseHolderAt
  exact foldl_outline _ (fun t m => by simp) _ _

end Sys2Proof.Machine
end

/-! ## Computing the releases of several runs again (R69, R76 to R80) -/

section
namespace Sys2Proof.Machine

/-! ### What a computation reads of other runs -/

/-- The plan of a run, its current stop and, while it runs, its outline: what a release computation reads of it. -/
def Run.way (x : Run) : List Stop × Nat × Option Run :=
  (x.plan, x.cur, if x.state = .running then some x.outline else none)

/-- A run slot with its generation and the way of its run. -/
def State.wayAt (s : State) (i : Nat) : Option (Nat × Option (List Stop × Nat × Option Run)) :=
  (get1 s.rtb.slots i).map fun x => (x.gen, x.run.map Run.way)

/-- The track, the regulator mode and the way of every run. -/
def State.way (s : State) : Mvt × RegMode × (Nat → Option (Nat × Option (List Stop × Nat × Option Run))) :=
  (s.mvt, s.drg.mode, s.wayAt)

theorem way_mvt {s t : State} (h : t.way = s.way) : t.mvt = s.mvt := congrArg Prod.fst h

theorem way_mode {s t : State} (h : t.way = s.way) : t.drg.mode = s.drg.mode := congrArg (fun w => w.2.1) h

theorem way_wayAt {s t : State} (h : t.way = s.way) : t.wayAt = s.wayAt := congrArg (fun w => w.2.2) h

theorem runAt_way (s : State) (i : Nat) : (s.runAt i).map Run.way = (s.wayAt i).bind (·.2) := by
  unfold State.runAt State.wayAt
  cases get1 s.rtb.slots i <;> rfl

theorem runAt_plan {s t : State} (h : t.way = s.way) (i : Nat) :
    (t.runAt i).map Run.plan = (s.runAt i).map Run.plan := by
  have planned (u : State) : (u.runAt i).map Run.plan = ((u.wayAt i).bind (·.2)).map Prod.fst := by
    rw [← runAt_way, Option.map_map]; rfl
  rw [planned, planned, way_wayAt h]

theorem way_of_outline {s t : State} (h : t.outline = s.outline) : t.way = s.way := by
  have hw (u : State) : u.way = (u.outline.1, u.outline.2.1, fun i =>
      (u.outline.2.2 i).map fun x => (x.gen, x.run.map Run.way)) := by
    refine congrArg (fun w => (u.mvt, u.drg.mode, w)) (funext fun i => ?_)
    change (get1 u.rtb.slots i).map _ = ((get1 u.rtb.slots i).map _).map _
    rw [Option.map_map]
    refine congrArg (fun f => (get1 u.rtb.slots i).map f) (funext fun x => ?_)
    obtain ⟨gen, run⟩ := x
    cases run <;> rfl
  rw [hw, hw, h]

/-- The live run that a handle names, by its way. -/
theorem runOf_way {s t : State} (h : t.way = s.way) (n : Nat) : (t.runOf n).map Run.way = (s.runOf n).map Run.way := by
  have resolved (u : State) :
      u.resolveRun n = resolveIn 128 (fun i => (u.wayAt i).bind fun x => x.2.map fun _ => x.1) n := by
    refine congrArg (fun f => resolveIn 128 f n) (funext fun i => ?_)
    unfold State.wayAt
    cases get1 u.rtb.slots i with
    | none => rfl
    | some x => cases hx : x.run <;> simp [hx]
  have named (u : State) : (u.runOf n).map Run.way = ((u.resolveRun n).slot?).bind fun i => (u.wayAt i).bind (·.2) := by
    unfold State.runOf
    rw [Option.map_bind]
    exact congrArg (fun f => ((u.resolveRun n).slot?).bind f) (funext fun i => runAt_way u i)
  rw [named, named, resolved, resolved, way_wayAt h]

/-- The follower candidate of a segment, by its outline. -/
theorem candidateOf_way {s t : State} (h : t.way = s.way) (i : Nat) :
    (t.candidateOf i).map (fun x => (x.1, x.2.outline)) = (s.candidateOf i).map fun x => (x.1, x.2.outline) := by
  have found (u : State) : (u.candidateOf i).map (fun x => (x.1, x.2.outline)) =
      (u.seg i).queue.findSome? fun n => ((u.runOf n).map Run.way).bind fun w => w.2.2.map fun r => (n, r) := by
    unfold State.candidateOf
    rw [List.map_findSome?]
    refine congrArg (fun f => (u.seg i).queue.findSome? f) (funext fun n => ?_)
    cases hr : u.runOf n with
    | none => simp [hr]
    | some r => by_cases hs : r.state = .running <;> simp [hr, Run.way, hs]
  have queue : (t.seg i).queue = (s.seg i).queue := by unfold State.seg; rw [way_mvt h]
  rw [found, found, queue]
  exact congrArg (fun f => (s.seg i).queue.findSome? f) (funext fun n => by rw [runOf_way h])

/-- The joining segments of a list are read from the segments alone. -/
theorem joiningList_of_segments {d e : Lds} (h : d.segments = e.segments) : ∀ l, d.joiningList l = e.joiningList l
  | [] | [_] => rfl
  | a :: b :: l => by
    rw [Lds.joiningList, Lds.joiningList, joiningList_of_segments h (b :: l), Lds.joining, Lds.joining, h]

theorem predict_of_eq {s t : State} (hseg : t.lds.segments = s.lds.segments) (hmode : t.lds.mode = s.lds.mode)
    (hlck : t.lck = s.lck) (hmvt : t.mvt = s.mvt) (x : Run) (p : Nat) : t.predict x p = s.predict x p := by
  have segments : t.segment = s.segment := funext fun i => by
    rw [State.segment, State.segment, State.inService, hseg, hmode]; rfl
  have run_time : t.adjustedRun = s.adjustedRun := funext fun i => by
    simp only [State.adjustedRun, segments, State.seg, hmvt]
  have path_time : t.pathTime = s.pathTime := funext fun r => funext fun a => funext fun b => by
    simp only [State.pathTime, State.path, run_time, joiningList_of_segments hseg]
  simp only [State.predict, State.now, path_time, hlck]

theorem followerArrival_of_eq {s t : State} (hseg : t.lds.segments = s.lds.segments)
    (hmode : t.lds.mode = s.lds.mode) (hlck : t.lck = s.lck) (h : t.way = s.way) (p : Nat) :
    t.followerArrival p = s.followerArrival p := by
  have follower (u : State) (i : Nat) :
      ((u.candidateOf i).map fun x => (i, x.1, if u.mvt.stale then none else u.predict x.2 p)) =
        ((u.candidateOf i).map fun x => (x.1, x.2.outline)).map fun x =>
          (i, x.1, if u.mvt.stale then none else u.predict x.2 p) := by
    rw [Option.map_map]; rfl
  have same (i : Nat) : ((t.candidateOf i).map fun x => (i, x.1, if t.mvt.stale then none else t.predict x.2 p)) =
      (s.candidateOf i).map fun x => (i, x.1, if s.mvt.stale then none else s.predict x.2 p) := by
    rw [follower t, follower s, candidateOf_way h, way_mvt h]
    simp only [predict_of_eq hseg hmode hlck (way_mvt h)]
  simp only [State.followerArrival, State.followers, Lds.incoming, same, hseg]

/-- What a stop's record shows besides its release, read from the plan. -/
theorem stopAt_plan {x y : Run} (h : y.plan = x.plan) (k : Nat) {α : Type} (f : Stop → α)
    (hf : ∀ st, f st.plan = f st) : (y.stopAt k).map f = (x.stopAt k).map f := by
  have planned (z : Run) : (z.stopAt k).map f = if k = 0 then none else z.plan[k - 1]?.map f := by
    unfold Run.stopAt Run.plan
    split <;> simp [Function.comp_def, hf]
  rw [planned, planned, h]

theorem tpAt_plan {x y : Run} (h : y.plan = x.plan) (k : Nat) : y.tpAt k = x.tpAt k := by
  have read (z : Run) : z.tpAt k = ((z.stopAt k).map Stop.tp).getD 0 := by
    unfold Run.tpAt
    cases z.stopAt k <;> rfl
  rw [read, read, stopAt_plan h k Stop.tp fun _ => rfl]

theorem computable_plan {x y : Run} (h : y.plan = x.plan) (hc : y.cur = x.cur) : y.computable = x.computable := by
  have halting (z : Run) : z.curStop.any Stop.halts = ((z.stopAt z.cur).map Stop.halts).getD false := by
    unfold Run.curStop
    cases z.stopAt z.cur <;> rfl
  have length : y.count = x.count := by simpa [Run.plan, Run.count] using congrArg List.length h
  rw [Run.computable, Run.computable, halting, halting, hc, length, stopAt_plan h x.cur Stop.halts fun _ => rfl]

/-- The inputs of a computation are the same where the ways of all runs are, for a run with the same plan. -/
theorem releaseInputs_of_way {s t : State} (hlds : t.lds = s.lds) (hlck : t.lck = s.lck) (h : t.way = s.way)
    {x y : Run} (hp : y.plan = x.plan) (hc : y.cur = x.cur) : t.releaseInputs y = s.releaseInputs x := by
  have read {α : Type} (z : Run) (f : Stop → Option α) : z.curStop.bind f = ((z.stopAt z.cur).map f).join := by
    unfold Run.curStop
    cases z.stopAt z.cur <;> rfl
  have arrived : y.curStop.bind (·.actArr) = x.curStop.bind (·.actArr) := by
    rw [read, read, hc, stopAt_plan hp x.cur (·.actArr) fun _ => rfl]
  have departs : y.curStop.bind (·.schedDep) = x.curStop.bind (·.schedDep) := by
    rw [read, read, hc, stopAt_plan hp x.cur (·.schedDep) fun _ => rfl]
  have points : t.point = s.point := funext fun i => by rw [State.point, State.point, State.inService, hlds]; rfl
  have follower := followerArrival_of_eq (congrArg Lds.segments hlds) (congrArg Lds.mode hlds) hlck h
  simp only [State.releaseInputs, arrived, departs, hc, tpAt_plan hp, follower, points, State.tp, State.now, hlds,
    hlck, way_mvt h]

/-! ### One computation -/

theorem modRun_way (s : State) (i : Nat) {f : Run → Run} (h : ∀ x, s.runAt i = some x → (f x).way = x.way) :
    (s.modRun i f).way = s.way := by
  refine congrArg (fun w => (s.mvt, s.drg.mode, w)) (funext fun j => ?_)
  by_cases hj : i = j
  · subst hj
    refine (congrArg (Option.map _) (get1_mod1_self s.rtb.slots i _)).trans ?_
    unfold State.wayAt
    unfold State.runAt at h
    cases hg : get1 s.rtb.slots i with
    | none => rfl
    | some x =>
      obtain ⟨gen, run⟩ := x
      cases run with
      | none => rfl
      | some r => simp [h r (by simp [hg])]
  · exact congrArg (Option.map _) (get1_mod1_ne s.rtb.slots hj _)

/-- Writing a release writes it at the current stop, and the run's lateness. -/
theorem withRelease_eq (x : Run) (n : Nat) : x.withRelease n =
    { x with
      stops := if x.cur = 0 then x.stops else x.stops.modify (x.cur - 1) fun st => { st with release := some n }
      lateness := some (Machine.lateness n x.curDep) } := by
  unfold Run.withRelease Run.modStop
  split <;> rfl

theorem withRelease_cur (x : Run) (n : Nat) : (x.withRelease n).cur = x.cur := by rw [withRelease_eq]

theorem withRelease_state (x : Run) (n : Nat) : (x.withRelease n).state = x.state := by rw [withRelease_eq]

theorem withRelease_outline (x : Run) (n : Nat) : (x.outline.withRelease n).outline = (x.withRelease n).outline := by
  rw [withRelease_eq, withRelease_eq]; rfl

theorem withRelease_plan (x : Run) (n : Nat) : (x.withRelease n).plan = x.plan := by
  rw [withRelease_eq]
  refine List.ext_getElem? fun k => ?_
  simp only [Run.plan, List.getElem?_map]
  split
  · rfl
  · rw [List.getElem?_modify]
    split <;> cases x.stops[k]? <;> rfl

/-- A stop to compute for bears the release once it is written. -/
theorem withRelease_stop {x : Run} (h : x.computable = true) (n : Nat) :
    ∃ st, (x.withRelease n).stopAt x.cur = some st ∧ st.release = some n := by
  obtain ⟨st, hst⟩ : ∃ st, x.stopAt x.cur = some st := by
    rw [← Option.isSome_iff_exists]
    unfold Run.computable Run.curStop at h
    cases hs : x.stopAt x.cur <;> simp_all
  refine ⟨{ st with release := some n }, ?_, rfl⟩
  rw [withRelease_eq]
  unfold Run.stopAt at hst ⊢
  split at hst
  · simp at hst
  · next h0 => simp [h0, hst]

/-- A run that waits has the way of its plan and current stop alone. -/
theorem way_of_waiting {x y : Run} (hx : x.state ≠ .running) (hy : y.state ≠ .running) (hp : y.plan = x.plan)
    (hc : y.cur = x.cur) : y.way = x.way := by
  simp [Run.way, hx, hy, hp, hc]

theorem applyRelease_outline (s : State) (i : Nat) (r : Run) (n : Nat) :
    (s.applyRelease i r n).outline = (s.modRun i fun x => x.withRelease n).outline := by
  simp [State.applyRelease]

theorem modRun_modRun_outline (s : State) (i : Nat) (f g : Run → Run) :
    ((s.modRun i f).modRun i g).outline = (s.modRun i fun x => g (f x)).outline := by
  refine congrArg (fun o => (s.mvt, s.drg.mode, o)) (funext fun j => ?_)
  by_cases hj : i = j
  · subst hj
    rw [modRun_outlineAt_self, modRun_outlineAt_self]
    refine (congrArg (Option.map _) (get1_mod1_self s.rtb.slots i _)).trans ?_
    simp [Function.comp_def]
  · rw [modRun_outlineAt_ne _ hj, modRun_outlineAt_ne _ hj, modRun_outlineAt_ne _ hj]

/-- A HELD run that waits again, DWELLING, for a release. -/
def Run.dwellUntil (x : Run) (n : Nat) : Run :=
  Run.withRelease { x with state := .dwelling, causes := Causes.none } n

theorem returnToDwelling_outline (s : State) (i : Nat) (r : Run) (n : Nat) :
    (s.returnToDwelling i r n).outline = (s.modRun i fun x => x.dwellUntil n).outline := by
  unfold State.returnToDwelling
  exact (applyRelease_outline _ i r n).trans
    ((modRun_outline_congr (s := s.modRun i fun x => { x with state := .dwelling, causes := Causes.none }) (by simp) i
      fun x => withRelease_outline x n).trans (modRun_modRun_outline s i _ _))

/-- What a computation does to the run of its slot, in outline: nothing, or it writes a release, a HELD run first
becoming DWELLING (R79, R80). -/
theorem recomputeRun_outline (s : State) (i : Nat) : ∃ f : Run → Run,
    (s.recomputeRun i).outline = (s.modRun i f).outline ∧ ∀ x, s.runAt i = some x → (f x).way = x.way := by
  have idle : s.outline = (s.modRun i id).outline := (modRun_outline s i (f := id) fun _ => rfl).symm
  unfold State.recomputeRun
  split
  · exact ⟨id, idle, fun _ _ => rfl⟩
  · next r hr =>
    split
    · exact ⟨id, idle, fun _ _ => rfl⟩
    · split
      · next hd =>
        refine ⟨_, applyRelease_outline s i r _, fun x hx => ?_⟩
        obtain rfl : r = x := Option.some.inj (hr.symm.trans hx)
        exact way_of_waiting (by simp [hd]) (by simp [withRelease_state, hd]) (withRelease_plan _ _)
          (withRelease_cur _ _)
      · next hd =>
        split
        · exact ⟨id, idle, fun _ _ => rfl⟩
        · refine ⟨_, returnToDwelling_outline s i r _, fun x hx => ?_⟩
          obtain rfl : r = x := Option.some.inj (hr.symm.trans hx)
          exact way_of_waiting (by simp [hd]) (by simp [Run.dwellUntil, withRelease_state]) (withRelease_plan _ _)
            (withRelease_cur _ _)
      · exact ⟨id, idle, fun _ _ => rfl⟩

/-- A computation leaves what other computations read. -/
theorem recomputeRun_way (s : State) (i : Nat) : (s.recomputeRun i).way = s.way := by
  obtain ⟨f, hf, hway⟩ := recomputeRun_outline s i
  rw [way_of_outline hf, modRun_way s i hway]

/-- A computation leaves the outline of every other run. -/
theorem recomputeRun_outlineAt (s : State) {i j : Nat} (h : i ≠ j) :
    (s.recomputeRun i).outlineAt j = s.outlineAt j := by
  obtain ⟨f, hf, -⟩ := recomputeRun_outline s i
  exact (congrFun (congrArg (fun o => o.2.2) hf) j).trans (modRun_outlineAt_ne s h f)

theorem runAt_outline (s : State) (i : Nat) : (s.runAt i).map Run.outline = (s.outlineAt i).bind (·.run) := by
  unfold State.runAt State.outlineAt
  cases get1 s.rtb.slots i <;> rfl

/-- The run of a slot whose outline stays. -/
theorem runAt_of_outlineAt {s t : State} {i : Nat} {x : Run} (h : t.outlineAt i = s.outlineAt i)
    (hx : s.runAt i = some x) : ∃ y, t.runAt i = some y ∧ y.outline = x.outline := by
  have ho := runAt_outline t i
  rw [h, ← runAt_outline, hx] at ho
  exact Option.map_eq_some_iff.1 ho

/-- A DWELLING run's computation writes its release, in outline. -/
theorem recomputeRun_dwelling {s : State} {i : Nat} {x : Run} (hx : s.runAt i = some x) (hd : x.state = .dwelling)
    (hc : x.computable = true) (hf : x.causes.departureFailed = false) :
    ∃ y, (s.recomputeRun i).runAt i = some y ∧
      y.outline = (x.withRelease ((s.releaseInputs x).releaseTime s.now)).outline := by
  have applied : s.recomputeRun i = s.applyRelease i x ((s.releaseInputs x).releaseTime s.now) := by
    simp [State.recomputeRun, hx, hd, hc, hf]
  have ho := runAt_outline (s.recomputeRun i) i
  have at_slot := congrFun (congrArg (fun o => o.2.2) (applyRelease_outline s i x
    ((s.releaseInputs x).releaseTime s.now))) i
  have hx' : (get1 s.rtb.slots i).bind (·.run) = some x := hx
  obtain ⟨sl, hsl, hrun⟩ := Option.bind_eq_some_iff.1 hx'
  refine Option.map_eq_some_iff.1 (ho.trans ?_)
  rw [applied]
  refine (congrArg (·.bind (·.run)) (at_slot.trans (modRun_outlineAt_self s i _))).trans ?_
  simp [hsl, hrun]

/-! ### A sequence of computations -/

theorem recompute_way (l : List Nat) (s : State) : (s.recompute l).way = s.way := by
  induction l generalizing s with
  | nil => rfl
  | cons i l ih => exact (ih _).trans (recomputeRun_way s i)

theorem recompute_outlineAt {l : List Nat} {j : Nat} (h : j ∉ l) (s : State) :
    (s.recompute l).outlineAt j = s.outlineAt j := by
  induction l generalizing s with
  | nil => rfl
  | cons i l ih =>
    obtain ⟨hi, hl⟩ := List.ne_and_not_mem_of_not_mem_cons h
    exact (ih hl _).trans (recomputeRun_outlineAt s hi.symm)

/-- Each DWELLING run of the sequence gets the release computed from the state as the sequence found it: a computation
reads of other runs only what no computation changes. -/
theorem recompute_dwelling {l : List Nat} (hl : l.Nodup) {j : Nat} (hj : j ∈ l) {s : State} {x : Run}
    (hx : s.runAt j = some x) (hd : x.state = .dwelling) (hc : x.computable = true)
    (hf : x.causes.departureFailed = false) : ∃ y, (s.recompute l).runAt j = some y ∧
      y.outline = (x.withRelease ((s.releaseInputs x).releaseTime s.now)).outline := by
  induction l generalizing s x with
  | nil => simp at hj
  | cons i l ih =>
    obtain ⟨hi, hl⟩ := List.nodup_cons.1 hl
    by_cases hij : i = j
    · subst hij
      obtain ⟨z, hz, hzo⟩ := recomputeRun_dwelling hx hd hc hf
      obtain ⟨y, hy, hyo⟩ := runAt_of_outlineAt (recompute_outlineAt hi _) hz
      exact ⟨y, hy, hyo.trans hzo⟩
    · obtain ⟨z, hz, hzo⟩ := runAt_of_outlineAt (recomputeRun_outlineAt s hij) hx
      have plan := plan_of_outline hzo
      have cur := cur_of_outline hzo
      have lds := lds_of_kept (recomputeRun_kept s i)
      have lck := congrArg State.lck (recomputeRun_kept s i)
      obtain ⟨y, hy, hyo⟩ := ih hl ((List.mem_cons.1 hj).resolve_left (Ne.symm hij)) hz
        ((state_of_outline hzo).trans hd) ((computable_plan plan cur).trans hc)
        ((departureFailed_of_outline hzo).trans hf)
      refine ⟨y, hy, hyo.trans ?_⟩
      rw [releaseInputs_of_way lds lck (recomputeRun_way s i) plan cur, ← withRelease_outline z, hzo,
        withRelease_outline]
      exact congrArg (fun c : Lck => (x.withRelease ((s.releaseInputs x).releaseTime c.clock)).outline) lck

theorem mem_runSlots {s : State} {p : Run → Bool} {i : Nat} :
    i ∈ s.runSlots p ↔ ∃ x, s.runAt i = some x ∧ p x = true := by
  simp [State.runSlots, mem_liveRuns]

theorem nodup_runSlots (s : State) (p : Run → Bool) : (s.runSlots p).Nodup := by
  have slots : s.rtb.slots.toList.zipIdx.Pairwise fun a b => a.2 ≠ b.2 := by
    rw [← List.pairwise_map, List.zipIdx_map_snd]
    exact List.nodup_range'
  refine List.pairwise_map.2 (List.Pairwise.filter _ (List.Pairwise.filterMap _ (fun a b hab => ?_) slots))
  simp only [Option.map_eq_some_iff]
  rintro _ ⟨x, -, rfl⟩ _ ⟨y, -, rfl⟩
  exact fun h => hab (Nat.succ.inj h)

/-! ### The service of the wait queues -/

/-- The segments, the regulator mode, and the stops and the current stop of every run: what releases leave alone. -/
def State.itinerary (s : State) : Vector SegLive 48 × RegMode × (Nat → Option (List Stop × Nat)) :=
  (s.mvt.segs, s.drg.mode, fun i => (s.runAt i).map fun x => (x.stops, x.cur))

theorem itinerary_segs {s t : State} (h : t.itinerary = s.itinerary) : t.mvt.segs = s.mvt.segs := congrArg Prod.fst h

theorem itinerary_mode {s t : State} (h : t.itinerary = s.itinerary) : t.drg.mode = s.drg.mode :=
  congrArg (fun w => w.2.1) h

theorem itinerary_runs {s t : State} (h : t.itinerary = s.itinerary) (i : Nat) :
    (t.runAt i).map (fun x => (x.stops, x.cur)) = (s.runAt i).map fun x => (x.stops, x.cur) :=
  congrFun (congrArg (fun w => w.2.2) h) i

theorem modRun_itinerary (s : State) (i : Nat) {f : Run → Run} (h : ∀ x, (f x).stops = x.stops ∧ (f x).cur = x.cur) :
    (s.modRun i f).itinerary = s.itinerary := by
  have read (u : State) (j : Nat) : (u.runAt j).map (fun x => (x.stops, x.cur)) =
      (get1 u.rtb.slots j).bind fun x => x.run.map fun r => (r.stops, r.cur) := Option.map_bind
  refine congrArg (fun o => (s.mvt.segs, s.drg.mode, o)) (funext fun j => ?_)
  rw [read, read]
  by_cases hj : i = j
  · subst hj
    rw [show get1 (s.modRun i f).rtb.slots i = _ from get1_mod1_self s.rtb.slots i _]
    simp [Option.bind_map, Function.comp_def, h]
  · rw [show get1 (s.modRun i f).rtb.slots j = _ from get1_mod1_ne s.rtb.slots hj _]

theorem onDrg_itinerary (s : State) {f : Drg → Drg} (h : ∀ d, (f d).mode = d.mode) :
    (s.onDrg f).itinerary = s.itinerary :=
  congrArg (fun m => (s.mvt.segs, m, fun i => (s.runAt i).map fun x => (x.stops, x.cur))) (h s.drg)

@[simp] theorem onTpc_itinerary (s : State) (f : Tpc → Tpc) : (s.onTpc f).itinerary = s.itinerary := rfl
@[simp] theorem modSub_itinerary (s : State) (i : Nat) (f : SubLive → SubLive) :
    (s.modSub i f).itinerary = s.itinerary := rfl
@[simp] theorem modReg_itinerary (s : State) (i : Nat) (f : RegRec → RegRec) :
    (s.modReg i f).itinerary = s.itinerary := rfl
@[simp] theorem modTp_itinerary (s : State) (p : Nat) (f : TpLive → TpLive) :
    (s.modTp p f).itinerary = s.itinerary := rfl
@[simp] theorem modMergeList_itinerary (s : State) (m : Nat) (f : List Nat → List Nat) :
    (s.modMergeList m f).itinerary = s.itinerary := rfl
@[simp] theorem modArbiter_itinerary (s : State) (m : Nat) (f : Arbiter → Arbiter) :
    (s.modArbiter m f).itinerary = s.itinerary := rfl

@[simp] theorem order_itinerary (s : State) (o : Order) : (s.order o).itinerary = s.itinerary := by
  cases o <;> rfl

@[simp] theorem recordClaim_itinerary (s : State) (i sub sec cost : Nat) :
    (s.recordClaim i sub sec cost).itinerary = s.itinerary :=
  modRun_itinerary _ i fun _ => ⟨rfl, rfl⟩

@[simp] theorem recordGrant_itinerary (s : State) (i : Nat) (r : Run) :
    (s.recordGrant i r).itinerary = s.itinerary := by
  unfold State.recordGrant
  split
  · rfl
  · simp only
    split <;> simp

@[simp] theorem completeRelease_itinerary (s : State) (i : Nat) : (s.completeRelease i).itinerary = s.itinerary := by
  unfold State.completeRelease
  split
  · rfl
  · simp [onDrg_itinerary, modRun_itinerary]

@[simp] theorem grantHead_itinerary (s : State) (sub : Nat) (e : WaitEntry) :
    (s.grantHead sub e).itinerary = s.itinerary := by
  unfold State.grantHead
  simp only
  split <;> simp

theorem serveQueue_itinerary (sub n : Nat) (s : State) : (State.serveQueue sub n s).itinerary = s.itinerary := by
  induction n generalizing s with
  | zero => rfl
  | succ n ih =>
    unfold State.serveQueue
    split
    · rfl
    · split <;> simp [ih]

/-- Serving the wait queues keeps the itinerary of every run. -/
theorem serveLeft_itinerary (t s : State) : (t.serveLeft s).itinerary = t.itinerary := by
  have served (l : List Nat) (u : State) :
      (l.foldl (fun u i => if s.waiting i = t.waiting i then u else u.serveSub i) u).itinerary = u.itinerary := by
    induction l generalizing u with
    | nil => rfl
    | cons i l ih =>
      rw [List.foldl_cons, ih]
      split
      · rfl
      · exact serveQueue_itinerary i _ u
  exact served _ t

end Sys2Proof.Machine
end

/-! ## DEFINE_CLIENT and SET_LINE_PARAMETER (R11 to R13, R79, R180) -/

section
namespace Sys2Proof.Machine

variable {s : State} {r : Req}

/-! ### DEFINE_CLIENT -/

/-- A client entry written: another entry than before empties the client's pending list (R11, R180). -/
theorem writeClient_eq (s : State) (i : Nat) (x : Client) : s.writeClient i x =
    { s with
      lds := { s.lds with clients := mod0 s.lds.clients i fun _ => x }
      crp := { s.crp with
        notices := if get0 s.lds.clients i = some x then s.crp.notices
          else mod0 s.crp.notices i fun _ => ⟨[], false⟩ } } := by
  simp only [State.writeClient]
  split <;> rfl

/-- An entry written in the event that took the request. -/
theorem recordRequest_writeClient (s : State) (n : Nat) (r : Req) (i : Nat) (x : Client) :
    (s.recordRequest n r).writeClient i x = (s.writeClient i x).recordRequest n r := by
  rw [writeClient_eq, writeClient_eq]; rfl

theorem exec_defineClient_define {i : Nat} {x : Client} (he : BetweenEvents s) (hs : s.inService = false)
    (hp : Passes s .defineClient r) (hb : r.define 0 7 r.clientFields = some (i, some x)) :
    exec (.defineClient r) s = .next (answered (s.writeClient i x) .defineClient r .ok 0 []) := by
  refine next_answered (f := settleDefineClient r) hp (by rw [writeClient_eq]; exact he) ?_ rfl
  rw [settleDefineClient, hb, settleDefine_define (s := s.recordRequest _ r) hs, Option.getD_some,
    recordRequest_writeClient]
  rfl

/-- A REMOVE of a configured client writes the empty entry, of any other nothing. -/
theorem exec_defineClient_remove {i : Nat} {x : Client} (he : BetweenEvents s) (hs : s.inService = false)
    (hp : Passes s .defineClient r) (hb : r.define 0 7 r.clientFields = some (i, none))
    (hx : get0 s.lds.clients i = some x) : exec (.defineClient r) s = .next (
      if x.configured then answered (s.writeClient i Client.none) .defineClient r .ok 0 []
      else answered s .defineClient r .noEffect 0 []) := by
  have defined : (get0 (s.recordRequest ReqKind.defineClient.code r).lds.clients i).any (·.configured) =
      x.configured := by simp [hx]
  cases hc : x.configured with
  | true =>
    refine next_answered (f := settleDefineClient r) hp (by rw [writeClient_eq]; exact he) ?_ rfl
    rw [settleDefineClient, hb, settleDefine_remove (s := s.recordRequest _ r) hs, defined, hc, if_pos rfl,
      Option.getD_none, recordRequest_writeClient]
    rfl
  | false =>
    refine next_reply (f := settleDefineClient r) hp he rfl ?_
    rw [settleDefineClient, hb, settleDefine_remove (s := s.recordRequest _ r) hs, defined, hc]
    rfl

/-! ### SET_LINE_PARAMETER, the weight in SERVICE apart -/

/-- A parameter that the body names and a value that may be written there: it is written, unless it is the present
one. -/
theorem settleParam_set {k : ParamKind} {x : ParamSetting} (hk : ParamKind.ofCode (r.u8 0) = some k)
    (hx : r.paramSetting k = some x) (ha : s.inService = true → k.adjustable = true ∧ x ≠ .template none) :
    s.settleParam r = if s.lds.params.set x = s.lds.params then s.reply .noEffect
      else (Reply.just .ok, s.setParam x) := by
  have unlocked : ¬(s.inService = true ∧ ¬k.adjustable = true) := fun h => h.2 (ha h.1).1
  have kept : ¬(s.inService = true ∧ x = .template none) := fun h => (ha h.1).2 h.2
  simp only [State.settleParam, hk, hx, if_neg unlocked, if_neg kept]

/-- A parameter or a value outside its range, and in SERVICE the removal of the template. -/
theorem settleParam_outOfRange (h : ParamKind.ofCode (r.u8 0) = none ∨
    ∃ k, ParamKind.ofCode (r.u8 0) = some k ∧ (s.inService = true → k.adjustable = true) ∧
      (r.paramSetting k = none ∨ (s.inService = true ∧ r.paramSetting k = some (.template none)))) :
    s.settleParam r = s.reply .outOfRange := by
  unfold State.settleParam
  obtain hn | ⟨k, hk, ha, hv⟩ := h
  · rw [hn]
  · have unlocked : ¬(s.inService = true ∧ ¬k.adjustable = true) := fun h => h.2 (ha h.1)
    simp only [hk, if_neg unlocked]
    obtain hv | ⟨hs, hv⟩ := hv
    · rw [hv]
    · rw [hv]
      exact if_pos ⟨hs, rfl⟩

/-- Any setting but that of the weight in SERVICE writes its parameter and nothing else. -/
theorem setParam_plain {x : ParamSetting} (h : s.inService = true → settingKind x ≠ .weight) :
    s.setParam x = s.onLds fun d => { d with params := d.params.set x } := by
  unfold State.setParam
  split
  · exact if_neg fun hs => h hs rfl
  · rfl

/-- The weight in SERVICE is written, and the releases are computed again. -/
theorem setParam_weight (hs : s.inService = true) (v : Nat) :
    s.setParam (.weight v) = (s.onLds fun d => { d with params := { d.params with w := v } }).recomputeAll :=
  if_pos hs

theorem exec_setLineParameter_refused {code : AnswerCode} (he : BetweenEvents s) (hp : Passes s .setLineParameter r)
    (h : (s.recordRequest ReqKind.setLineParameter.code r).settleParam r =
      (s.recordRequest ReqKind.setLineParameter.code r).reply code) :
    exec (.setLineParameter r) s = .next (answered s .setLineParameter r code 0 []) :=
  next_reply (f := settleSetLineParameter r) hp he rfl (by rw [settleSetLineParameter, h, thenServe_reply])

/-- A parameter written without a computation: no wait queue is touched, so none is served. -/
theorem exec_setLineParameter_plain {x : ParamSetting} (he : BetweenEvents s) (hp : Passes s .setLineParameter r)
    (h : s.inService = true → settingKind x ≠ .weight)
    (hset : (s.recordRequest ReqKind.setLineParameter.code r).settleParam r =
      (Reply.just .ok, (s.recordRequest ReqKind.setLineParameter.code r).setParam x)) :
    exec (.setLineParameter r) s = .next (answered { s with lds := { s.lds with params := s.lds.params.set x } }
      .setLineParameter r .ok 0 []) := by
  refine next_answered (f := settleSetLineParameter r) hp he ?_ rfl
  rw [settleSetLineParameter, hset, setParam_plain (s := s.recordRequest _ r) h, thenServe]
  exact congrArg (Prod.mk _) (serveLeft_of_waiting fun _ => rfl)

/-! ### The weight in SERVICE -/

/-- A state with another regulation weight (R13). -/
def State.weighted (s : State) (v : Nat) : State := s.onLds fun d => { d with params := { d.params with w := v } }

/-- The weight is an input of the computation by itself (R76). -/
theorem weighted_releaseInputs (s : State) (v : Nat) (x : Run) :
    (s.weighted v).releaseInputs x = { s.releaseInputs x with w := v } := by
  have follower := followerArrival_of_eq (s := s) (t := s.weighted v) rfl rfl rfl rfl
  simp only [State.releaseInputs, follower]
  rfl

/-- What the computation of every release again leaves, read through the itinerary: the plans, the segments and the
mode as before, and each DWELLING run's release by the new weight. -/
theorem weightWritten {s t : State} {v : Nat} (hlds : t.lds = (s.weighted v).lds) (hlck : t.lck = s.lck)
    (hpending : t.pending = s.pending) (ht : t.itinerary = (s.weighted v).recomputeAll.itinerary) :
    WeightWritten s t v := by
  have way : (s.weighted v).recomputeAll.way = (s.weighted v).way := recompute_way _ _
  have segs : t.mvt.segs = s.mvt.segs := (itinerary_segs ht).trans (congrArg Mvt.segs (way_mvt way))
  have mode : t.drg.mode = s.drg.mode := (itinerary_mode ht).trans (way_mode way)
  have runs (j : Nat) : (t.runAt j).map (fun x => (x.stops, x.cur)) =
      ((s.weighted v).recomputeAll.runAt j).map fun x => (x.stops, x.cur) := itinerary_runs ht j
  have plan (u : State) (j : Nat) : (u.runAt j).map Run.plan =
      ((u.runAt j).map fun x => (x.stops, x.cur)).map fun p => p.1.map Stop.plan := by
    rw [Option.map_map]; rfl
  refine ⟨hlds, hlck, hpending, fun j => ?_, fun g => ?_, mode, fun j x hx hd hc hf => ?_⟩
  · rw [plan, runs, ← plan]
    exact runAt_plan way j
  · unfold State.seg; rw [segs]
  · obtain ⟨z, hz, hzo⟩ := recompute_dwelling (nodup_runSlots (s.weighted v) Run.waitsAtStop)
      (mem_runSlots.2 ⟨x, hx, by simp [Run.waitsAtStop, hd]⟩) (s := s.weighted v) hx hd hc hf
    have hz' : (s.weighted v).recomputeAll.runAt j = some z := hz
    obtain ⟨y, hy, hyz⟩ := Option.map_eq_some_iff.1 ((runs j).trans (congrArg _ hz'))
    obtain ⟨st, hst, hrelease⟩ := withRelease_stop hc (((s.weighted v).releaseInputs x).releaseTime (s.weighted v).now)
    refine ⟨y, st, hy, ?_, weighted_releaseInputs s v x ▸ hrelease⟩
    have stops : y.stops = (x.withRelease (((s.weighted v).releaseInputs x).releaseTime (s.weighted v).now)).stops :=
      (congrArg Prod.fst hyz).trans (stops_of_outline hzo)
    rw [← hst, Run.stopAt, stops]; rfl

theorem finish_itinerary (s : State) : s.finish.itinerary = s.itinerary := by
  simp only [State.itinerary, State.runAt, finish_mvt, finish_drg, finish_rtb]

theorem exec_setLineParameter_weight {v : Nat} (hp : Passes s .setLineParameter r) (hs : s.inService = true)
    (hset : (s.recordRequest ReqKind.setLineParameter.code r).settleParam r =
      (Reply.just .ok, (s.recordRequest ReqKind.setLineParameter.code r).setParam (.weight v))) :
    ∃ t, exec (.setLineParameter r) s = .next t ∧ Answers s t .setLineParameter r .ok 0 [] ∧ WeightWritten s t v := by
  have settled : settleSetLineParameter r (s.recordRequest ReqKind.setLineParameter.code r) = (⟨.ok, none, []⟩,
      ((s.recordRequest ReqKind.setLineParameter.code r).weighted v).recomputeAll.serveLeft
        (s.recordRequest ReqKind.setLineParameter.code r)) := by
    rw [settleSetLineParameter, hset, setParam_weight (s := s.recordRequest _ r) hs]
    rfl
  have kept : (((s.recordRequest ReqKind.setLineParameter.code r).weighted v).recomputeAll.serveLeft
      (s.recordRequest ReqKind.setLineParameter.code r)).kept =
        ((s.recordRequest ReqKind.setLineParameter.code r).weighted v).kept := by simp
  obtain ⟨t, ht, hfin, hans⟩ := next_answers (f := settleSetLineParameter r) hp settled
    (crp_of_kept (s := (s.recordRequest ReqKind.setLineParameter.code r).weighted v) kept) rfl
  refine ⟨t, ht, hans, ?_⟩
  have written : WeightWritten (s.recordRequest ReqKind.setLineParameter.code r) t v := by
    subst hfin
    refine weightWritten ?_ ?_ ?_ ?_
    · exact (finish_lds _).trans ((writeAnswer_lds _ _).trans (lds_of_kept kept))
    · exact (finish_lck _).trans ((writeAnswer_lck _ _).trans (congrArg State.lck kept :))
    · exact (finish_pending _).trans ((writeAnswer_pending _ _).trans (congrArg State.pending kept :))
    · exact (finish_itinerary _).trans (serveLeft_itinerary _ _)
  exact written

/-- Settles O22: the entry or parameter written by equation, the new weight through what a computation reads of other
runs. -/
theorem clientsAndParametersSet : Obligations.ClientsAndParametersSet := by
  refine fun s r he => ⟨fun i x hs hp hb => ?_, fun i x hs hp hb hx => ?_, fun hs hp hb => ?_, fun hp h => ?_,
    fun k x hp hk hx ha => ⟨fun hsame => ?_, fun hnew hw => ?_, fun v hs hv hnew => ?_⟩⟩
  · rw [exec_defineClient_define he hs hp hb, writeClient_eq]
  · rw [exec_defineClient_remove he hs hp hb hx, writeClient_eq]
    cases hc : x.configured with
    | true =>
      have changed : get0 s.lds.clients i ≠ some Client.none := by
        rintro h
        rw [hx] at h
        cases h
        cases hc
      rw [if_neg changed]; rfl
    | false => rfl
  · exact next_reply (f := settleDefineClient r) hp he rfl
      (by rw [settleDefineClient, hb, settleDefine_unreadable (s := s.recordRequest _ r) hs])
  · exact exec_setLineParameter_refused he hp (settleParam_outOfRange (s := s.recordRequest _ r) h)
  · exact exec_setLineParameter_refused he hp
      ((settleParam_set (s := s.recordRequest _ r) hk hx ha).trans (if_pos hsame))
  · exact exec_setLineParameter_plain he hp (fun hs => paramSetting_kind hx ▸ hw hs)
      ((settleParam_set (s := s.recordRequest _ r) hk hx ha).trans (if_neg hnew))
  · subst hv
    refine exec_setLineParameter_weight hp hs
      ((settleParam_set (s := s.recordRequest _ r) hk hx ha).trans (if_neg fun h => hnew ?_))
    exact congrArg Params.w h

end Sys2Proof.Machine
end

/-! ## The clock stays inside the service day, and no event leaves a board marked -/

section
namespace Sys2Proof.Machine

/-! ### The clock in an event -/

/-- What the blocks' work leaves alone includes the clock. -/
theorem lck_of_kept {s t : State} (h : t.kept = s.kept) : t.lck = s.lck := (congrArg State.lck h :)

/-- A request leaves the clock as it was, or as the owner leaves it. -/
theorem takeRequest_lck (s : State) (k : ReqKind) (r : Req) (f : State → Reply × State) :
    (s.takeRequest k r f).lck = s.lck ∨ (s.takeRequest k r f).lck = (f (s.recordRequest k.code r)).2.lck := by
  by_cases hc : s.canTake = true
  · cases hp : s.portRefusal (some k) r with
    | some c => exact .inl (by rw [takeRequest_refused s k r f c hc hp])
    | none => exact .inr (by rw [takeRequest_passes s k r f ⟨hc, hp⟩, finish_lck, writeAnswer_lck])
  · exact .inl (by rw [takeRequest_waits s k r f (by simpa using hc)])

/-- A request leaves no board marked: it ends its event, or it reaches no owner. -/
theorem takeRequest_dirty {s : State} (h : s.piu.dirty = []) (k : ReqKind) (r : Req) (f : State → Reply × State) :
    (s.takeRequest k r f).piu.dirty = [] := by
  by_cases hc : s.canTake = true
  · cases hp : s.portRefusal (some k) r with
    | some c => rw [takeRequest_refused s k r f c hc hp]; exact h
    | none => rw [takeRequest_passes s k r f ⟨hc, hp⟩]; rfl
  · rw [takeRequest_waits s k r f (by simpa using hc)]; exact h

/-- The rollover starts the next day in the Line Clock, whatever the other blocks do (R26). -/
theorem rollover_lck (s : State) (c : RolloverCause) (t : Nat) : (s.rollover c t).lck = s.lck.rollover c t := by
  unfold State.rollover
  split
  · simp only [State.rolloverService, lck_of_kept (postLineEvent_kept _ _), lck_of_kept (evalHorizon_kept _),
      lck_of_kept (clearBoards_kept _), lck_of_kept (rolloverItb_kept _ _), onTpc_lck,
      lck_of_kept (rolloverDrg_kept _), onMvt_lck, onLck_lck, lck_of_kept (rolloverRuns_kept _),
      lck_of_kept (carryAnns_kept _ _), lck_of_kept (withdrawAll_kept _ _)]
  · rfl

theorem endOfClock_lck (s : State) : s.endOfClock.lck = s.lck.rollover .clockEnd 107999 :=
  (finish_lck _).trans (rollover_lck s _ _)

/-! ### What an event may do to the clock and the marks -/

/-- The bounds of the clock, said of the Line Clock's record. -/
def Lck.sound (c : Lck) : Prop := c.clock ≤ lastSecond ∧ c.day < 65536

/-- The next day starts at clock value 0 with a day number in 16 bits (R18, R26). -/
theorem Lck.rollover_sound (c : Lck) (cause : RolloverCause) (t : Nat) : (c.rollover cause t).sound :=
  ⟨Nat.zero_le _, Nat.mod_lt _ (by decide)⟩

/-- An event that starts in `s` and leaves `t` keeps the clock's bounds and leaves no board marked. -/
def KeepsDay (s t : State) : Prop := (s.lck.sound → t.lck.sound) ∧ (BetweenEvents s → BetweenEvents t)

theorem KeepsDay.refl (s : State) : KeepsDay s s := ⟨id, id⟩

/-- Work of the blocks that ends its event. -/
theorem keepsDay_finish {s t : State} (h : t.lck = s.lck) : KeepsDay s t.finish :=
  ⟨fun hs => by rw [finish_lck, h]; exact hs, fun _ => finish_dirty t⟩

/-- An event that neither the clock nor the boards take part in. -/
theorem keepsDay_of_eq {s t : State} (hlck : t.lck = s.lck) (hpiu : t.piu = s.piu) : KeepsDay s t :=
  ⟨fun hs => hlck ▸ hs, fun he => (congrArg Piu.dirty hpiu).trans he⟩

theorem keepsDay_endOfClock (s : State) : KeepsDay s s.endOfClock :=
  ⟨fun _ => endOfClock_lck s ▸ Lck.rollover_sound .., fun _ => finish_dirty _⟩

theorem keepsDay_takeRequest {k : ReqKind} {r : Req} {f : State → Reply × State}
    (hf : ∀ s : State, s.lck.sound → (f s).2.lck.sound) (s : State) : KeepsDay s (s.takeRequest k r f) := by
  refine ⟨fun hs => ?_, fun he => takeRequest_dirty he k r f⟩
  obtain h | h := takeRequest_lck s k r f <;> rw [h]
  · exact hs
  · exact hf _ hs

/-! ### The owners of requests and the clock -/

theorem settleDefine_lck {α : Type} {s : State} {defined : Nat → Bool} {write : Nat → Option α → State}
    (h : ∀ i x, (write i x).lck = s.lck) (parsed : Option (Nat × Option α)) :
    (s.settleDefine parsed defined write).2.lck = s.lck := by
  unfold State.settleDefine State.unlocked
  (repeat' split)
  · rfl
  · rfl
  · exact h _ _
  · exact h _ _
  · rfl

/-- A row that writes the description alone. -/
theorem settleDefine_onLds_lck {α : Type} (s : State) (parsed : Option (Nat × Option α)) (defined : Nat → Bool)
    (write : Nat → Option α → Lds → Lds) :
    (s.settleDefine parsed defined fun i x => s.onLds (write i x)).2.lck = s.lck :=
  settleDefine_lck (write := fun i x => s.onLds (write i x)) (fun _ _ => rfl) _

theorem settleDefineClient_lck (r : Req) (s : State) : (settleDefineClient r s).2.lck = s.lck :=
  settleDefine_lck (fun i x => by rw [writeClient_eq]) _

theorem settleDefineHeadwayBands_lck (r : Req) (s : State) : (settleDefineHeadwayBands r s).2.lck = s.lck := by
  unfold settleDefineHeadwayBands State.unlocked
  (repeat' split) <;> rfl

theorem setParam_lck (s : State) (x : ParamSetting) : (s.setParam x).lck = s.lck := by
  unfold State.setParam
  split
  · dsimp only
    split
    · rw [lck_of_kept (recomputeAll_kept _)]; rfl
    · rfl
  · rfl

theorem settleSetLineParameter_lck (r : Req) (s : State) : (settleSetLineParameter r s).2.lck = s.lck := by
  rw [settleSetLineParameter, lck_of_kept (thenServe_kept _ _)]
  unfold State.settleParam
  (repeat' split)
  · rfl
  · rfl
  · rfl
  · rfl
  · rfl
  · exact setParam_lck s _

theorem settleEnterService_lck (r : Req) (s : State) : (settleEnterService r s).2.lck = s.lck := by
  unfold settleEnterService
  (repeat' split)
  · rfl
  · rfl
  · rw [enterService_eq]; exact (lck_of_kept (evalHorizon_kept s.entered)).trans rfl

theorem settleReturnToSetup_lck (r : Req) (s : State) : (settleReturnToSetup r s).2.lck = s.lck := by
  unfold settleReturnToSetup
  (repeat' split)
  · rfl
  · rfl
  · obtain ⟨l, hl⟩ := returnToSetup_eq s
    rw [hl]

theorem settleSetRegulation_lck (r : Req) (s : State) : (settleSetRegulation r s).2.lck = s.lck := by
  rw [settleSetRegulation, lck_of_kept (thenServe_kept _ _)]
  unfold State.settleAction
  (repeat' split)
  · rfl
  · rfl
  · exact lck_of_kept (halt_kept s)
  · rfl
  · rfl
  · exact lck_of_kept (resume_kept s)
  · rfl
  · rfl
  · exact setParam_lck s _

/-- A 2-byte field is below 65,536 (R192). -/
theorem u16_lt (r : Req) (i : Nat) : r.u16 i < 65536 := by
  have lo := (r.body.getD i 0).isLt
  have hi := (r.body.getD (i + 1) 0).isLt
  simp only [Req.u16, Req.u8]
  omega

/-- SET_CLOCK writes a clock value of its range and a 16-bit day (R22, R23). -/
theorem settleSetClock_sound (r : Req) {s : State} (h : s.lck.sound) : (settleSetClock r s).2.lck.sound := by
  unfold settleSetClock
  split
  · exact h
  · next t ht =>
    obtain ⟨-, ht⟩ : 0 ≤ t ∧ t ≤ lastSecond := by
      obtain ⟨hr, ht⟩ := Option.ite_none_right_eq_some.1 ht
      exact Option.some.inj ht ▸ hr
    unfold settleSetClockService settleSetClockSetup
    (repeat' split)
    · exact h
    · exact h
    · exact h
    · exact h
    · exact ⟨ht, h.2⟩
    · exact h
    · exact ⟨ht, u16_lt r 3⟩

theorem settleEndDay_sound (r : Req) {s : State} (h : s.lck.sound) : (settleEndDay r s).2.lck.sound := by
  unfold settleEndDay
  (repeat' split)
  · exact h
  · exact h
  · exact rollover_lck s _ _ ▸ Lck.rollover_sound ..

/-- Every request command takes its request under an owner that keeps the clock's bounds. -/
theorem exists_owner {c : Instr} {k : ReqKind} {r : Req} (hc : c.request? = some (k, r)) :
    ∃ f : State → Reply × State, (∀ s, exec c s = .next (s.takeRequest k r f)) ∧
      ∀ s : State, s.lck.sound → (f s).2.lck.sound := by
  have owner {f : State → Reply × State} (he : ∀ s, exec c s = .next (s.takeRequest k r f))
      (hf : ∀ s, (f s).2.lck = s.lck) : ∃ f : State → Reply × State,
      (∀ s, exec c s = .next (s.takeRequest k r f)) ∧ ∀ s : State, s.lck.sound → (f s).2.lck.sound :=
    ⟨f, he, fun s hs => hf s ▸ hs⟩
  cases c with
  | defineTimingPoint | defineSegment | defineRoute | defineMerge | defineSubstation | defineSection
  | defineTrainClass | defineZoneGroup | defineDeskClass | mapIncidentKind =>
    cases hc; exact owner (fun _ => rfl) (fun s => settleDefine_onLds_lck s _ _ _)
  | defineClient => cases hc; exact owner (fun _ => rfl) (settleDefineClient_lck r)
  | setLineParameter => cases hc; exact owner (fun _ => rfl) (settleSetLineParameter_lck r)
  | defineHeadwayBands => cases hc; exact owner (fun _ => rfl) (settleDefineHeadwayBands_lck r)
  | enterService => cases hc; exact owner (fun _ => rfl) (settleEnterService_lck r)
  | returnToSetup => cases hc; exact owner (fun _ => rfl) (settleReturnToSetup_lck r)
  | setRegulation => cases hc; exact owner (fun _ => rfl) (settleSetRegulation_lck r)
  | setClock => cases hc; exact ⟨_, fun _ => rfl, fun _ => settleSetClock_sound r⟩
  | endDay => cases hc; exact ⟨_, fun _ => rfl, fun _ => settleEndDay_sound r⟩
  | lookupLine | loadRun | amendRun | cancelRun | retireRun | lookupRun | findRun | lookupCounters | clearCounters
  | lookupPoint | lookupSegment | holdRun | unholdRun | releaseRun | lookupRegulation | setWithhold | isolateSection
  | energiseSection | lookupSubstation | lookupSection | raiseIncident | ackIncident | addRestriction
  | liftRestriction | linkRun | linkAnnouncement | clearIncident | retireIncident | lookupIncident | lookupDesk
  | postAnnouncement | withdrawAnnouncement | setClassMap | enableChannel | disableChannel | setChannelPolicy
  | setZoneBlock | lookupAnnouncement | lookupChannel | lookupZones | lookupBoard | lineStatus =>
    cases hc; exact owner (fun _ => rfl) fun s => lck_of_kept (by simp)
  | _ => cases hc

/-! ### One command at a time -/

/-- The outcome of a command that answers `g s`. -/
theorem keepsDay_event {c : Instr} {g : State → State} (hc : ∀ s, exec c s = .next (g s)) {s t : State}
    (hg : KeepsDay s (g s)) (h : exec c s = .next t) : KeepsDay s t := by
  rw [hc s] at h
  cases h
  exact hg

/-- The outcome of a report: the receiver has moved on, the work follows, and its event ends. -/
theorem keepsDay_report {s t u : State} {n : Nat} (hu : u.kept = (s.received n).kept)
    (h : (Host.Outcome.next u.finish : Host.Outcome State Fault Refusal) = .next t) : KeepsDay s t := by
  cases h
  exact keepsDay_finish ((lck_of_kept hu).trans rfl)

theorem takeMovement_kept (s : State) (n p : Nat) {f : State → Nat → Run → Nat → State}
    (hf : ∀ t i r p, (f t i r p).kept = t.kept) : (s.takeMovement n p f).kept = s.kept := by
  simp only [State.takeMovement]
  split
  · simp
  · rw [serveLeft_kept]
    split <;> simp [hf]

/-- An event of a record in a slot: nothing while there is no record or it is not due. -/
theorem keepsDay_ofSlot {c : Instr} {i : Nat} (h : c ∈ [.placementTimerExpiry i, .releaseEvent i, .retry i,
    .departureTimeout i, .claimTimerExpiry i, .drainTimerExpiry i, .escalationTimerExpiry i, .startTimerExpiry i,
    .repeatTimerExpiry i, .announcementExpiry i]) {s t : State} (ht : exec c s = .next t) : KeepsDay s t := by
  simp only [List.mem_cons, List.not_mem_nil, or_false] at h
  rcases h with rfl | rfl | rfl | rfl | rfl | rfl | rfl | rfl | rfl | rfl
  all_goals
    refine keepsDay_event (fun _ => rfl) ?_ ht
    split
    · split
      · exact keepsDay_finish (lck_of_kept (by simp))
      · exact .refl s
    · exact .refl s

/-- An event under one condition alone. -/
theorem keepsDay_ofMark {c : Instr} {i : Nat} (h : c ∈ [.skipMarkingOnLoad i, .mergeFreeTimerExpiry i,
    .describerStaleTimerExpiry]) {s t : State} (ht : exec c s = .next t) : KeepsDay s t := by
  simp only [List.mem_cons, List.not_mem_nil, or_false] at h
  rcases h with rfl | rfl | rfl
  all_goals
    refine keepsDay_event (fun _ => rfl) ?_ ht
    split
    · exact keepsDay_finish (lck_of_kept (by simp))
    · exact .refl s

theorem keepsDay_confirmTimerExpiry {i : Nat} {s t : State} (ht : exec (.confirmTimerExpiry i) s = .next t) :
    KeepsDay s t := by
  refine keepsDay_event (fun _ => rfl) ?_ ht
  split
  · split
    · split
      · exact keepsDay_finish (lck_of_kept (by simp))
      · exact .refl s
    · exact .refl s
  · exact .refl s

/-- A due minute boundary is unmarked; in SERVICE its event re-evaluates every board (R19). -/
theorem keepsDay_minuteBoundary {s t : State} (ht : exec .minuteBoundary s = .next t) : KeepsDay s t := by
  refine keepsDay_event (fun _ => rfl) ?_ ht
  split
  · split
    · refine ⟨fun hs => ?_, fun _ => finish_dirty _⟩
      rw [finish_lck, lck_of_kept (markAllBoards_kept _), lck_of_kept (evalHorizon_kept _)]
      exact hs
    · exact ⟨id, id⟩
  · exact .refl s

/-- Below its last second the clock moves one on; from there the day ends (R18, R27). -/
theorem keepsDay_clockAdvance {s t : State} (ht : exec .clockAdvance s = .next t) : KeepsDay s t := by
  refine keepsDay_event (fun _ => rfl) ?_ ht
  split
  · next h => exact ⟨fun hs => ⟨h, hs.2⟩, id⟩
  · exact keepsDay_endOfClock s

theorem keepsDay_clockEnd {s t : State} (ht : exec .clockEnd s = .next t) : KeepsDay s t := by
  refine keepsDay_event (fun _ => rfl) ?_ ht
  split
  · exact .refl s
  · exact keepsDay_endOfClock s

/-- Every command keeps the clock's bounds and leaves no board marked (R18, R22, R23, R26, R27, log 6). -/
theorem exec_keepsDay {c : Instr} {s t : State} (h : exec c s = .next t) : KeepsDay s t := by
  cases hc : c.request? with
  | some p =>
    obtain ⟨f, he, hf⟩ := exists_owner hc
    exact keepsDay_event he (keepsDay_takeRequest hf s) h
  | none =>
    cases c with
    | malformedRequest =>
      refine keepsDay_event (fun _ => rfl) ?_ h
      unfold State.takeMalformed
      split <;> exact keepsDay_of_eq rfl rfl
    | arrived | departed | passed => exact keepsDay_report (takeMovement_kept _ _ _ (by simp)) h
    | breaker | substation => exact keepsDay_report (n := 2) (by simp) h
    | paStatus | paDone => exact keepsDay_report (n := 2) (by simp) h
    | paTaken => exact keepsDay_report (n := 3) (by simp) h
    | badFrame | requestProducerWrite | answerConsumerWrite | portReset | discardedRegisterWrite | noticeWrite
    | frameTransmitEnd => exact keepsDay_event (fun _ => rfl) (keepsDay_of_eq rfl rfl) h
    | powerOn =>
      obtain ⟨-, clock, -⟩ := reset_invariants
      cases h
      exact ⟨fun _ => clock, fun _ => rfl⟩
    | minuteBoundary => exact keepsDay_minuteBoundary h
    | clockEnd => exact keepsDay_clockEnd h
    | clockAdvance => exact keepsDay_clockAdvance h
    | confirmTimerExpiry => exact keepsDay_confirmTimerExpiry h
    | describerStaleTimerExpiry => exact keepsDay_ofMark (i := 0) (by simp) h
    | mergeFreeTimerExpiry i | skipMarkingOnLoad i => exact keepsDay_ofMark (i := i) (by simp) h
    | placementTimerExpiry i | releaseEvent i | retry i | departureTimeout i | claimTimerExpiry i | drainTimerExpiry i
    | escalationTimerExpiry i | startTimerExpiry i | repeatTimerExpiry i | announcementExpiry i =>
      exact keepsDay_ofSlot (i := i) (by simp) h
    | _ => cases hc

/-- Settles O4: the front command keeps both, and the queue's rest bears on neither. -/
theorem clockSoundKept : Obligations.ClockSoundKept := by
  intro s t h
  unfold step at h
  cases hq : s.pending with
  | nil => rw [hq] at h; cases h; exact ⟨id, id⟩
  | cons c rest =>
    rw [hq] at h
    exact exec_keepsDay (s := s.withPending rest) h

end Sys2Proof.Machine
end

/-! ## A command whose event is not enabled (log 1) -/

section
namespace Sys2Proof.Machine

variable {s : State}

/-- A timer's event needs both the state that it is for and the timer reached (R20). -/
theorem not_due {p : Prop} {b : Bool} (h : p → b = false) : ¬(p ∧ b = true) := fun ⟨hp, hb⟩ => by
  rw [h hp] at hb
  cases hb

theorem exec_placementTimerExpiry_waits {i : Nat}
    (h : ∀ x, s.runAt i = some x → x.state = .planned → s.reached x.placeTimer = false) :
    exec (.placementTimerExpiry i) s = .next s := by
  show execPlacementTimerExpiry i s = _
  unfold execPlacementTimerExpiry
  split
  · next x hx => rw [if_neg (not_due (h x hx))]
  · rfl

theorem exec_releaseEvent_waits {i : Nat}
    (h : ∀ x, s.runAt i = some x → x.state = .dwelling → s.reached (s.reg i).releaseTimer = false) :
    exec (.releaseEvent i) s = .next s := by
  show execReleaseEvent i s = _
  unfold execReleaseEvent
  split
  · next x hx => rw [if_neg (not_due (h x hx))]
  · rfl

theorem exec_retry_waits {i : Nat} (h : ∀ x, s.runAt i = some x → x.state = .held → x.causes ≠ Causes.none) :
    exec (.retry i) s = .next s := by
  show execRetry i s = _
  unfold execRetry
  split
  · next x hx => rw [if_neg fun ⟨hs, hc⟩ => h x hx hs hc]
  · rfl

theorem exec_departureTimeout_waits {i : Nat}
    (h : ∀ x, s.runAt i = some x → x.state = .released → s.reached (s.reg i).departureTimer = false) :
    exec (.departureTimeout i) s = .next s := by
  show execDepartureTimeout i s = _
  unfold execDepartureTimeout
  split
  · next x hx => rw [if_neg (not_due (h x hx))]
  · rfl

theorem exec_claimTimerExpiry_waits {i : Nat} (h : ∀ c, s.claim i = some c → s.reached c.expiry = false) :
    exec (.claimTimerExpiry i) s = .next s := by
  show execClaimTimerExpiry i s = _
  unfold execClaimTimerExpiry
  split
  · next c hc => simp [h c hc]
  · rfl

theorem exec_drainTimerExpiry_waits {i : Nat}
    (h : ∀ x, s.sec i = some x → x.state = .draining → s.reached x.drainTimer = false) :
    exec (.drainTimerExpiry i) s = .next s := by
  show execDrainTimerExpiry i s = _
  unfold execDrainTimerExpiry
  split
  · next x hx => rw [if_neg (not_due (h x hx))]
  · rfl

/-- The confirm timer stands with the order that it is for; its clock value alone tells whether it is due (R118). -/
theorem exec_confirmTimerExpiry_waits {i : Nat}
    (h : ∀ x, s.sec i = some x → s.reached (x.confirmTimer.map (·.1)) = false) :
    exec (.confirmTimerExpiry i) s = .next s := by
  show execConfirmTimerExpiry i s = _
  unfold execConfirmTimerExpiry
  split
  · next x hx =>
    split
    · next e awaited he =>
      have later : ¬e ≤ s.now := by simpa [he, State.reached] using h x hx
      rw [if_neg fun ⟨_, hnow⟩ => later hnow]
    · rfl
  · rfl

theorem exec_escalationTimerExpiry_waits {i : Nat} (h : ∀ x, s.incAt i = some x → s.reached x.escalation = false) :
    exec (.escalationTimerExpiry i) s = .next s := by
  show execEscalationTimerExpiry i s = _
  unfold execEscalationTimerExpiry
  split
  · next x hx => rw [if_neg (not_due fun _ => h x hx)]
  · rfl

/-- The start timer and the repeat timer are one field, for a SCHEDULED and for a RESTING announcement (log 24). -/
theorem exec_nextDue_waits {i : Nat} (h : ∀ a, s.annAt i = some a → s.reached a.nextDue = false) :
    exec (.startTimerExpiry i) s = .next s ∧ exec (.repeatTimerExpiry i) s = .next s := by
  refine ⟨show execStartTimerExpiry i s = _ from ?_, show execRepeatTimerExpiry i s = _ from ?_⟩
  · unfold execStartTimerExpiry
    split
    · next a ha => rw [if_neg (not_due fun _ => h a ha)]
    · rfl
  · unfold execRepeatTimerExpiry
    split
    · next a ha => rw [if_neg (not_due fun _ => h a ha)]
    · rfl

theorem exec_announcementExpiry_waits {i : Nat} (h : ∀ a, s.annAt i = some a → s.reached a.expiryTimer = false) :
    exec (.announcementExpiry i) s = .next s := by
  show execAnnouncementExpiry i s = _
  unfold execAnnouncementExpiry
  split
  · next a ha => simp [h a ha]
  · rfl

/-- Settles O13: each command answers the state as it was. -/
theorem notEnabledChangesNothing : Obligations.NotEnabledChangesNothing := by
  refine fun s => ⟨fun c k r hc ht => ?_, fun _ => exec_placementTimerExpiry_waits,
    fun _ => exec_releaseEvent_waits, fun _ => exec_retry_waits, fun _ => exec_departureTimeout_waits, fun m h => ?_,
    fun h => ?_, fun _ => exec_claimTimerExpiry_waits, fun _ => exec_drainTimerExpiry_waits,
    fun _ => exec_confirmTimerExpiry_waits, fun _ => exec_escalationTimerExpiry_waits, fun _ => exec_nextDue_waits,
    fun _ => exec_announcementExpiry_waits, fun h => ?_, fun h => ?_⟩
  · obtain ⟨f, he, -⟩ := exists_owner hc
    rw [he, takeRequest_waits s k r f ht]
  · show execMergeFreeTimerExpiry m s = _
    simp [execMergeFreeTimerExpiry, h]
  · show execDescriberStaleTimerExpiry s = _
    simp [execDescriberStaleTimerExpiry, h]
  · show execFrameTransmitEnd s = _
    simp [execFrameTransmitEnd, Fli.frameEnd, State.onFli, h]
  · show execMinuteBoundary s = _
    simp [execMinuteBoundary, h]

end Sys2Proof.Machine
end

/-! ## The clock's advance, SET_CLOCK and the minute boundary -/

section
namespace Sys2Proof.Machine

/-! ### The clock below its last second, and SET_CLOCK (R18, R22 to R24) -/

section
variable {s : State} {r : Req}

theorem exec_clockAdvance_below (h : s.lck.clock < 107998) :
    exec .clockAdvance s = .next (s.onLck Lck.advance) := by
  show execClockAdvance s = _
  rw [execClockAdvance, if_pos (show s.now < lastSecond from h)]

theorem exec_clockEnd_below (h : s.lck.clock < 107998) : exec .clockEnd s = .next s := by
  show execClockEnd s = _
  rw [execClockEnd, if_pos (show s.now < lastSecond from h)]

theorem settleSetClock_outOfRange (h : 107998 < r.u24 0) : settleSetClock r s = s.reply .outOfRange := by
  rw [settleSetClock, setClockValue, within_eq_none (hi := lastSecond) |>.2 (.inr h)]

/-- A clock value in range goes to the rows of the line mode. -/
theorem settleSetClock_inRange (h : ¬107998 < r.u24 0) : settleSetClock r s =
    if s.inService then settleSetClockService s (r.u24 0) (r.u16 3)
    else settleSetClockSetup s (r.u24 0) (r.u16 3) := by
  rw [settleSetClock, setClockValue, within_eq_some (hi := lastSecond) (Nat.zero_le _) (Nat.not_lt.1 h)]

theorem settleSetClock_setup (h : ¬107998 < r.u24 0) (hs : s.inService = false) :
    settleSetClock r s = settleSetClockSetup s (r.u24 0) (r.u16 3) := by
  rw [settleSetClock_inRange h, hs]; rfl

theorem settleSetClock_service (h : ¬107998 < r.u24 0) (hs : ¬s.inService = false) :
    settleSetClock r s = settleSetClockService s (r.u24 0) (r.u16 3) := by
  rw [settleSetClock_inRange h, if_pos (by simpa using hs)]

/-- SET_CLOCK by the rows of R22 to R24. -/
theorem exec_setClock (he : BetweenEvents s) (hp : Passes s .setClock r) : exec (.setClock r) s = .next (
    if 107998 < r.u24 0 then answered s .setClock r .outOfRange 0 []
    else if s.inService = false then
      if r.u24 0 = s.lck.clock ∧ r.u16 3 = s.lck.day then answered s .setClock r .noEffect 0 []
      else answered { s with lck := { s.lck with clock := r.u24 0, day := r.u16 3 } } .setClock r .ok 0 []
    else if r.u16 3 ≠ s.lck.day then answered s .setClock r .tooLate 0 []
    else if r.u24 0 = s.lck.clock then answered s .setClock r .noEffect 0 []
    else if r.u24 0 < s.lck.clock ∨ s.lck.clock + 3600 < r.u24 0 then answered s .setClock r .outOfRange 0 []
    else answered
      { s with lck := { s.lck with
        clock := r.u24 0
        minuteDue := s.lck.minuteDue || decide (s.lck.clock / 60 < r.u24 0 / 60) } } .setClock r .ok 0 []) := by
  have refused {code : AnswerCode} (h : settleSetClock r (s.recordRequest ReqKind.setClock.code r) =
      (s.recordRequest ReqKind.setClock.code r).reply code) :
      exec (.setClock r) s = .next (answered s .setClock r code 0 []) := next_reply hp he rfl h
  have inSetup (range : ¬107998 < r.u24 0) (setup : s.inService = false) :=
    settleSetClock_setup (s := s.recordRequest ReqKind.setClock.code r) range setup
  have inService (range : ¬107998 < r.u24 0) (service : ¬s.inService = false) :=
    settleSetClock_service (s := s.recordRequest ReqKind.setClock.code r) range service
  split_ifs with range setup same day now step
  · exact refused (settleSetClock_outOfRange (s := s.recordRequest _ r) range)
  · exact refused ((inSetup range setup).trans (if_pos same))
  · exact next_answered hp he ((inSetup range setup).trans (if_neg same)) rfl
  · exact refused ((inService range setup).trans (if_pos day))
  · exact refused ((inService range setup).trans ((if_neg day).trans (if_pos now)))
  · refine refused ((inService range setup).trans ((if_neg day).trans ((if_neg now).trans ?_)))
    obtain back | far := step
    · exact if_pos back
    · exact (if_neg (show ¬r.u24 0 < s.lck.clock by omega)).trans (if_pos far)
  · obtain ⟨back, far⟩ := not_or.1 step
    exact next_answered hp he ((inService range setup).trans
      ((if_neg day).trans ((if_neg now).trans ((if_neg back).trans (if_neg far))))) rfl

end

/-! ### Sorted lists -/

section
variable {α : Type} {le : α → α → Bool}

/-- Insertion by an order that is total and transitive keeps a list in that order. -/
theorem insertBy_pairwise (total : ∀ a b, le a b = false → le b a = true)
    (trans : ∀ a b c, le a b = true → le b c = true → le a c = true) (a : α) {l : List α}
    (h : l.Pairwise fun x y => le x y = true) : (insertBy le a l).Pairwise fun x y => le x y = true := by
  induction l with
  | nil => exact List.pairwise_singleton _ _
  | cons b l ih =>
    obtain ⟨hb, hl⟩ := List.pairwise_cons.1 h
    unfold insertBy
    split
    · next hba =>
      refine List.pairwise_cons.2 ⟨fun c hc => ?_, ih hl⟩
      obtain rfl | hc := mem_insertBy.1 hc
      · exact hba
      · exact hb c hc
    · next hba =>
      have hab := total b a (by simpa using hba)
      refine List.pairwise_cons.2 ⟨fun c hc => ?_, h⟩
      obtain rfl | hc := List.mem_cons.1 hc
      · exact hab
      · exact trans a b c hab (hb c hc)

theorem sortBy_pairwise (total : ∀ a b, le a b = false → le b a = true)
    (trans : ∀ a b c, le a b = true → le b c = true → le a c = true) (l : List α) :
    (sortBy le l).Pairwise fun x y => le x y = true := by
  have sorted (acc : List α) (h : acc.Pairwise fun x y => le x y = true) :
      (l.foldl (fun t a => insertBy le a t) acc).Pairwise fun x y => le x y = true := by
    induction l generalizing acc with
    | nil => exact h
    | cons a l ih => exact ih _ (insertBy_pairwise total trans a h)
  exact sorted [] List.Pairwise.nil

end

/-! ### What a board shows (R169) -/

theorem before_iff {a b : BoardCandidate} :
    a.before b = true ↔ a.arrival < b.arrival ∨ (a.arrival = b.arrival ∧ a.key ≤ b.key) := by
  simp [BoardCandidate.before]

theorem boardCandidates_sorted (s : State) (p : Nat) : (s.boardCandidates p).Pairwise fun a b =>
    a.arrival < b.arrival ∨ (a.arrival = b.arrival ∧ a.key ≤ b.key) := by
  refine (sortBy_pairwise (le := BoardCandidate.before) (fun a b h => ?_) (fun a b c hab hbc => ?_) _).imp before_iff.1
  · rw [← Bool.not_eq_true, before_iff] at h
    rw [before_iff]
    omega
  · rw [before_iff] at hab hbc ⊢
    omega

theorem boardCandidate_eq_some {s : State} {p key : Nat} {x : Run} {c : BoardCandidate} :
    s.boardCandidate p key x = some c ↔ s.predict c.run p = some c.arrival ∧ c.run = x ∧ c.key = key := by
  unfold State.boardCandidate
  rw [Option.map_eq_some_iff]
  constructor
  · rintro ⟨t, ht, rfl⟩
    exact ⟨ht, rfl, rfl⟩
  · rintro ⟨ht, rfl, rfl⟩
    exact ⟨c.arrival, ht, rfl⟩

theorem mem_queueCandidates {s : State} {p g : Nat} {c : BoardCandidate} : c ∈ s.queueCandidates p g ↔
    s.predict c.run p = some c.arrival ∧ ∃ q h, (s.seg g).queue[q]? = some h ∧ s.runOf h = some c.run ∧
      c.run.state = .running ∧ c.key = 256 * g + q := by
  simp only [State.queueCandidates, List.mem_filterMap, Prod.exists, List.mem_zipIdx_iff_getElem?,
    Option.bind_eq_some_iff, Option.ite_none_right_eq_some, boardCandidate_eq_some]
  constructor
  · rintro ⟨h, q, hq, x, hx, hr, ht, rfl, hk⟩
    exact ⟨ht, q, h, hq, hx, hr, hk⟩
  · rintro ⟨ht, q, h, hq, hx, hr, hk⟩
    exact ⟨h, q, hq, c.run, hx, hr, ht, rfl, hk⟩

/-- A run that stands at a stop with its next stop at `p` (R169). -/
theorem standsBefore_iff {x : Run} {p from_ : Nat} :
    ((x.waitsAtStop || x.state == .released) && x.tpAt x.cur == from_ && x.nextTp == p) = true ↔
      (x.state = .dwelling ∨ x.state = .held ∨ x.state = .released) ∧ x.tpAt x.cur = from_ ∧ x.nextTp = p := by
  simp [Run.waitsAtStop, or_assoc, and_assoc]

theorem mem_platformCandidates {s : State} {p g : Nat} {c : BoardCandidate} : c ∈ s.platformCandidates p g ↔
    s.predict c.run p = some c.arrival ∧ ∃ d i, s.segment g = some d ∧ s.runAt i = some c.run ∧
      (c.run.state = .dwelling ∨ c.run.state = .held ∨ c.run.state = .released) ∧
      c.run.tpAt c.run.cur = d.fromTp ∧ c.run.nextTp = p ∧ c.key = 65536 + 256 * g := by
  unfold State.platformCandidates
  cases hd : s.segment g with
  | none => simp
  | some d =>
    simp only [Option.elim, List.mem_filterMap, Prod.exists, mem_liveRuns, Option.ite_none_right_eq_some,
      standsBefore_iff, boardCandidate_eq_some]
    constructor
    · rintro ⟨i, x, hx, ⟨hs, hf, hn⟩, ht, rfl, hk⟩
      exact ⟨ht, d, i, rfl, hx, hs, hf, hn, hk⟩
    · rintro ⟨ht, _, i, hd, hx, hs, hf, hn, hk⟩
      cases hd
      exact ⟨i, c.run, hx, ⟨hs, hf, hn⟩, ht, rfl, hk⟩

theorem mem_boardCandidates {s : State} {p : Nat} {c : BoardCandidate} : c ∈ s.boardCandidates p ↔
    s.predict c.run p = some c.arrival ∧ ∃ g ∈ s.lds.incoming p,
      (∃ q h, (s.seg g).queue[q]? = some h ∧ s.runOf h = some c.run ∧ c.run.state = .running ∧
        c.key = 256 * g + q) ∨
      (∃ d i, s.segment g = some d ∧ s.runAt i = some c.run ∧
        (c.run.state = .dwelling ∨ c.run.state = .held ∨ c.run.state = .released) ∧
        c.run.tpAt c.run.cur = d.fromTp ∧ c.run.nextTp = p ∧ c.key = 65536 + 256 * g) := by
  simp only [State.boardCandidates, mem_sortBy, List.mem_append, List.mem_flatMap, mem_queueCandidates,
    mem_platformCandidates]
  constructor
  · rintro (⟨g, hg, ht, h⟩ | ⟨g, hg, ht, h⟩)
    · exact ⟨ht, g, hg, .inl h⟩
    · exact ⟨ht, g, hg, .inr h⟩
  · rintro ⟨ht, g, hg, h | h⟩
    · exact .inl ⟨g, hg, ht, h⟩
    · exact .inr ⟨g, hg, ht, h⟩

/-- The two lines of a board are those of its first two candidates, empty where there is none. -/
theorem boardContent_lines (s : State) (p : Nat) :
    (s.boardContent p).line1 = ((s.boardCandidates p)[0]?.map (s.boardLine p)).getD BoardLine.empty ∧
      (s.boardContent p).line2 = ((s.boardCandidates p)[1]?.map (s.boardLine p)).getD BoardLine.empty := by
  simp [State.boardContent, List.getD_eq_getElem?_getD]

theorem boardLine_notStopping {s : State} {p m : Nat} {c : BoardCandidate} {st : Stop} (hm : c.run.indexAt p = some m)
    (hst : c.run.stopAt m = some st) :
    (s.boardLine p c).notStopping = true ↔ st.kind = .pass ∨ st.skipped = true := by
  cases hk : st.kind <;> cases hb : st.skipped <;> simp [State.boardLine, hm, hst, Stop.halts, hk, hb]

/-- A line by its place on the board: empty, or the number, the minutes and the marks of its run. -/
theorem boardLine_shows (s : State) (p n : Nat) {line : BoardLine}
    (h : line = ((s.boardCandidates p)[n]?.map (s.boardLine p)).getD BoardLine.empty) :
    ((s.boardCandidates p)[n]? = none → line = ⟨none, none, false, false⟩) ∧
    ∀ c, (s.boardCandidates p)[n]? = some c → line.run = some c.run.number ∧
      line.minutes = some (min 30 ((c.arrival - s.lck.clock + 59) / 60)) ∧
      (line.delay = true ↔ c.run.autoDelay ≠ none) ∧
      ∀ m st, c.run.indexAt p = some m → c.run.stopAt m = some st →
        (line.notStopping = true ↔ st.kind = .pass ∨ st.skipped = true) := by
  subst h
  refine ⟨fun hn => by rw [hn]; rfl, fun c hc => ?_⟩
  rw [hc, Option.map_some, Option.getD_some]
  refine ⟨rfl, rfl, ?_, fun m st hm hst => boardLine_notStopping hm hst⟩
  rw [State.boardLine, Option.isSome_iff_ne_none]

/-! ### The horizon watch (R49, R50) -/

/-- The evaluation of the watch, armed or not: the count is stored, the watch stands armed at the low-water mark or
above, and TIMETABLE_LOW is posted where an armed watch finds the count below it. -/
theorem evalHorizon_watched {s : State} (hs : s.inService = true) :
    ∃ l, s.evalHorizon = s.watched l ∧
      ∀ k x, get0 s.lds.clients k = some x → get0 l k = (get0 s.crp.notices k).map fun c =>
        (s.timetableNotice s.rtb.armed s.horizon).foldl
          (fun c n => if x.configured && n.2 k x then c.join n.1 else c) c := by
  cases ha : s.rtb.armed with
  | true => exact evalHorizon_armed hs ha
  | false =>
    refine ⟨s.crp.notices, ?_, fun k x _ => by simp [State.timetableNotice]⟩
    unfold State.evalHorizon
    rw [if_pos hs]
    by_cases hn : s.horizon < s.lds.params.lwm
    · simp [hn, ha, State.watched, State.onRtb, Nat.not_le.2 hn]
    · simp [hn, State.watched, State.onRtb, Nat.not_lt.1 hn]

/-! ### The minute boundary (R19, R170) -/

/-- A due minute boundary is taken. -/
def State.minuteTaken (s : State) : State := s.onLck fun c => { c with minuteDue := false }

variable {s : State}

theorem exec_minuteBoundary_setup (h : s.lck.minuteDue = true) (hs : s.inService = false) :
    exec .minuteBoundary s = .next s.minuteTaken := by
  show execMinuteBoundary s = _
  simp [execMinuteBoundary, h, hs, State.minuteTaken]

theorem exec_minuteBoundary_service (h : s.lck.minuteDue = true) (hs : s.inService = true) :
    exec .minuteBoundary s = .next (s.minuteTaken.evalHorizon.markAllBoards).finish := by
  show execMinuteBoundary s = _
  simp [execMinuteBoundary, h, hs, State.minuteTaken]

/-- The end of an event with every board marked: each shows what it shows now, and those that differ are sent
ascending. -/
theorem markAllBoards_finish (s : State) : ∃ v : Vector (Option Board) 32, s.markAllBoards.finish = { s with
      piu := { s.piu with boards := v, dirty := [] }
      fli := Fli.startFrame { s.fli with boardQ := s.fli.boardQ ++ (ids 32).filterMap s.boardChange } } ∧
    ∀ q, look v q = (look s.piu.boards q).map (s.boardNow q) := by
  obtain ⟨v, hv, hlook⟩ := finish_eq s.markAllBoards
  have marked {q : Nat} (hq : q ∈ ids 32) : q ∈ s.markAllBoards.piu.dirty := List.mem_append_left _ hq
  have all : (ids 32).filter (fun p => s.markAllBoards.piu.dirty.contains p) = ids 32 :=
    List.filter_eq_self.2 fun p hp => by simpa using marked hp
  rw [all] at hv
  refine ⟨v, hv, fun q => ?_⟩
  rw [hlook]
  by_cases hq : q ∈ ids 32
  · exact if_pos (marked hq)
  · have none : look s.piu.boards q = none :=
      Option.eq_none_iff_forall_ne_some.2 fun b hb => hq (mem_ids_of_look hb)
    show (if _ then (look s.piu.boards q).map _ else look s.piu.boards q) = _
    simp [none]

/-- The minute boundary in SERVICE. -/
theorem minuteBoundary_service (h : s.lck.minuteDue = true) (hs : s.inService = true) :
    ∃ t, exec .minuteBoundary s = .next t ∧ t.lck = { s.lck with minuteDue := false } ∧
      t.rtb = { s.rtb with
        horizonCount := s.horizon
        armed := decide (s.lds.params.lwm ≤ s.horizon) } ∧
      (∀ p b, look s.piu.boards p = some b →
        look t.piu.boards p = some (if s.mvt.stale then b.hold else s.boardContent p)) ∧
      Created s t .board ((ids 32).filterMap fun p => (look s.piu.boards p).bind fun b =>
        if s.boardNow p b = b then none
        else some (.boardUpdate p (s.boardNow p b).line1 (s.boardNow p b).line2)) ∧
      (∃ notices, t.crp = { s.crp with notices := notices }) ∧ Posted s t (s.timetableNotice s.rtb.armed s.horizon) ∧
      t.lds = s.lds ∧ t.mvt = s.mvt ∧ t.drg = s.drg ∧
      t.tpc = s.tpc ∧ t.itb = s.itb ∧ t.piu.slots = s.piu.slots ∧ t.piu.channels = s.piu.channels ∧
      t.piu.zones = s.piu.zones ∧ t.pending = s.pending := by
  obtain ⟨l, hl, posted⟩ := evalHorizon_watched (s := s.minuteTaken) hs
  obtain ⟨v, hv, hlook⟩ := markAllBoards_finish (s.minuteTaken.watched l)
  refine ⟨_, exec_minuteBoundary_service h hs, ?_⟩
  rw [hl, hv]
  refine ⟨rfl, rfl, fun p b hb => ?_, created_of_startFrame rfl rfl rfl, ⟨l, rfl⟩, posted, rfl, rfl, rfl, rfl, rfl, rfl,
    rfl, rfl, rfl⟩
  exact (hlook p).trans (congrArg (Option.map _) hb)

/-- Settles O27: the clock's rows, the content of a board, and the minute boundary. -/
theorem clockAdvancedAndSet : Obligations.ClockAdvancedAndSet := by
  refine ⟨⟨fun s h => ⟨exec_clockAdvance_below h, exec_clockEnd_below h⟩, fun s r he hp => exec_setClock he hp⟩,
    fun s p => ⟨boardCandidates_sorted s p, fun c => mem_boardCandidates, fun n line hn => boardLine_shows s p n ?_⟩,
    fun s h _ => ⟨fun hs => exec_minuteBoundary_setup h hs, fun hs => minuteBoundary_service h hs⟩⟩
  obtain ⟨first, second⟩ := boardContent_lines s p
  obtain ⟨rfl, rfl⟩ | ⟨rfl, rfl⟩ := hn
  · exact first
  · exact second

end Sys2Proof.Machine
end

/-! ## What endings and the service of channels leave alone (R151, R158 to R168) -/

section
namespace Sys2Proof.Machine

/-! ### Tables changed in a part that is not looked at -/

section
variable {α β : Type} {n : Nat}

theorem map_mod0 (v : Vector α n) (i : Nat) {f : α → α} {g : α → β} (h : ∀ a, g (f a) = g a) :
    (mod0 v i f).map g = v.map g := by
  unfold mod0
  split
  · next a ha =>
    obtain ⟨hi, ha⟩ := List.getElem?_eq_some_iff.1 ha
    ext j hj
    simp only [Vector.getElem_map, Vector.getElem_setIfInBounds]
    split
    · next e => subst e; rw [h, ← ha]; rfl
    · rfl
  · rfl

theorem map_mod1 (v : Vector α n) (i : Nat) {f : α → α} {g : α → β} (h : ∀ a, g (f a) = g a) :
    (mod1 v i f).map g = v.map g := by
  unfold mod1
  split
  · rfl
  · exact map_mod0 v _ h

end

/-! ### The relation -/

/-- What the part never changes of an announcement while it waits, plays and rests (R150). -/
def Announcement.terms (a : Announcement) : Announcement :=
  { a with channel := 0, state := .scheduled, remaining := 0, due := none, nextDue := none, token := none }

/-- A run slot without the handle of its delay announcement (R97). -/
def RunSlot.quiet (x : RunSlot) : RunSlot := { x with run := x.run.map fun r => { r with autoDelay := none } }

/-- An incident slot without the announcements linked to it (R140). -/
def IncSlot.quiet (x : IncSlot) : IncSlot := { x with inc := x.inc.map fun i => { i with anns := [] } }

/-- A state without what the end of an announcement or the service of a channel can change: the announcements, the
channels and the marks of boards, the delay announcements of the runs, the announcements linked to incidents, the
pending notices and the output stream. -/
def State.quiet (s : State) : State :=
  { s with
    rtb := { s.rtb with slots := s.rtb.slots.map RunSlot.quiet }
    itb := { s.itb with slots := s.itb.slots.map IncSlot.quiet }
    piu := { s.piu with slots := Piu.reset.slots, channels := Piu.reset.channels, dirty := [] }
    crp := { s.crp with notices := Crp.reset.notices }
    fli := { s.fli with outputQ := [] } }

/-- Endings and service lead from `s` to `t`: the rest of the state is as it was, no announcement is new, and each that
is still live has its handle and its terms. -/
structure Played (s t : State) : Prop where
  quiet : t.quiet = s.quiet
  live : ∀ i b, t.annAt i = some b → t.annHandle i = s.annHandle i ∧ ∃ a, s.annAt i = some a ∧ b.terms = a.terms

variable {s t : State}

theorem Played.refl (s : State) : Played s s := ⟨rfl, fun _ b hb => ⟨rfl, b, hb, rfl⟩⟩

/-- A slot that is free stays free. -/
theorem Played.free (h : Played s t) {i : Nat} (hi : s.annAt i = none) : t.annAt i = none := by
  by_contra hb
  obtain ⟨b, hb⟩ := Option.ne_none_iff_exists'.1 hb
  obtain ⟨-, a, ha, -⟩ := h.live i b hb
  rw [hi] at ha
  cases ha

/-- A change that leaves the announcement slots alone. -/
theorem Played.of_slots (h : Played s t) {u : State} (hq : u.quiet = t.quiet) (hp : u.piu.slots = t.piu.slots) :
    Played s u :=
  ⟨hq.trans h.quiet, by simpa only [State.annAt, State.annHandle, hp] using h.live⟩

/-! ### The named updates -/

theorem Played.modChan (h : Played s t) (c : Nat) (f : Channel → Channel) : Played s (t.modChan c f) :=
  h.of_slots rfl rfl

theorem Played.markBoard (h : Played s t) (p : Nat) : Played s (t.markBoard p) := h.of_slots rfl rfl

theorem Played.output (h : Played s t) {o : Order} (ho : o.stream = .output) : Played s (t.order o) :=
  h.of_slots (by simp only [State.order, State.quiet, ho]; rfl) rfl

theorem Played.clearDelay (h : Played s t) (i : Nat) : Played s (t.modRun i fun x => { x with autoDelay := none }) := by
  refine h.of_slots ?_ rfl
  have slots := map_mod1 t.rtb.slots i (f := fun x => { x with run := x.run.map fun r => { r with autoDelay := none } })
    (g := RunSlot.quiet) fun x => by cases hx : x.run <;> simp [RunSlot.quiet, hx]
  simp only [State.modRun, State.onRtb, State.quiet, slots]

theorem Played.unlink (h : Played s t) (i a : Nat) :
    Played s (t.modInc i fun x => { x with anns := x.anns.filter (· != a) }) := by
  refine h.of_slots ?_ rfl
  have slots := map_mod1 t.itb.slots i
    (f := fun x => { x with inc := x.inc.map fun y => { y with anns := y.anns.filter (· != a) } })
    (g := IncSlot.quiet) fun x => by cases hx : x.inc <;> simp [IncSlot.quiet, hx]
  simp only [State.modInc, State.onItb, State.quiet, slots]

theorem Played.postTo (h : Played s t) (n : Notice) (c : Nat) : Played s (t.postTo n c) := by
  obtain ⟨l, hl⟩ := postTo_onCrp t n c
  exact hl ▸ h.of_slots rfl rfl

theorem modAnn_annHandle (s : State) (i j : Nat) (f : Announcement → Announcement) :
    (s.modAnn i f).annHandle j = s.annHandle j := by
  show mkHandle ((get1 (mod1 s.piu.slots i _) j).elim 0 (·.gen)) j = mkHandle ((get1 s.piu.slots j).elim 0 (·.gen)) j
  rw [get1_mod1]
  split
  · cases get1 s.piu.slots j <;> rfl
  · rfl

theorem modAnn_annAt (s : State) (i j : Nat) (f : Announcement → Announcement) :
    (s.modAnn i f).annAt j = if i = j then (s.annAt j).map f else s.annAt j := by
  show (get1 (mod1 s.piu.slots i _) j).bind _ = if i = j then ((get1 s.piu.slots j).bind _).map f else _
  rw [get1_mod1]
  split
  · cases get1 s.piu.slots j <;> rfl
  · rfl

theorem Played.modAnn (h : Played s t) (i : Nat) {f : Announcement → Announcement} (hf : ∀ a, (f a).terms = a.terms) :
    Played s (t.modAnn i f) := by
  refine ⟨h.quiet, fun j b hb => ?_⟩
  rw [modAnn_annHandle]
  rw [modAnn_annAt] at hb
  split at hb
  · obtain ⟨c, hc, rfl⟩ := Option.map_eq_some_iff.1 hb
    rw [hf]
    exact h.live j c hc
  · exact h.live j b hb

theorem retireAnn_self (s : State) (i : Nat) : (s.retireAnn i).annAt i = none := by
  show (get1 (mod1 s.piu.slots i _) i).bind _ = none
  rw [get1_mod1_self]
  cases get1 s.piu.slots i <;> rfl

theorem retireAnn_ne (s : State) {i j : Nat} (h : i ≠ j) :
    (s.retireAnn i).annAt j = s.annAt j ∧ (s.retireAnn i).annHandle j = s.annHandle j := by
  have slot : get1 (s.retireAnn i).piu.slots j = get1 s.piu.slots j := get1_mod1_ne _ h _
  exact ⟨by rw [State.annAt, slot]; rfl, by rw [State.annHandle, slot]; rfl⟩

theorem Played.retireAnn (h : Played s t) (i : Nat) : Played s (t.retireAnn i) := by
  refine ⟨h.quiet, fun j b hb => ?_⟩
  by_cases e : i = j
  · subst e
    rw [retireAnn_self] at hb
    cases hb
  · obtain ⟨hat, hhandle⟩ := retireAnn_ne t e
    rw [hhandle]
    exact h.live j b (hat ▸ hb)

/-! ### Endings (R151, R165) -/

theorem Played.foldl {α : Type} {f : State → α → State} (hf : ∀ {u}, Played s u → ∀ a, Played s (f u a))
    (h : Played s t) (l : List α) : Played s (l.foldl f t) := by
  induction l generalizing t with
  | nil => exact h
  | cons a l ih => exact ih (hf h a)

theorem Played.markRun (h : Played s t) (i : Nat) (r : Run) : Played s (t.markRun i r) := by
  refine Played.foldl (fun hu p => ?_) (h.markBoard _) _
  split
  · exact hu.markBoard p
  · exact hu

theorem Played.modAnnOf (h : Played s t) (k : Nat) {f : Announcement → Announcement}
    (hf : ∀ a, (f a).terms = a.terms) : Played s (t.modAnnOf k f) := by
  unfold State.modAnnOf
  split
  · exact h.modAnn _ hf
  · exact h

theorem Played.enqueue (h : Played s t) (k c due : Nat) : Played s (t.enqueue k c due) := by
  refine Played.modChan (h.modAnnOf k ?_) c _
  exact fun _ => rfl

theorem Played.sendCut (h : Played s t) (c token : Nat) : Played s (t.sendCut c token) :=
  (h.modChan c _).output rfl

theorem Played.play (h : Played s t) (c k : Nat) (zones : ZoneSet) : Played s (t.play c k zones) := by
  refine Played.output ((h.modChan c _).modAnnOf k ?_) rfl
  exact fun _ => rfl

theorem Played.clearAutoDelay (h : Played s t) (k : Nat) : Played s (t.clearAutoDelay k) := by
  unfold State.clearAutoDelay
  split
  · exact h
  · split
    · exact h
    · exact (h.clearDelay _).markRun _ _

theorem Played.notifyEnded (h : Played s t) (owner : Owner) (k : Nat) (why : EndReason) :
    Played s (t.notifyEnded owner k why) := by
  cases owner with
  | client c => exact h.postTo _ c
  | engine => exact h

theorem Played.unlinkAnn (h : Played s t) (inc : Option Nat) (k : Nat) : Played s (t.unlinkAnn inc k) := by
  unfold State.unlinkAnn State.modIncOf
  split
  · split
    · exact h.unlink _ k
    · exact h
  · exact h

theorem Played.endAnn (h : Played s t) (i : Nat) (why : EndReason) : Played s (t.endAnn i why) := by
  unfold State.endAnn
  split
  · exact h
  · next a _ =>
    have cut : Played s (if (t.chan a.channel).onAir = some (t.annHandle i) then
        t.sendCut a.channel (a.token.getD 0) else t) := by
      split
      · exact h.sendCut _ _
      · exact h
    exact ((((cut.modChan _ _).unlinkAnn _ _).clearAutoDelay _).notifyEnded _ _ _).retireAnn i

theorem Played.occurrenceDone (h : Played s t) (i : Nat) : Played s (t.occurrenceDone i) := by
  unfold State.occurrenceDone
  split
  · exact h
  · next a _ =>
    dsimp only
    generalize (if 0 < a.spec.repeatCount then a.remaining - 1 else a.remaining) = left
    have rests : Played s (t.modAnn i fun x => { x with
        remaining := left, token := none, state := .resting
        nextDue := some (t.after (interval a.spec.interval)) }) := h.modAnn i fun _ => rfl
    split
    · exact rests
    · exact rests.endAnn i _

/-! ### Service (R162 to R164) -/

theorem Played.consume (h : Played s t) (c k : Nat) : Played s (t.consume c k) := by
  unfold State.consume
  dsimp only
  split
  · exact (h.modChan c _).occurrenceDone _
  · exact h.modChan c _

theorem Played.redirect (h : Played s t) (c k : Nat) : Played s (t.redirect c k) := by
  refine Played.enqueue ((h.modChan c _).modAnnOf k ?_) k 0 _
  exact fun _ => rfl

theorem Played.fullWindow (h : Played s t) (c k : Nat) (fromStack : Bool) :
    Played s (t.fullWindow c k fromStack).1 := by
  unfold State.fullWindow
  dsimp only
  split
  · exact h
  · split
    · exact h
    · split
      · exact h
      · exact h.redirect c k
    · split
      · exact h.endAnn _ _
      · exact h

theorem Played.lookEmpty (h : Played s t) (c : Nat) : Played s (t.lookEmpty c).1 := by
  unfold State.lookEmpty
  split
  · exact h
  · next k fromStack _ =>
    dsimp only
    split
    · exact h.consume c k
    · split
      · exact h.fullWindow c k fromStack
      · exact h.play c k _

theorem Played.preempt (h : Played s t) (c k old : Nat) (zones : ZoneSet) : Played s (t.preempt c k old zones) := by
  refine Played.play (((h.sendCut c _).modChan c _).modAnnOf old ?_) c k zones
  exact fun _ => rfl

theorem Played.lookBusy (h : Played s t) (c old : Nat) : Played s (t.lookBusy c old).1 := by
  unfold State.lookBusy
  split
  · exact h
  · next k _ _ =>
    dsimp only
    split
    · exact h
    · split
      · exact h.modChan c _
      · split
        · exact h.consume c k
        · split
          · exact h
          · exact h.preempt c k old _

theorem Played.lookChannel (h : Played s t) (c : Nat) : Played s (t.lookChannel c).1 := by
  unfold State.lookChannel
  split
  · exact h.lookEmpty c
  · exact h.lookBusy c _

theorem Played.serveLoop (h : Played s t) (c n : Nat) (moved : Bool) : Played s (State.serveLoop c n t moved).1 := by
  induction n generalizing t moved with
  | zero => exact h
  | succ n ih =>
    have looked := h.lookChannel c
    unfold State.serveLoop
    split <;> rename_i heq <;> rw [heq] at looked
    · exact looked
    · exact ih looked _
    · exact ih looked _

theorem Played.serveOne (h : Played s t) (c : Nat) : Played s (t.serveOne c).1 := by
  unfold State.serveOne
  split
  · exact h.serveLoop c _ _
  · exact h

theorem Played.serveChannel (h : Played s t) (c : Nat) : Played s (t.serveChannel c) := by
  have served := h.serveOne c
  unfold State.serveChannel
  split <;> rename_i heq <;> rw [heq] at served
  · exact served.serveOne 0
  · exact served

theorem Played.serveOrHalt (h : Played s t) (c : Nat) : Played s (t.serveOrHalt c) := by
  unfold State.serveOrHalt State.haltChannel
  dsimp only
  split
  · exact (h.serveChannel c).modChan c _
  · exact h.serveChannel c

theorem Played.endServing (h : Played s t) (always : List Nat) (i : Nat) (why : EndReason) :
    Played s (t.endServing always i why) := by
  unfold State.endServing
  split
  · exact h
  · dsimp only
    split
    · exact (h.endAnn i why).serveOrHalt _
    · exact h.endAnn i why

/-! ### Withdrawals (R168) -/

theorem Played.withdrawServing (h : Played s t) (always : List Nat) (k : Nat) :
    Played s (State.withdrawServing always t k) := by
  unfold State.withdrawServing
  split
  · exact h.endServing always _ _
  · exact h

theorem Played.withdrawAll (h : Played s t) (ks : List Nat) : Played s (t.withdrawAll ks) :=
  Played.foldl (fun hu k => hu.withdrawServing _ k) h _

theorem endAnn_self {i : Nat} {a : Announcement} (h : s.annAt i = some a) (why : EndReason) :
    (s.endAnn i why).annAt i = none := by
  unfold State.endAnn
  rw [h]
  exact retireAnn_self _ i

/-- An announcement that ends is not live afterwards, whatever the service of its channel does. -/
theorem endServing_self {i : Nat} {a : Announcement} (h : s.annAt i = some a) (always : List Nat) (why : EndReason) :
    (s.endServing always i why).annAt i = none := by
  have ended := endAnn_self h why
  unfold State.endServing
  rw [h]
  dsimp only
  split
  · exact ((Played.refl (s.endAnn i why)).serveOrHalt _).free ended
  · exact ended

theorem withdrawServing_self {i : Nat} {a : Announcement} (h : s.annAt i = some a) (always : List Nat) :
    (State.withdrawServing always s (s.annHandle i)).annAt i = none := by
  unfold State.withdrawServing
  rw [resolveAnn_annHandle h]
  exact endServing_self h always _

/-- Every announcement of a list of handles is withdrawn: none of them is live afterwards. -/
theorem withdrawAll_ends (s : State) {i : Nat} {ks : List Nat} (h : s.annHandle i ∈ ks) :
    (s.withdrawAll ks).annAt i = none := by
  have withdrawn (always : List Nat) (l : List Nat) {u : State} (hu : Played s u) (hl : s.annHandle i ∈ l) :
      (l.foldl (State.withdrawServing always) u).annAt i = none := by
    induction l generalizing u with
    | nil => cases hl
    | cons k l ih =>
      have next := hu.withdrawServing always k
      rw [List.foldl_cons]
      obtain rfl | hl := List.mem_cons.1 hl
      · refine (Played.foldl (fun hv j => hv.withdrawServing always j) (Played.refl _) l).free ?_
        cases hi : u.annAt i with
        | none => exact ((Played.refl u).withdrawServing always _).free hi
        | some b => rw [← (hu.live i b hi).1]; exact withdrawServing_self hi always
      · exact ih next hl
  exact withdrawn _ _ (Played.refl s) (mem_sortBy.2 h)

end Sys2Proof.Machine
end

/-! ## The tables of live records, slot by slot -/

section
namespace Sys2Proof.Machine

section
variable {α β : Type} {n : Nat}

/-- A list with its positions, read position by position. -/
theorem zipIdx_eq_filterMap (l : List α) (k : Nat) :
    l.zipIdx k = (List.range l.length).filterMap fun j => l[j]?.map fun a => (a, j + k) := by
  induction l generalizing k with
  | nil => rfl
  | cons a l ih =>
    rw [List.zipIdx_cons, ih, List.length_cons, List.range_succ_eq_map, List.filterMap_cons, List.filterMap_map]
    simp [Nat.add_assoc, Nat.add_comm 1]

/-- The live records of a table, in ascending slot order. -/
theorem live_eq_filterMap (v : Vector α n) (g : α → Option β) :
    v.toList.zipIdx.filterMap (fun p => (g p.1).map fun r => (p.2 + 1, r)) =
      (ids n).filterMap fun i => ((get1 v i).bind g).map fun r => (i, r) := by
  rw [zipIdx_eq_filterMap, List.filterMap_filterMap, ids, List.filterMap_map, Vector.length_toList]
  refine List.filterMap_congr fun j _ => ?_
  show _ = ((get0 v j).bind g).map fun r => (j + 1, r)
  unfold get0
  cases v.toList[j]? <;> simp

/-- The slots of the live records that pass a test, in ascending order. -/
theorem live_slots_eq_filter (v : Vector α n) (g : α → Option β) (p : β → Bool) :
    ((v.toList.zipIdx.filterMap fun q => (g q.1).map fun r => (q.2 + 1, r)).filter fun x => p x.2).map (·.1) =
      (ids n).filter fun i => ((get1 v i).bind g).any p := by
  rw [live_eq_filterMap, List.filter_filterMap, List.map_filterMap, ← List.filterMap_eq_filter]
  refine List.filterMap_congr fun i _ => ?_
  rw [Option.guard]
  cases (get1 v i).bind g with
  | none => rfl
  | some r => cases h : p r <;> simp [h]

/-- Changing several entries, each once. -/
theorem get1_foldl_mod1 {ps : List Nat} (hd : ps.Nodup) (f : α → α) (v : Vector α n) (i : Nat) :
    get1 (ps.foldl (fun w p => mod1 w p f) v) i = if i ∈ ps then (get1 v i).map f else get1 v i := by
  induction ps generalizing v with
  | nil => rfl
  | cons p ps ih =>
    obtain ⟨hp, hd⟩ := List.nodup_cons.1 hd
    rw [List.foldl_cons, ih hd, get1_mod1]
    by_cases e : p = i
    · subst e; simp [hp]
    · simp [e, Ne.symm e]

end

theorem runSlots_eq_filter (s : State) (p : Run → Bool) :
    s.runSlots p = (ids 128).filter fun i => (s.runAt i).any p := live_slots_eq_filter _ _ p

theorem clearedSlots_eq_filter (s : State) :
    s.clearedSlots = (ids 48).filter fun i => (s.incAt i).any fun x => x.state == .cleared :=
  live_slots_eq_filter s.itb.slots (·.inc) fun x => x.state == .cleared

theorem mem_clearedSlots {s : State} {i : Nat} :
    i ∈ s.clearedSlots ↔ ∃ x, s.incAt i = some x ∧ x.state = .cleared := by
  rw [clearedSlots_eq_filter, List.mem_filter, Option.any_eq_true]
  constructor
  · rintro ⟨-, x, hx, hs⟩
    exact ⟨x, hx, by simpa using hs⟩
  · rintro ⟨x, hx, hs⟩
    exact ⟨mem_ids.2 (incAt_range hx), x, hx, by simp [hs]⟩

theorem nodup_clearedSlots (s : State) : s.clearedSlots.Nodup := by
  rw [clearedSlots_eq_filter]
  exact (ids_nodup 48).filter _

end Sys2Proof.Machine
end

/-! ## The rollover of the service day, block by block (R26) -/

section
namespace Sys2Proof.Machine

variable {s : State}

/-! ### The Run Table (R54) -/

/-- The REVOKE order for the release of the run in a slot. -/
def State.revocation (s : State) (i : Nat) : Option Order :=
  (s.runAt i).map fun r => .revoke r.number (r.tpAt r.cur) ((s.reg i).releaseSegment.getD 0)

theorem foldl_revoke (l : List Nat) (s : State) : l.foldl State.revoke s =
    s.onFli fun f => { f with releaseQ := f.releaseQ ++ l.filterMap s.revocation } := by
  induction l generalizing s with
  | nil => simp [State.onFli]
  | cons i l ih =>
    rw [List.foldl_cons, ih]
    unfold State.revoke
    cases hx : s.runAt i with
    | none => simp [State.revocation, hx]
    | some x =>
      have same (o : Order) : (s.order o).revocation = s.revocation := rfl
      have here : s.revocation i =
          some (.revoke x.number (x.tpAt x.cur) ((s.reg i).releaseSegment.getD 0)) := by simp [State.revocation, hx]
      simp only [same, List.filterMap_cons, here]
      simp [State.order, State.onFli, Order.stream, Fli.setQueue, Fli.queue]

/-- The orders of the RELEASED runs, ascending by slot. -/
theorem revocations_eq (s : State) :
    (s.runSlots fun r => r.state == .released).filterMap s.revocation =
      (ids 128).filterMap fun i => (s.runAt i).bind fun x =>
        if x.state = .released then some (.revoke x.number (x.tpAt x.cur) ((s.reg i).releaseSegment.getD 0))
        else none := by
  rw [runSlots_eq_filter, List.filterMap_filter]
  refine List.filterMap_congr fun i _ => ?_
  unfold State.revocation
  cases s.runAt i with
  | none => rfl
  | some x => by_cases h : x.state = .released <;> simp [h]

/-- A run slot under its next generation, empty. -/
def RunSlot.retired (x : RunSlot) : RunSlot := ⟨nextGen x.gen, none⟩

theorem foldl_retireRunSlot (l : List Nat) (s : State) : ∃ recs, l.foldl State.retireRunSlot s = { s with
    rtb := { s.rtb with slots := l.foldl (fun v i => mod1 v i RunSlot.retired) s.rtb.slots }
    drg := { s.drg with recs := recs } } := by
  induction l generalizing s with
  | nil => exact ⟨s.drg.recs, rfl⟩
  | cons i l ih =>
    obtain ⟨recs, h⟩ := ih (s.retireRunSlot i)
    exact ⟨recs, h⟩

/-- The run slots at the rollover: every live one is retired. -/
def Rtb.emptied (x : Rtb) (l : List Nat) : Rtb :=
  ⟨l.foldl (fun v i => mod1 v i RunSlot.retired) x.slots, x.horizonCount, true, zeroCounters⟩

theorem rolloverRuns_eq (s : State) : ∃ recs, s.rolloverRuns = { s with
    rtb := s.rtb.emptied s.allRuns
    drg := { s.drg with recs := recs }
    fli := { s.fli with releaseQ := s.fli.releaseQ ++ (ids 128).filterMap fun i => (s.runAt i).bind fun x =>
      if x.state = .released then some (.revoke x.number (x.tpAt x.cur) ((s.reg i).releaseSegment.getD 0))
      else none } } := by
  unfold State.rolloverRuns
  dsimp only
  rw [foldl_revoke, revocations_eq]
  obtain ⟨recs, h⟩ := foldl_retireRunSlot s.allRuns (s.onFli fun f => { f with
    releaseQ := f.releaseQ ++ (ids 128).filterMap fun i => (s.runAt i).bind fun x =>
      if x.state = .released then some (.revoke x.number (x.tpAt x.cur) ((s.reg i).releaseSegment.getD 0))
      else none })
  exact ⟨recs, congrArg (State.onRtb · fun x => { x with counters := zeroCounters, armed := true }) h⟩

theorem nodup_allRuns (s : State) : s.allRuns.Nodup := nodup_runSlots s _

theorem get1_emptied (s : State) (i : Nat) : get1 (s.rtb.emptied s.allRuns).slots i =
    (get1 s.rtb.slots i).map fun x => if x.run.isSome then x.retired else x := by
  show get1 (s.allRuns.foldl (fun v i => mod1 v i RunSlot.retired) s.rtb.slots) i = _
  rw [get1_foldl_mod1 (nodup_allRuns s)]
  cases hx : get1 s.rtb.slots i with
  | none => simp
  | some x =>
    have member : i ∈ s.allRuns ↔ x.run.isSome = true := by
      rw [State.allRuns, mem_runSlots]
      simp [State.runAt, hx, Option.isSome_iff_exists]
    by_cases h : x.run.isSome = true <;> simp [member, h]

theorem emptied_noRun (s : State) (i : Nat) : (get1 (s.rtb.emptied s.allRuns).slots i).bind (·.run) = none := by
  rw [get1_emptied]
  cases get1 s.rtb.slots i with
  | none => rfl
  | some x => cases hx : x.run <;> simp [hx, RunSlot.retired]

/-! ### The regulator (R99) -/

/-- The regulator in the new day. -/
def Drg.rolled (d : Drg) : Drg :=
  { d.fresh with releasedCount := 0, mode := if d.mode = .halting then .manual else d.mode }

theorem rolloverDrg_eq (s : State) :
    ∃ l, s.rolloverDrg = { s with drg := s.drg.rolled, crp := { s.crp with notices := l } } := by
  unfold State.rolloverDrg
  dsimp only
  split
  · next h =>
    obtain ⟨l, hl⟩ := postWhere_onCrp
      ((s.onDrg fun d => { d.fresh with releasedCount := 0 }).onDrg fun d => { d with mode := .manual })
      ⟨.halted, 0, 0⟩ fun c => c.role == .dispatch || c.role == .supervisor
    exact ⟨l, by rw [hl, Drg.rolled, if_pos h]; rfl⟩
  · next h => exact ⟨s.crp.notices, by rw [Drg.rolled, if_neg h]; rfl⟩

/-! ### The Incident Table (R145, R148) -/

/-- Slots of a list are taken by automatic incidents that were pending, or stay as they are; nothing else changes but
the desks, the numbers, the pending set and the notices. -/
structure TakenByPending (l : List Nat) (s t : State) : Prop where
  rest : t = { s with itb := t.itb, crp := { s.crp with notices := t.crp.notices } }
  others : ∀ i, i ∉ l → get1 t.itb.slots i = get1 s.itb.slots i
  taken : ∀ i y, get1 t.itb.slots i = some y → ∃ x, get1 s.itb.slots i = some x ∧ y.gen = x.gen ∧
    (y.inc = x.inc ∨ ∃ z, y.inc = some z ∧ z.auto ≠ none ∧ z.state = .raised)

theorem TakenByPending.refl (l : List Nat) (s : State) : TakenByPending l s s :=
  ⟨rfl, fun _ _ => rfl, fun _ y hy => ⟨y, hy, rfl, .inl rfl⟩⟩

theorem TakenByPending.trans {l : List Nat} {s t u : State} (h : TakenByPending l s t) (h' : TakenByPending l t u) :
    TakenByPending l s u := by
  refine ⟨?_, fun i hi => (h'.others i hi).trans (h.others i hi), fun i z hz => ?_⟩
  · rw [h'.rest, h.rest]
  · obtain ⟨y, hy, hgen, hinc⟩ := h'.taken i z hz
    obtain ⟨x, hx, hgen', hinc'⟩ := h.taken i y hy
    refine ⟨x, hx, hgen.trans hgen', ?_⟩
    obtain hinc | hinc := hinc
    · rw [hinc]; exact hinc'
    · exact .inr hinc

/-- A raise in a slot writes the incident, its desk's queue and its notice. -/
theorem raiseIn_eq (s : State) (i : Nat) (x : RaiseSpec) : ∃ number desks l, s.raiseIn i x = { s with
    itb := { s.itb with
      slots := mod1 s.itb.slots i fun y => { y with inc := some (s.newIncident x number) }
      desks := desks
      nextNumber := nextNumber number }
    crp := { s.crp with notices := l } } := by
  unfold State.raiseIn
  dsimp only
  obtain ⟨l, hl⟩ := postWhere_onCrp _ _ _
  exact ⟨_, _, l, hl⟩

/-- With no run live no handle names one. -/
theorem resolveRun_slot_eq_none (h : ∀ i, s.runAt i = none) (k : Nat) : (s.resolveRun k).slot? = none := by
  cases hr : s.resolveRun k with
  | live i =>
    obtain ⟨-, x, hx⟩ := resolveRun_live hr
    rw [h i] at hx
    cases hx
  | zero | notFound | stale => rfl

/-- With no run live there is none to link: an automatic incident is raised and nothing more (R145). -/
theorem raiseAuto_eq (h : ∀ i, s.runAt i = none) (i : Nat) (c : AutoCause) (d : AutoDetail) (count : Nat) :
    s.raiseAuto i c d count = s.raiseIn i ⟨c.kind, c.severity, .engine, some c, some d, count⟩ := by
  obtain ⟨number, desks, l, hraise⟩ := raiseIn_eq s i ⟨c.kind, c.severity, .engine, some c, some d, count⟩
  have idle := resolveRun_slot_eq_none (s := s.raiseIn i ⟨c.kind, c.severity, .engine, some c, some d, count⟩)
    fun j => by rw [hraise]; exact h j
  have unlinked : (d.run.map
      (s.raiseIn i ⟨c.kind, c.severity, .engine, some c, some d, count⟩).resolveRun).bind Resolved.slot? = none := by
    cases d.run with
    | none => rfl
    | some k => exact idle k
  simp only [State.raiseAuto, unlinked]

theorem takenByPending_raisePending (h : ∀ i, s.runAt i = none) {l : List Nat} {i : Nat} (hi : i ∈ l) :
    TakenByPending l s (s.raisePending i) := by
  unfold State.raisePending
  split
  · exact .refl l s
  · next c p _ =>
    rw [raiseAuto_eq h]
    obtain ⟨number, desks, n, hraise⟩ := raiseIn_eq s i ⟨c.kind, c.severity, .engine, some c, some p.detail, p.count⟩
    rw [hraise]
    refine ⟨rfl, fun j hj => get1_mod1_ne _ (fun e : i = j => hj (e ▸ hi)) _, fun j y hy => ?_⟩
    have slot : get1 (mod1 s.itb.slots i _) j = some y := hy
    rw [get1_mod1] at slot
    split at slot
    · obtain ⟨x, hx, rfl⟩ := Option.map_eq_some_iff.1 slot
      exact ⟨x, hx, rfl, .inr ⟨_, rfl, by simp [State.newIncident], rfl⟩⟩
    · exact ⟨y, slot, rfl, .inl rfl⟩

/-- The slots freed at the rollover are taken in turn (R145). -/
theorem takenByPending_foldl (h : ∀ i, s.runAt i = none) (l : List Nat) :
    TakenByPending l s (l.foldl State.raisePending s) := by
  have taken (k : List Nat) (hk : k ⊆ l) {t : State} (ht : TakenByPending l s t) :
      TakenByPending l s (k.foldl State.raisePending t) := by
    induction k generalizing t with
    | nil => exact ht
    | cons i k ih =>
      obtain ⟨hi, hk⟩ := List.cons_subset.1 hk
      have idle : ∀ j, t.runAt j = none := by rw [ht.rest]; exact h
      exact ih hk (ht.trans (takenByPending_raisePending idle hi))
  exact taken l (List.Subset.refl l) (.refl l s)

/-- With the pending set empty nothing is raised. -/
theorem foldl_raisePending_none (h : ∀ c, look s.itb.pendingSet c = none) (l : List Nat) :
    l.foldl State.raisePending s = s := by
  have none (i : Nat) : s.raisePending i = s := by
    have first : s.firstPending = none := by simp [State.firstPending, h]
    rw [State.raisePending, first]
  induction l with
  | nil => rfl
  | cons i l ih => rw [List.foldl_cons, none, ih]

/-- An incident slot under its next generation, empty. -/
def IncSlot.retired (x : IncSlot) : IncSlot := ⟨nextGen x.gen, none⟩

theorem foldl_retireIncSlot (l : List Nat) (s : State) : l.foldl State.retireIncSlot s =
    s.onItb fun b => { b with slots := l.foldl (fun v i => mod1 v i IncSlot.retired) b.slots } := by
  induction l generalizing s with
  | nil => rfl
  | cons i l ih => rw [List.foldl_cons, ih]; rfl

/-- An incident slot at the rollover, before the pending set is looked at: carried, or retired where CLEARED. -/
def IncSlot.rolled (at_ : Nat) (x : IncSlot) : IncSlot :=
  if x.inc.any (fun i => i.state == .cleared) then x.retired else { x with inc := x.inc.map (Incident.carry at_) }

theorem clearedSlots_carry (s : State) (at_ : Nat) : (s.onItb fun b =>
    { b with slots := b.slots.map fun x => { x with inc := x.inc.map (Incident.carry at_) } }).clearedSlots =
      s.clearedSlots := by
  rw [clearedSlots_eq_filter, clearedSlots_eq_filter]
  refine List.filter_congr fun i _ => ?_
  simp only [State.incAt, onItb_itb, get1_map]
  cases get1 s.itb.slots i with
  | none => rfl
  | some x => cases hx : x.inc <;> simp [hx, Incident.carry]

/-- The incident slots once the table is carried and the CLEARED incidents are retired, each by itself. -/
theorem rolloverItb_eq (s : State) (at_ : Nat) : ∃ v : Vector IncSlot 48,
    s.rolloverItb at_ = s.clearedSlots.foldl State.raisePending (s.onItb fun b => { b with slots := v }) ∧
    ∀ i, get1 v i = (get1 s.itb.slots i).map (IncSlot.rolled at_) := by
  refine ⟨s.clearedSlots.foldl (fun v i => mod1 v i IncSlot.retired)
    (s.itb.slots.map fun x => { x with inc := x.inc.map (Incident.carry at_) }), ?_, fun i => ?_⟩
  · unfold State.rolloverItb
    dsimp only
    rw [clearedSlots_carry, foldl_retireIncSlot]
    rfl
  · rw [get1_foldl_mod1 (nodup_clearedSlots s), get1_map]
    cases hx : get1 s.itb.slots i with
    | none => simp
    | some x =>
      have member : i ∈ s.clearedSlots ↔ x.inc.any (fun z => z.state == .cleared) = true := by
        rw [mem_clearedSlots]
        simp [State.incAt, hx, Option.any_eq_true]
      by_cases h : x.inc.any (fun z => z.state == .cleared) = true <;> simp [member, h, IncSlot.rolled, IncSlot.retired]

/-- What the rollover makes of the Incident Table `b`: an incident that is not CLEARED is carried, and a freed slot is
empty or holds an automatic incident that was pending. -/
structure Itb.Turned (at_ : Nat) (b t : Itb) : Prop where
  standing : ∀ i x, get1 b.slots i = some x → x.inc.any (fun z => z.state == .cleared) = false →
    get1 t.slots i = some (x.rolled at_)
  taken : ∀ i y, get1 t.slots i = some y → ∃ x, get1 b.slots i = some x ∧ y.gen = (x.rolled at_).gen ∧
    (y.inc = (x.rolled at_).inc ∨ ∃ z, y.inc = some z ∧ z.auto ≠ none ∧ z.state = .raised)
  idle : (∀ c, look b.pendingSet c = none) → ∀ i, get1 t.slots i = (get1 b.slots i).map (IncSlot.rolled at_)

theorem rolloverItb_turned (h : ∀ i, s.runAt i = none) (at_ : Nat) : ∃ t n,
    s.rolloverItb at_ = { s with itb := t, crp := { s.crp with notices := n } } ∧ s.itb.Turned at_ t := by
  obtain ⟨v, hv, slots⟩ := rolloverItb_eq s at_
  have taken := takenByPending_foldl (s := s.onItb fun b => { b with slots := v }) h s.clearedSlots
  refine ⟨(s.rolloverItb at_).itb, (s.rolloverItb at_).crp.notices, ?_, fun i x hx hc => ?_, fun i y hy => ?_,
    fun hp i => ?_⟩
  · rw [hv]; exact taken.rest
  · have stays : i ∉ s.clearedSlots := by
      rintro hi
      obtain ⟨z, hz, hs⟩ := mem_clearedSlots.1 hi
      have inc : x.inc = some z := by simpa [State.incAt, hx] using hz
      simp [inc, hs] at hc
    rw [hv, taken.others i stays]
    exact (slots i).trans (congrArg _ hx)
  · rw [hv] at hy
    obtain ⟨x, hx, hgen, hinc⟩ := taken.taken i y hy
    obtain ⟨w, hw, rfl⟩ := Option.map_eq_some_iff.1 ((slots i).symm.trans hx)
    exact ⟨w, hw, hgen, hinc⟩
  · rw [hv, foldl_raisePending_none (s := s.onItb fun b => { b with slots := v }) hp]
    exact slots i

/-! ### The boards and the horizon watch (R50, R171) -/

theorem clearBoards_eq (s : State) : s.clearBoards = { s with
    piu := { s.piu with boards := s.piu.boards.map (Option.map fun _ => Board.empty), dirty := [] }
    fli := { s.fli with boardQ := s.fli.boardQ ++
      (ids 32).filterMap fun p => (look s.piu.boards p).map fun _ => boardOrder p Board.empty } } := by
  have blank (p : Nat) : (look (s.piu.boards.map (Option.map fun _ => Board.empty)) p).map (boardOrder p) =
      (look s.piu.boards p).map fun _ => boardOrder p Board.empty := by
    rw [look_map_map, Option.map_map]; rfl
  unfold State.clearBoards
  dsimp only
  rw [foldl_boardPoints]
  simp only [onPiu_piu, blank]
  rfl

/-! ### Announcements (R21, R159, R168, R171) -/

theorem carryAnns_annAt (s : State) (at_ i : Nat) :
    (s.carryAnns at_).annAt i = (s.annAt i).map (Announcement.carry at_) := by
  show (get1 (s.piu.slots.map _) i).bind _ = ((get1 s.piu.slots i).bind _).map _
  rw [get1_map]
  cases get1 s.piu.slots i <;> rfl

theorem get0_map {α β : Type} {n : Nat} (v : Vector α n) (f : α → β) (i : Nat) :
    get0 (v.map f) i = (get0 v i).map f := by
  simp [get0]

/-- The queues are sorted again, and nothing else of a channel changes. -/
theorem carryAnns_chan (s : State) (at_ c : Nat) :
    ∃ q, (s.carryAnns at_).chan c = { s.chan c with queue := q } ∧ q.Perm (s.chan c).queue := by
  obtain ⟨le, channels⟩ : ∃ le, (s.carryAnns at_).piu.channels =
      s.piu.channels.map fun ch => { ch with queue := sortBy le ch.queue } := ⟨_, rfl⟩
  unfold State.chan
  rw [channels, get0_map]
  cases get0 s.piu.channels c with
  | none => exact ⟨_, rfl, List.Perm.refl _⟩
  | some ch => exact ⟨_, rfl, sortBy_perm _ _⟩

/-- The announcements once the rollover has withdrawn those that name a run and has carried the others. -/
def State.dayLeft (s : State) (at_ : Nat) : State := (s.withdrawAll s.runAnnouncements).carryAnns at_

theorem dayLeft_quiet (s : State) (at_ : Nat) : (s.dayLeft at_).quiet = s.quiet :=
  ((Played.refl s).withdrawAll s.runAnnouncements).quiet

theorem mem_runAnnouncements {i : Nat} {a : Announcement} (h : s.annAt i = some a)
    (hn : a.linkedRun ≠ none ∨ ∃ k, a.spec.target = .followRun k) : s.annHandle i ∈ s.runAnnouncements := by
  refine List.mem_map.2 ⟨(i, a), List.mem_filter.2 ⟨mem_liveAnns.2 h, ?_⟩, rfl⟩
  obtain hr | ⟨k, hk⟩ := hn
  · simp [Option.isSome_iff_ne_none, hr]
  · simp [hk]

theorem runAnnouncements_eq_nil
    (h : ∀ i a, s.annAt i = some a → a.linkedRun = none ∧ ∀ k, a.spec.target ≠ .followRun k) :
    s.runAnnouncements = [] := by
  have none_names : s.liveAnns.filter (fun x => x.2.linkedRun.isSome || (match x.2.spec.target with
      | .followRun _ => true
      | .groups _ => false)) = [] := by
    refine List.filter_eq_nil_iff.2 fun x hx => ?_
    obtain ⟨hr, hk⟩ := h x.1 x.2 (mem_liveAnns.1 hx)
    cases ht : x.2.spec.target with
    | groups gs => simp [hr]
    | followRun k => exact absurd ht (hk k)
  exact congrArg (List.map _) none_names

/-- What the rollover in SERVICE leaves of the announcements and the channels. -/
theorem dayLeft_carried {t : State} {at_ : Nat} (hslots : t.piu.slots = (s.dayLeft at_).piu.slots)
    (hchannels : t.piu.channels = (s.dayLeft at_).piu.channels) : AnnouncementsCarried s t at_ := by
  have ann (i : Nat) : t.annAt i = ((s.withdrawAll s.runAnnouncements).annAt i).map (Announcement.carry at_) := by
    rw [← carryAnns_annAt]
    show (get1 t.piu.slots i).bind _ = _
    rw [hslots]
    rfl
  refine ⟨fun i a ha hn => ?_, fun i b hb => ?_, fun hn => ⟨fun i a ha => ?_, fun c => ?_⟩⟩
  · rw [ann, withdrawAll_ends s (mem_runAnnouncements ha hn)]; rfl
  · rw [ann] at hb
    obtain ⟨c, hc, rfl⟩ := Option.map_eq_some_iff.1 hb
    obtain ⟨-, a, ha, terms⟩ := ((Played.refl s).withdrawAll s.runAnnouncements).live i c hc
    have spec : c.spec = a.spec := (congrArg Announcement.spec terms :)
    have expiry : c.expiryTimer = a.expiryTimer := (congrArg Announcement.expiryTimer terms :)
    exact ⟨a, ha, spec, rfl, expiry ▸ rfl⟩
  · rw [ann, runAnnouncements_eq_nil hn]
    exact congrArg (Option.map _) ha
  · obtain ⟨q, hq, perm⟩ := carryAnns_chan s at_ c
    refine ⟨q, ?_, perm⟩
    rw [← hq]
    show (get0 t.piu.channels c).getD _ = _
    rw [hchannels, State.dayLeft, runAnnouncements_eq_nil hn]
    rfl

end Sys2Proof.Machine
end

/-! ## END_DAY, CLOCK_END and the clock's last second -/

section
namespace Sys2Proof.Machine

variable {s : State}

/-! ### The rollover in SERVICE as a whole (R26) -/

/-- A notice that joins a pending list stands in it afterwards (R180). -/
theorem mem_join (c : ClientNotices) (n : Notice) : n ∈ (c.join n).list := by
  unfold ClientNotices.join
  split
  · next h =>
    obtain ⟨x, hx, same⟩ := List.any_eq_true.1 h
    exact List.mem_map.2 ⟨x, hx, if_pos same⟩
  · split <;> simp

/-- The REVOKE orders of the rollover, ascending by slot (R54). -/
def State.dayRevokes (a : State) : List Order :=
  (ids 128).filterMap fun i => (a.runAt i).bind fun x =>
    if x.state = .released then some (.revoke x.number (x.tpAt x.cur) ((a.reg i).releaseSegment.getD 0)) else none

/-- The BOARD_UPDATE orders of the rollover, ascending by timing point (R171). -/
def State.dayBoards (a : State) : List Order :=
  (ids 32).filterMap fun p => (look a.piu.boards p).map fun _ => boardOrder p Board.empty

/-- The state `a`, in which the announcements are carried, after the rollover of the Line Clock, the Run Table, the
tracker, the regulator and the power; `n` are the pending notices. -/
def State.midnight (a : State) (cause : RolloverCause) (at_ : Nat) (n : Vector ClientNotices 8) : State :=
  { a with
    lck := a.lck.rollover cause at_
    rtb := a.rtb.emptied a.allRuns
    mvt := a.mvt.rollover a.lds.params.tStale
    drg := a.drg.rolled
    tpc := a.tpc.rollover at_
    crp := { a.crp with notices := n }
    fli := { a.fli with releaseQ := a.fli.releaseQ ++ a.dayRevokes } }

/-- The same after the rollover of the incidents, the boards and the horizon watch; `b` is the Incident Table. -/
def State.newDay (a : State) (cause : RolloverCause) (at_ : Nat) (b : Itb) (n : Vector ClientNotices 8) : State :=
  { a.midnight cause at_ n with
    rtb := { a.rtb.emptied a.allRuns with horizonCount := 0, armed := decide (a.lds.params.lwm ≤ 0) }
    itb := b
    piu := { a.piu with boards := a.piu.boards.map (Option.map fun _ => Board.empty), dirty := [] }
    fli := { a.fli with
      releaseQ := a.fli.releaseQ ++ a.dayRevokes
      boardQ := a.fli.boardQ ++ a.dayBoards } }

theorem midnight_eq (a : State) (cause : RolloverCause) (at_ : Nat) : ∃ n,
    ((a.rolloverRuns.onLck fun c => c.rollover cause at_).onMvt fun m =>
      m.rollover a.lds.params.tStale).rolloverDrg.onTpc (fun p => p.rollover at_) = a.midnight cause at_ n := by
  obtain ⟨recs, hruns⟩ := rolloverRuns_eq a
  rw [hruns]
  obtain ⟨n, hdrg⟩ := rolloverDrg_eq _
  rw [hdrg]
  exact ⟨n, rfl⟩

/-- With the boards cleared the horizon watch finds no run, and the line event is posted (R50, R179). -/
theorem newDay_eq (a : State) (hs : a.inService = true) (cause : RolloverCause) (at_ : Nat) (b : Itb)
    (m : Vector ClientNotices 8) : ∃ n,
    (({ a.midnight cause at_ m with itb := b } : State).clearBoards.evalHorizon).postLineEvent .rollover =
      a.newDay cause at_ b n ∧
    ∀ k x, get0 a.lds.clients k = some x → x.configured = true →
      ∃ c, get0 n k = some c ∧ ⟨.lineEvent, 0, LineEvent.rollover.detail⟩ ∈ c.list := by
  obtain ⟨l, hl, -⟩ := evalHorizon_armed
    (s := ({ a.midnight cause at_ m with itb := b } : State).clearBoards) (by rw [clearBoards_eq]; exact hs)
    (by rw [clearBoards_eq]; rfl)
  have idle : ({ a.midnight cause at_ m with itb := b } : State).clearBoards.horizon = 0 :=
    horizon_of_noRuns fun i => by rw [clearBoards_eq]; exact emptied_noRun a i
  have watched : ({ a.midnight cause at_ m with itb := b } : State).clearBoards.evalHorizon =
      a.newDay cause at_ b l := by
    rw [hl, State.watched, idle, clearBoards_eq]
    rfl
  rw [watched]
  obtain ⟨n, hn⟩ := postWhere_onCrp (a.newDay cause at_ b l) ⟨.lineEvent, 0, LineEvent.rollover.detail⟩ fun _ => true
  refine ⟨n, hn, fun k x hx hc => ?_⟩
  have posted := postWhere_notices (s := a.newDay cause at_ b l) hx
    ⟨.lineEvent, 0, LineEvent.rollover.detail⟩ fun _ => true
  rw [hn] at posted
  obtain ⟨c, hcl⟩ := get0_isSome l (i := k) (by simpa [get0] using (List.getElem?_eq_some_iff.1 hx).1)
  refine ⟨_, posted.trans ((congrArg _ hcl).trans rfl), ?_⟩
  rw [hc]
  exact mem_join c _

theorem dayLeft_lds (s : State) (at_ : Nat) : (s.dayLeft at_).lds = s.lds :=
  (congrArg State.lds (dayLeft_quiet s at_) :)

theorem dayLeft_inService (s : State) (at_ : Nat) : (s.dayLeft at_).inService = s.inService := by
  rw [State.inService, dayLeft_lds]; rfl

theorem rolloverService_eq (hs : s.inService = true) (cause : RolloverCause) (at_ : Nat) : ∃ b n,
    s.rolloverService cause at_ = (s.dayLeft at_).newDay cause at_ b n ∧ (s.dayLeft at_).itb.Turned at_ b ∧
    ∀ k x, get0 (s.dayLeft at_).lds.clients k = some x → x.configured = true →
      ∃ c, get0 n k = some c ∧ ⟨.lineEvent, 0, LineEvent.rollover.detail⟩ ∈ c.list := by
  have service : (s.dayLeft at_).inService = true := (dayLeft_inService s at_).trans hs
  have lds (a : State) : (a.rolloverRuns.onLck fun c => c.rollover cause at_).lds = a.lds :=
    (onLck_lds _ _).trans (lds_of_kept (rolloverRuns_kept a))
  have opened : s.rolloverService cause at_ = (((((((s.dayLeft at_).rolloverRuns.onLck fun c =>
      c.rollover cause at_).onMvt fun m => m.rollover (s.dayLeft at_).lds.params.tStale).rolloverDrg).onTpc fun p =>
      p.rollover at_).rolloverItb at_).clearBoards.evalHorizon).postLineEvent .rollover := by
    unfold State.rolloverService
    dsimp only
    rw [← State.dayLeft, lds]
  obtain ⟨m, hm⟩ := midnight_eq (s.dayLeft at_) cause at_
  obtain ⟨b, o, hitb, turned⟩ :=
    rolloverItb_turned (s := (s.dayLeft at_).midnight cause at_ m) (emptied_noRun (s.dayLeft at_)) at_
  obtain ⟨n, hn, posted⟩ := newDay_eq (s.dayLeft at_) service cause at_ b o
  rw [hm, hitb] at opened
  exact ⟨b, n, opened.trans hn, turned, posted⟩

/-! ### What the state before the withdrawals tells of the one after them -/

section
variable {t : State}

theorem quiet_mvt (h : t.quiet = s.quiet) : t.mvt = s.mvt := (congrArg State.mvt h :)

theorem quiet_drg (h : t.quiet = s.quiet) : t.drg = s.drg := (congrArg State.drg h :)

theorem quiet_boards (h : t.quiet = s.quiet) : t.piu.boards = s.piu.boards := (congrArg (fun u => u.piu.boards) h :)

theorem quiet_runSlot (h : t.quiet = s.quiet) (i : Nat) :
    (get1 t.rtb.slots i).map RunSlot.quiet = (get1 s.rtb.slots i).map RunSlot.quiet := by
  rw [← get1_map, ← get1_map]
  exact congrArg (fun u : State => get1 u.rtb.slots i) h

theorem quiet_incSlot (h : t.quiet = s.quiet) (i : Nat) :
    (get1 t.itb.slots i).map IncSlot.quiet = (get1 s.itb.slots i).map IncSlot.quiet := by
  rw [← get1_map, ← get1_map]
  exact congrArg (fun u : State => get1 u.itb.slots i) h

/-- The orders of the rollover do not depend on the delay announcements. -/
theorem quiet_dayRevokes (h : t.quiet = s.quiet) : t.dayRevokes = s.dayRevokes := by
  have order (u : State) (i : Nat) : ((u.runAt i).bind fun x =>
      if x.state = .released then some (.revoke x.number (x.tpAt x.cur) ((u.reg i).releaseSegment.getD 0)) else none) =
      ((get1 u.rtb.slots i).map RunSlot.quiet).bind fun y => y.run.bind fun x =>
        if x.state = .released then some (Order.revoke x.number (x.tpAt x.cur) ((u.reg i).releaseSegment.getD 0))
        else none := by
    unfold State.runAt
    cases get1 u.rtb.slots i with
    | none => rfl
    | some y =>
      cases hy : y.run with
      | none => simp [hy, RunSlot.quiet]
      | some x =>
        simp only [hy, RunSlot.quiet, Option.bind_some, Option.map_some]
        rfl
  refine List.filterMap_congr fun i _ => ?_
  have reg : t.reg i = s.reg i := by unfold State.reg; rw [quiet_drg h]
  rw [order, order, quiet_runSlot h, reg]

theorem quiet_dayBoards (h : t.quiet = s.quiet) : t.dayBoards = s.dayBoards := by
  unfold State.dayBoards; rw [quiet_boards h]

/-- An incident slot in the new day by the slot as it was before the withdrawals. -/
theorem rolled_of_quiet {v w : IncSlot} (h : v.quiet = w.quiet) (at_ : Nat) :
    ((v.rolled at_).gen = if w.inc.any (fun z => z.state == .cleared) then (w.gen + 1) % 256 else w.gen) ∧
    (∀ x, w.inc = some x → x.state = .cleared → (v.rolled at_).inc = none) ∧
    ∀ x, w.inc = some x → x.state ≠ .cleared → v.inc.any (fun z => z.state == .cleared) = false ∧
      ∃ z, (v.rolled at_).inc = some z ∧ z.number = x.number ∧ z.state = x.state ∧ z.runs = [] ∧
        z.escalation = x.escalation.map (· - at_) ∧ z.restrictions = x.restrictions := by
  have gen : v.gen = w.gen := (congrArg IncSlot.gen h :)
  have inc : (v.inc.map fun i => { i with anns := [] }) = w.inc.map fun i => { i with anns := [] } :=
    (congrArg IncSlot.inc h :)
  cases hv : v.inc with
  | none =>
    have hw : w.inc = none := by simpa [hv] using inc.symm
    simp [IncSlot.rolled, hv, hw, gen]
  | some y =>
    obtain ⟨x, hw, same⟩ : ∃ x, w.inc = some x ∧ ({ x with anns := [] } : Incident) = { y with anns := [] } := by
      simpa [hv, Option.map_eq_some_iff] using inc.symm
    have state : x.state = y.state := (congrArg Incident.state same :)
    have number : x.number = y.number := (congrArg Incident.number same :)
    have escalation : x.escalation = y.escalation := (congrArg Incident.escalation same :)
    have restrictions : x.restrictions = y.restrictions := (congrArg Incident.restrictions same :)
    by_cases hc : y.state = .cleared
    · simp [IncSlot.rolled, IncSlot.retired, nextGen, hv, hw, gen, state, hc]
    · simp [IncSlot.rolled, hv, hw, gen, state, hc, Incident.carry, carryTimer, number, escalation, restrictions]

end

/-! ### The statement about the rollover in SERVICE -/

section
variable {t : State} {at_ : Nat} {b : Itb}

/-- The incidents that are not CLEARED are carried (R148). -/
theorem turned_carried (hb : (s.dayLeft at_).itb.Turned at_ b) (ht : t.itb = b) {i : Nat} {x : Incident}
    (hx : s.incAt i = some x) (hc : x.state ≠ .cleared) : ∃ z, t.incAt i = some z ∧ z.number = x.number ∧
      z.state = x.state ∧ z.runs = [] ∧ z.escalation = x.escalation.map (· - at_) ∧
      z.restrictions = x.restrictions := by
  obtain ⟨w, hw, hinc⟩ := Option.bind_eq_some_iff.1 hx
  obtain ⟨v, hv, same⟩ := Option.map_eq_some_iff.1 ((quiet_incSlot (dayLeft_quiet s at_) i).trans (congrArg _ hw))
  obtain ⟨-, -, carried⟩ := rolled_of_quiet same at_
  obtain ⟨stands, z, hz, fields⟩ := carried x hinc hc
  refine ⟨z, ?_, fields⟩
  rw [State.incAt, ht, hb.standing i v hv stands]
  exact hz

/-- The CLEARED incidents are retired (R145, R148). -/
theorem turned_retired (hb : (s.dayLeft at_).itb.Turned at_ b) (ht : t.itb = b) : ClearedRetired s t := by
  have before {i : Nat} {w : IncSlot} (hw : get1 s.itb.slots i = some w) :
      ∃ v, get1 (s.dayLeft at_).itb.slots i = some v ∧ v.quiet = w.quiet :=
    Option.map_eq_some_iff.1 ((quiet_incSlot (dayLeft_quiet s at_) i).trans (congrArg _ hw))
  subst ht
  refine ⟨fun i w y hw hy => ?_, fun i x hx hc z hz => ?_, fun hp i x hx hc => ?_⟩
  · obtain ⟨v, hv, same⟩ := before hw
    obtain ⟨u, hu, gen, -⟩ := hb.taken i y hy
    obtain ⟨hgen, -⟩ := rolled_of_quiet same at_
    cases hu.symm.trans hv
    exact gen.trans hgen
  · obtain ⟨w, hw, hinc⟩ := Option.bind_eq_some_iff.1 hx
    obtain ⟨v, hv, same⟩ := before hw
    obtain ⟨-, freed, -⟩ := rolled_of_quiet same at_
    obtain ⟨y, hy, hyz⟩ := Option.bind_eq_some_iff.1 hz
    obtain ⟨u, hu, -, taken⟩ := hb.taken i y hy
    cases hu.symm.trans hv
    rw [hyz, freed x hinc hc] at taken
    obtain empty | ⟨z', hz', auto⟩ := taken
    · cases empty
    · cases hz'
      exact auto
  · obtain ⟨w, hw, hinc⟩ := Option.bind_eq_some_iff.1 hx
    obtain ⟨v, hv, same⟩ := before hw
    obtain ⟨-, freed, -⟩ := rolled_of_quiet same at_
    have pending : (s.dayLeft at_).itb.pendingSet = s.itb.pendingSet :=
      (congrArg (fun u => u.itb.pendingSet) (dayLeft_quiet s at_) :)
    rw [State.incAt, hb.idle (by rw [pending]; exact hp) i, hv]
    exact freed x hinc hc

/-- The generations of the run slots (R30, R54). -/
theorem emptied_gen {i : Nat} {x y : RunSlot} (hx : get1 s.rtb.slots i = some x)
    (hy : get1 ((s.dayLeft at_).rtb.emptied (s.dayLeft at_).allRuns).slots i = some y) :
    y.gen = if x.run.isSome then (x.gen + 1) % 256 else x.gen := by
  obtain ⟨v, hv, same⟩ := Option.map_eq_some_iff.1 ((quiet_runSlot (dayLeft_quiet s at_) i).trans (congrArg _ hx))
  have gen : v.gen = x.gen := (congrArg RunSlot.gen same :)
  have run : v.run.isSome = x.run.isSome := by
    have h := congrArg (fun z => z.run.isSome) same
    simpa [RunSlot.quiet] using h
  rw [get1_emptied, hv] at hy
  cases hy
  show (if v.run.isSome = true then v.retired else v).gen = _
  rw [run]
  split <;> simp [RunSlot.retired, nextGen, gen]

end

theorem getD_get1_replicate {α : Type} (n i : Nat) (a : α) : (get1 (Vector.replicate n a) i).getD a = a := by
  cases h : get1 (Vector.replicate n a) i with
  | none => rfl
  | some x => exact get1_replicate_some h

/-- The queues are emptied; what holds a segment for its runs stays (R71). -/
theorem seg_of_rollover {t : State} {n : Nat} (h : t.mvt = s.mvt.rollover n) (g : Nat) :
    t.seg g = { s.seg g with queue := [] } := by
  unfold State.seg
  rw [h]
  show (get1 (s.mvt.segs.map _) g).getD _ = _
  rw [get1_map]
  cases get1 s.mvt.segs g <;> rfl

/-- What the rollover in SERVICE leaves once its event has ended, with the port as the event leaves it. -/
theorem dayCleared (hs : s.inService = true) {cause : RolloverCause} {at_ : Nat} {t : State} {c : Crp}
    (ht : t = { s.rolloverService cause at_ with crp := c, fli := (s.rolloverService cause at_).fli.startFrame })
    (hc : c.notices = (s.rolloverService cause at_).crp.notices) : DayCleared s t cause at_ := by
  obtain ⟨b, n, hday, turned, posted⟩ := rolloverService_eq hs cause at_
  rw [hday] at ht hc
  have quiet := dayLeft_quiet s at_
  have lds := dayLeft_lds s at_
  rw [lds] at posted
  subst ht
  refine ⟨?_, lds, (congrArg State.pending quiet :), emptied_noRun (s.dayLeft at_), fun i x y => emptied_gen, rfl,
    fun g => ?_, fun m => ?_, fun p => ?_, ?_, ?_, fun i => ?_, fun m => ?_, rfl, ?_, fun i => ?_, fun i x hx => ?_,
    fun i x hx => ?_, fun i x hx hcl => turned_carried turned rfl hx hcl, fun p d hd => ?_, ?_, ?_,
    turned_retired turned rfl, ?_, rfl, ?_, dayLeft_carried rfl rfl⟩
  · exact (congrArg (fun x : State => x.lck.rollover cause at_) quiet :)
  · rw [seg_of_rollover (s := s) (n := (s.dayLeft at_).lds.params.tStale)
      (by rw [← quiet_mvt quiet]; rfl) g]
    exact ⟨rfl, rfl, rfl⟩
  · exact getD_get1_replicate 2 m []
  · exact getD_get1_replicate 32 p TpLive.empty
  · exact (congrArg (fun u : State => u.mvt.stale) quiet :)
  · show some (s.dayLeft at_).lds.params.tStale = _
    rw [lds]
  · exact getD_get1_replicate 128 i RegRec.clear
  · exact getD_get1_replicate 2 m Arbiter.clear
  · exact (congrArg (fun u : State => if u.drg.mode = .halting then RegMode.manual else u.drg.mode) quiet :)
  · exact look_replicate_none 128 i
  · exact (look_map_map _ _ i).trans (congrArg _ ((congrArg (fun u : State => u.sub i) quiet).trans hx))
  · exact (look_map_map _ _ i).trans (congrArg _ ((congrArg (fun u : State => u.sec i) quiet).trans hx))
  · exact (look_map_map _ _ p).trans (congrArg _ ((congrArg (fun u => look u p) (quiet_boards quiet)).trans hd))
  · refine created_of_startFrame rfl ?_ (congrArg (fun u : State => u.fli.sending) quiet :)
    show (s.dayLeft at_).fli.releaseQ ++ (s.dayLeft at_).dayRevokes = _
    rw [quiet_dayRevokes quiet]
    exact congrArg (· ++ s.dayRevokes) (congrArg (fun u : State => u.fli.releaseQ) quiet :)
  · refine created_of_startFrame rfl ?_ (congrArg (fun u : State => u.fli.sending) quiet :)
    show (s.dayLeft at_).fli.boardQ ++ (s.dayLeft at_).dayBoards = _
    rw [quiet_dayBoards quiet]
    exact congrArg (· ++ s.dayBoards) (congrArg (fun u : State => u.fli.boardQ) quiet :)
  · show ∀ k x, _ → _ → ∃ m, get0 c.notices k = some m ∧ _
    rw [hc]
    exact posted
  · show decide ((s.dayLeft at_).lds.params.lwm ≤ 0) = _
    rw [lds]
    simp

/-- The rollover in SERVICE touches the notices alone of the Crew and Regulation Port, and leaves no board marked. -/
theorem rolloverService_clean (hs : s.inService = true) (cause : RolloverCause) (at_ : Nat) :
    (s.rolloverService cause at_).piu.dirty = [] ∧
      ∃ n, (s.rolloverService cause at_).crp = { s.crp with notices := n } := by
  obtain ⟨b, n, hday, -⟩ := rolloverService_eq hs cause at_
  rw [hday]
  exact ⟨rfl, n, (congrArg (fun u : State => { u.crp with notices := n }) (dayLeft_quiet s at_) :)⟩

/-! ### The statement's rows -/

/-- The clock's end in SERVICE (R27). -/
theorem endOfClock_service (hs : s.inService = true) : DayCleared s s.endOfClock .clockEnd 107999 := by
  obtain ⟨clean, -⟩ := rolloverService_clean hs .clockEnd 107999
  refine dayCleared hs ?_ rfl
  show (s.rollover .clockEnd 107999).finish = _
  rw [State.rollover, if_pos hs, finish_clean _ clean]

/-- The clock's end in SETUP. -/
theorem endOfClock_setup (he : BetweenEvents s) (hs : s.inService = false) :
    s.endOfClock = { s.rolloverSetup .clockEnd 107999 with fli := s.fli.startFrame } := by
  show (s.rollover .clockEnd 107999).finish = _
  rw [State.rollover, if_neg (by simp [hs])]
  exact finish_clean _ he

/-- From the clock's last second on both commands of the clock take its end. -/
theorem exec_clock_end (h : 107998 ≤ s.lck.clock) {c : Instr} (hc : c ∈ [Instr.clockAdvance, Instr.clockEnd]) :
    exec c s = .next s.endOfClock := by
  have past : ¬s.now < lastSecond := Nat.not_lt.2 h
  obtain rfl | rfl : c = .clockAdvance ∨ c = .clockEnd := by simpa using hc
  · show execClockAdvance s = _
    rw [execClockAdvance, if_neg past]
  · show execClockEnd s = _
    rw [execClockEnd, if_neg past]

/-- With no board marked, the event of an answered request ends with the line alone. -/
theorem writeAnswer_finish (h : s.piu.dirty = []) (answer : List Byte) :
    (s.writeAnswer answer).finish = { s with crp := (s.writeAnswer answer).crp, fli := s.fli.startFrame } :=
  finish_clean (s.writeAnswer answer) h

theorem settleEndDay_setup (r : Req) (hs : s.inService = false) : settleEndDay r s = s.reply .badState := by
  rw [settleEndDay, if_pos (by simp [hs])]

theorem settleEndDay_other {r : Req} (hs : s.inService = true) (hd : r.u16 0 ≠ s.lck.day) :
    settleEndDay r s = s.reply .tooLate := by
  rw [settleEndDay, if_neg (by simp [hs]), if_pos hd]

theorem settleEndDay_now {r : Req} (hs : s.inService = true) (hd : r.u16 0 = s.lck.day) :
    settleEndDay r s = (⟨.ok, none, []⟩, s.rolloverService .endDay s.lck.clock) := by
  rw [settleEndDay, if_neg (by simp [hs]), if_neg (not_not.2 hd), State.rollover, if_pos hs]
  rfl

/-- END_DAY for the day the clock shows (R28). -/
theorem exec_endDay_now {r : Req} (hp : Passes s .endDay r) (hs : s.inService = true) (hd : r.u16 0 = s.lck.day) :
    ∃ t, exec (.endDay r) s = .next t ∧ Answers s t .endDay r .ok 0 [] ∧ DayCleared s t .endDay s.lck.clock := by
  obtain ⟨clean, kept⟩ := rolloverService_clean (s := s.recordRequest ReqKind.endDay.code r) hs .endDay s.lck.clock
  obtain ⟨t, ht, hfin, hans⟩ := next_answers (f := settleEndDay r) hp
    (settleEndDay_now (s := s.recordRequest ReqKind.endDay.code r) hs hd) kept rfl
  refine ⟨t, ht, hans, ?_⟩
  have cleared : DayCleared (s.recordRequest ReqKind.endDay.code r) t .endDay s.lck.clock :=
    dayCleared (s := s.recordRequest ReqKind.endDay.code r) hs (hfin.trans (writeAnswer_finish clean _)) rfl
  exact cleared

/-- Settles O28: the clock's end and END_DAY by the state that the rollover leaves, and the refusals of END_DAY. -/
theorem dayRollsOver : Obligations.DayRollsOver := by
  refine fun s he => ⟨fun hs h => ⟨⟨_, exec_clock_end h (by simp), endOfClock_service hs⟩,
      ⟨_, exec_clock_end h (by simp), endOfClock_service hs⟩⟩, fun hs h c hc => ⟨_, exec_clock_end h hc, ?_⟩,
    fun r hp => ⟨fun hs => ?_, fun hs hd => ?_, exec_endDay_now hp⟩⟩
  · rw [endOfClock_setup he hs]
    exact ⟨rfl, rfl, rfl, rfl, rfl, rfl, rfl, rfl, rfl, fun i a ha =>
      (carryAnns_annAt s 107999 i).trans (congrArg _ ha)⟩
  · exact next_reply (f := settleEndDay r) hp he rfl (settleEndDay_setup (s := s.recordRequest _ r) r hs)
  · exact next_reply (f := settleEndDay r) hp he rfl (settleEndDay_other (s := s.recordRequest _ r) hs hd)

end Sys2Proof.Machine
end

/-! ## The run table and the links: what the invariants read of a state (R35, R46, R55, R75, R111, R139) -/

section
namespace Sys2Proof.Machine

/-! ### The ledger -/

/-- What the run table's invariants read of a live run. -/
structure RunEntry where
  handle    : Nat
  number    : Nat
  state     : RunState
  incidents : List Nat

/-- What the invariants of the run table and of the links read of a state: the live runs, the live incidents as handle
and linked runs, the released count, the segment queues, the handles in the wait queues, and whether it is SERVICE. -/
structure Ledger where
  run      : Nat → Option RunEntry
  inc      : Nat → Option (Nat × List Nat)
  released : Nat
  queue    : Nat → List Nat
  wait     : Nat → List Nat
  service  : Bool

/-- The entry of a live run under a handle. -/
def Run.entry (x : Run) (h : Nat) : RunEntry := ⟨h, x.number, x.state, x.incidents⟩

/-- The ledger of a state. -/
def State.ledger (s : State) : Ledger where
  run i := (s.runAt i).map fun x => x.entry (s.runHandle i)
  inc i := (s.incAt i).map fun x => (s.incHandle i, x.runs)
  released := s.drg.releasedCount
  queue g := (s.seg g).queue
  wait k := (s.sub k).elim [] fun x => x.queue.map (·.run)
  service := s.inService

/-- A run's entry with another state. -/
def RunEntry.to (e : RunEntry) (st : RunState) : RunEntry := { e with state := st }

/-- The ledger with another state of the run in a slot. -/
def Ledger.setState (l : Ledger) (i : Nat) (st : RunState) : Ledger :=
  { l with run := fun j => if i = j then (l.run j).map (·.to st) else l.run j }

/-- The ledger without a handle in the wait queues. -/
def Ledger.unwait (l : Ledger) (h : Nat) : Ledger := { l with wait := fun k => (l.wait k).filter (· != h) }

/-! ### The ledger and the handles -/

variable {s t : State}

theorem ledger_run_eq_some {i : Nat} {e : RunEntry} :
    s.ledger.run i = some e ↔ ∃ x, s.runAt i = some x ∧ e = x.entry (s.runHandle i) := by
  simp [State.ledger, eq_comm]

theorem ledger_run {i : Nat} {x : Run} (h : s.runAt i = some x) : s.ledger.run i = some (x.entry (s.runHandle i)) :=
  ledger_run_eq_some.2 ⟨x, h, rfl⟩

theorem ledger_run_none {i : Nat} : s.ledger.run i = none ↔ s.runAt i = none := by
  simp [State.ledger]

/-! ### What the invariants say of a ledger -/

/-- Lists of handles, one for each number: every handle has a property, stands once in its list and in no other. -/
def Listed (p : Nat → Prop) (f : Nat → List Nat) : Prop :=
  (∀ g, (f g).Nodup ∧ ∀ h ∈ f g, p h) ∧ ∀ g k h, h ∈ f g → h ∈ f k → g = k

/-- A handle is that of a live run in one of the states that a test admits. -/
def Ledger.names (l : Ledger) (p : RunState → Prop) (h : Nat) : Prop := ∃ i e, l.run i = some e ∧ e.handle = h ∧ p e.state

/-- The states in which a run stands on the track (R55). -/
def RunState.onTrack (st : RunState) : Prop := st = .running ∨ st = .cancelled

/-- The number of RELEASED runs. -/
def Ledger.countReleased (l : Ledger) : Nat :=
  ((ids 128).filter fun i => (l.run i).any fun e => e.state == .released).length

/-- The run table's invariant, and of the wait queues that each run in them is HELD and waits once: what every part of
an event keeps (R35, R55, R75, R111). -/
structure Ledger.Sound (l : Ledger) : Prop where
  handles : ∀ i j e f, l.run i = some e → l.run j = some f → e.handle = f.handle → i = j
  range   : ∀ i e, l.run i = some e → 1 ≤ e.number ∧ e.number ≤ 9999
  numbers : ∀ i j e f, l.run i = some e → l.run j = some f → e.number = f.number → i = j
  count   : l.released = l.countReleased
  queues  : Listed (l.names RunState.onTrack) l.queue
  waits   : Listed (l.names (· = .held)) l.wait
  setup   : l.service = false → ∀ i, l.run i = none

theorem ledger_slots {i : Nat} {e : RunEntry} (h : s.ledger.run i = some e) : i ∈ ids 128 := by
  obtain ⟨x, hx, -⟩ := ledger_run_eq_some.1 h
  exact mem_ids.2 (runAt_range hx)

theorem ledger_handles {i j : Nat} {e f : RunEntry} (hi : s.ledger.run i = some e) (hj : s.ledger.run j = some f)
    (h : e.handle = f.handle) : i = j := by
  obtain ⟨x, hx, rfl⟩ := ledger_run_eq_some.1 hi
  obtain ⟨y, hy, rfl⟩ := ledger_run_eq_some.1 hj
  by_contra hne
  exact runHandle_ne (runAt_range hx).2 (runAt_range hy).2 hne h

theorem ledger_countReleased :
    s.ledger.countReleased = ((ids 128).filter fun i => (s.runAt i).any fun x => x.state == .released).length := by
  refine congrArg List.length (List.filter_congr fun i _ => ?_)
  simp only [State.ledger]
  cases s.runAt i <;> rfl

theorem ledger_names {p : RunState → Prop} {h : Nat} :
    s.ledger.names p h ↔ ∃ i x, s.resolveRun h = .live i ∧ s.runAt i = some x ∧ p x.state := by
  constructor
  · rintro ⟨i, e, he, rfl, hp⟩
    obtain ⟨x, hx, rfl⟩ := ledger_run_eq_some.1 he
    exact ⟨i, x, resolveRun_runHandle hx, hx, hp⟩
  · rintro ⟨i, x, hl, hx, hp⟩
    exact ⟨i, _, ledger_run hx, (resolveRun_live hl).1.symm, hp⟩

/-- A sound run table with runs that wait as they should has a sound ledger. -/
theorem sound_of_runTableSound (hw : WaitingRuns s) (h : RunTableSound s) : s.ledger.Sound := by
  obtain ⟨range, numbers, count, queues, unique, setup⟩ := h
  obtain ⟨waits, once⟩ := hw
  refine ⟨fun i j e f => ledger_handles, fun i e he => ?_, fun i j e f he hf hn => ?_, ?_, ⟨fun g => ?_, unique⟩,
    ⟨fun k => ?_, fun k l h hk hl => ?_⟩, fun hs i => ledger_run_none.2 (setup hs i)⟩
  · obtain ⟨x, hx, rfl⟩ := ledger_run_eq_some.1 he
    exact range i x hx
  · obtain ⟨x, hx, rfl⟩ := ledger_run_eq_some.1 he
    obtain ⟨y, hy, rfl⟩ := ledger_run_eq_some.1 hf
    exact numbers i j x y hx hy hn
  · rw [ledger_countReleased]; exact count
  · obtain ⟨nodup, listed⟩ := queues g
    exact ⟨nodup, fun h hh => ledger_names.2 (listed h hh)⟩
  · show ((s.sub k).elim [] _).Nodup ∧ ∀ h ∈ (s.sub k).elim [] _, _
    cases hk : s.sub k with
    | none => simp
    | some z =>
      obtain ⟨nodup, listed⟩ := waits k z hk
      refine ⟨nodup, fun h hh => ledger_names.2 ?_⟩
      obtain ⟨e, he, rfl⟩ := List.mem_map.1 hh
      obtain ⟨i, x, hl, hx, hst, -⟩ := listed e he
      exact ⟨i, x, hl, hx, hst⟩
  · have entry {k h : Nat} (hk : h ∈ s.ledger.wait k) : ∃ z, s.sub k = some z ∧ ∃ e ∈ z.queue, e.run = h := by
      simp only [State.ledger] at hk
      cases hz : s.sub k with
      | none => simp [hz] at hk
      | some z => exact ⟨z, rfl, by simpa [hz] using hk⟩
    obtain ⟨y, hy, a, ha, rfl⟩ := entry hk
    obtain ⟨z, hz, b, hb, he⟩ := entry hl
    exact once k l y z hy hz a ha b hb he.symm

/-- A sound ledger is that of a sound run table. -/
theorem runTableSound_of_sound (h : s.ledger.Sound) : RunTableSound s := by
  refine ⟨fun i x hx => h.range i _ (ledger_run hx),
    fun i j x y hx hy hn => h.numbers i j _ _ (ledger_run hx) (ledger_run hy) hn,
    ledger_countReleased ▸ h.count, fun g => ⟨(h.queues.1 g).1, fun k hk => ledger_names.1 ((h.queues.1 g).2 k hk)⟩,
    h.queues.2, fun hs i => ledger_run_none.1 (h.setup hs i)⟩

/-! ### Links -/

/-- The runs and incidents with their links alone. -/
def Ledger.links (l : Ledger) : (Nat → Option (Nat × List Nat)) × (Nat → Option (Nat × List Nat)) :=
  (fun i => (l.run i).map fun e => (e.handle, e.incidents), l.inc)

/-- Records with a handle and a list of handles list those of another kind only where these list them back, at most four
and none twice (R46, R139). -/
def Mutual (a b : Nat → Option (Nat × List Nat)) : Prop :=
  ∀ i h l, a i = some (h, l) → l.length ≤ 4 ∧ l.Nodup ∧ ∀ k ∈ l, ∃ j m, b j = some (k, m) ∧ h ∈ m

theorem links_run {i h : Nat} {l : List Nat} :
    s.ledger.links.1 i = some (h, l) ↔ ∃ x, s.runAt i = some x ∧ s.runHandle i = h ∧ x.incidents = l := by
  simp only [Ledger.links, State.ledger]
  cases s.runAt i <;> simp [Run.entry]

theorem links_inc {i h : Nat} {l : List Nat} :
    s.ledger.links.2 i = some (h, l) ↔ ∃ x, s.incAt i = some x ∧ s.incHandle i = h ∧ x.runs = l := by
  simp only [Ledger.links, State.ledger]
  cases s.incAt i <;> simp

/-- The runs' side of the agreement, said of the ledger. -/
theorem mutual_runs : Mutual s.ledger.links.1 s.ledger.links.2 ↔ ∀ j y, s.runAt j = some y →
    y.incidents.length ≤ 4 ∧ y.incidents.Nodup ∧ ∀ h ∈ y.incidents, ∃ i x, s.resolveInc h = .live i ∧
      s.incAt i = some x ∧ s.runHandle j ∈ x.runs := by
  constructor
  · intro h j y hy
    obtain ⟨len, nodup, back⟩ := h j _ _ (links_run.2 ⟨y, hy, rfl, rfl⟩)
    refine ⟨len, nodup, fun k hk => ?_⟩
    obtain ⟨i, m, hi, hm⟩ := back k hk
    obtain ⟨x, hx, rfl, rfl⟩ := links_inc.1 hi
    exact ⟨i, x, resolveInc_incHandle hx, hx, hm⟩
  · intro h j k l hj
    obtain ⟨y, hy, rfl, rfl⟩ := links_run.1 hj
    obtain ⟨len, nodup, back⟩ := h j y hy
    refine ⟨len, nodup, fun k hk => ?_⟩
    obtain ⟨i, x, hl, hx, hm⟩ := back k hk
    exact ⟨i, _, links_inc.2 ⟨x, hx, (resolveInc_live hl).1.symm, rfl⟩, hm⟩

/-- The incidents' side of the agreement, said of the ledger. -/
theorem mutual_incs : Mutual s.ledger.links.2 s.ledger.links.1 ↔ ∀ i x, s.incAt i = some x →
    x.runs.length ≤ 4 ∧ x.runs.Nodup ∧ ∀ h ∈ x.runs, ∃ j y, s.resolveRun h = .live j ∧ s.runAt j = some y ∧
      s.incHandle i ∈ y.incidents := by
  constructor
  · intro h i x hx
    obtain ⟨len, nodup, back⟩ := h i _ _ (links_inc.2 ⟨x, hx, rfl, rfl⟩)
    refine ⟨len, nodup, fun k hk => ?_⟩
    obtain ⟨j, m, hj, hm⟩ := back k hk
    obtain ⟨y, hy, rfl, rfl⟩ := links_run.1 hj
    exact ⟨j, y, resolveRun_runHandle hy, hy, hm⟩
  · intro h i k l hi
    obtain ⟨x, hx, rfl, rfl⟩ := links_inc.1 hi
    obtain ⟨len, nodup, back⟩ := h i x hx
    refine ⟨len, nodup, fun k hk => ?_⟩
    obtain ⟨j, y, hl, hy, hm⟩ := back k hk
    exact ⟨j, _, links_run.2 ⟨y, hy, (resolveRun_live hl).1.symm, rfl⟩, hm⟩

/-- The agreement of the links, said of the ledger. -/
theorem linksAgree_iff : LinksAgree s ↔
    Mutual s.ledger.links.2 s.ledger.links.1 ∧ Mutual s.ledger.links.1 s.ledger.links.2 := by
  rw [mutual_runs, mutual_incs, LinksAgree]

/-! ### What an update shows in the ledger -/

/-- The same runs, incidents, counts and lists make the same ledger. -/
theorem ledger_congr (hrun : ∀ i, t.ledger.run i = s.ledger.run i) (hinc : ∀ i, t.ledger.inc i = s.ledger.inc i)
    (hcount : t.drg.releasedCount = s.drg.releasedCount) (hqueue : ∀ g, (t.seg g).queue = (s.seg g).queue)
    (hwait : ∀ k, t.ledger.wait k = s.ledger.wait k) (hservice : t.inService = s.inService) : t.ledger = s.ledger := by
  show Ledger.mk t.ledger.run t.ledger.inc _ (fun g => _) t.ledger.wait _ =
    Ledger.mk s.ledger.run s.ledger.inc _ (fun g => _) s.ledger.wait _
  rw [funext hrun, funext hinc, hcount, funext hqueue, funext hwait, hservice]

theorem modRun_runAt (s : State) (i j : Nat) (f : Run → Run) :
    (s.modRun i f).runAt j = if i = j then (s.runAt j).map f else s.runAt j := by
  show (get1 (mod1 s.rtb.slots i _) j).bind (·.run) = _
  rw [get1_mod1]
  split
  · simp only [State.runAt]
    cases get1 s.rtb.slots j <;> rfl
  · rfl

theorem modRun_runHandle (s : State) (i j : Nat) (f : Run → Run) : (s.modRun i f).runHandle j = s.runHandle j := by
  show mkHandle ((get1 (mod1 s.rtb.slots i _) j).elim 0 (·.gen)) j = _
  rw [get1_mod1]
  split
  · simp only [State.runHandle]
    cases get1 s.rtb.slots j <;> rfl
  · rfl

/-- A change of a run, as the ledger shows it. -/
theorem modRun_ledger_run (s : State) (i j : Nat) (f : Run → Run) : (s.modRun i f).ledger.run j =
    if i = j then (s.runAt j).map fun x => (f x).entry (s.runHandle j) else s.ledger.run j := by
  simp only [State.ledger, modRun_runAt, modRun_runHandle]
  split <;> simp [Function.comp_def]

/-- A change of a run, as the ledger shows it: nothing but the run's own entry. -/
theorem modRun_ledger (s : State) (i : Nat) (f : Run → Run) : (s.modRun i f).ledger = { s.ledger with
    run := fun j => if i = j then (s.runAt j).map fun x => (f x).entry (s.runHandle j) else s.ledger.run j } := by
  rw [← funext fun j => modRun_ledger_run s i j f]
  rfl

/-- A change of a run of which the invariants read nothing. -/
theorem modRun_ledger_same (s : State) (i : Nat) {f : Run → Run} (h : ∀ x k, (f x).entry k = x.entry k) :
    (s.modRun i f).ledger = s.ledger := by
  rw [modRun_ledger]
  simp only [h]
  have : (fun j => if i = j then (s.runAt j).map fun x => x.entry (s.runHandle j) else s.ledger.run j) = s.ledger.run :=
    funext fun j => ite_self _
  rw [this]

/-- A change of a run's state. -/
theorem modRun_ledger_state (s : State) (i : Nat) {f : Run → Run} {st : RunState}
    (h : ∀ x k, (f x).entry k = (x.entry k).to st) : (s.modRun i f).ledger = s.ledger.setState i st := by
  rw [modRun_ledger]
  refine congrArg (fun r => { s.ledger with run := r }) (funext fun j => ?_)
  simp only [h]
  split
  · show _ = ((s.runAt j).map _).map _
    rw [Option.map_map]; rfl
  · rfl

theorem modInc_incAt (s : State) (i j : Nat) (f : Incident → Incident) :
    (s.modInc i f).incAt j = if i = j then (s.incAt j).map f else s.incAt j := by
  show (get1 (mod1 s.itb.slots i _) j).bind (·.inc) = _
  rw [get1_mod1]
  split
  · simp only [State.incAt]
    cases get1 s.itb.slots j <;> rfl
  · rfl

theorem modInc_incHandle (s : State) (i j : Nat) (f : Incident → Incident) :
    (s.modInc i f).incHandle j = s.incHandle j := by
  show mkHandle ((get1 (mod1 s.itb.slots i _) j).elim 0 (·.gen)) j = _
  rw [get1_mod1]
  split
  · simp only [State.incHandle]
    cases get1 s.itb.slots j <;> rfl
  · rfl

/-- A change of an incident, as the ledger shows it. -/
theorem modInc_ledger (s : State) (i : Nat) (f : Incident → Incident) : (s.modInc i f).ledger = { s.ledger with
    inc := fun j => if i = j then (s.incAt j).map fun x => (s.incHandle j, (f x).runs) else s.ledger.inc j } := by
  have : (s.modInc i f).ledger.inc = fun j =>
      if i = j then (s.incAt j).map fun x => (s.incHandle j, (f x).runs) else s.ledger.inc j := by
    funext j
    simp only [State.ledger, modInc_incAt, modInc_incHandle]
    split <;> simp [Function.comp_def]
  rw [← this]
  rfl

/-- A change of an incident that leaves its linked runs. -/
theorem modInc_ledger_same (s : State) (i : Nat) {f : Incident → Incident} (h : ∀ x, (f x).runs = x.runs) :
    (s.modInc i f).ledger = s.ledger := by
  rw [modInc_ledger]
  simp only [h]
  have : (fun j => if i = j then (s.incAt j).map fun x => (s.incHandle j, x.runs) else s.ledger.inc j) = s.ledger.inc :=
    funext fun j => ite_self _
  rw [this]

/-- A change of a substation, as the ledger shows it. -/
theorem modSub_ledger (s : State) (i : Nat) (f : SubLive → SubLive) : (s.modSub i f).ledger = { s.ledger with
    wait := fun k => if i = k then (s.sub k).elim [] fun x => (f x).queue.map (·.run) else s.ledger.wait k } := by
  have : (s.modSub i f).ledger.wait = fun k =>
      if i = k then (s.sub k).elim [] fun x => (f x).queue.map (·.run) else s.ledger.wait k := by
    funext k
    show (look (modLook s.tpc.subs i f) k).elim [] _ = _
    rw [look_modLook]
    split
    · show ((s.sub k).map f).elim [] _ = _
      cases s.sub k <;> rfl
    · rfl
  rw [← this]
  rfl

/-- A change of a substation that leaves its wait queue. -/
theorem modSub_ledger_same (s : State) (i : Nat) {f : SubLive → SubLive} (h : ∀ x, (f x).queue = x.queue) :
    (s.modSub i f).ledger = s.ledger := by
  rw [modSub_ledger]
  simp only [h]
  have : (fun k => if i = k then (s.sub k).elim [] fun x => x.queue.map (·.run) else s.ledger.wait k) = s.ledger.wait :=
    funext fun k => ite_self _
  rw [this]

/-- A change of a segment, as the ledger shows it. -/
theorem modSeg_seg (s : State) (i g : Nat) (f : SegLive → SegLive) : (s.modSeg i f).seg g =
    if i = g then ((get1 s.mvt.segs g).map f).getD ⟨[], 0, []⟩ else s.seg g := by
  show (get1 (mod1 s.mvt.segs i f) g).getD _ = _
  rw [get1_mod1]
  split <;> rfl

theorem modSeg_ledger_same (s : State) (i : Nat) {f : SegLive → SegLive} (h : ∀ x, (f x).queue = x.queue) :
    (s.modSeg i f).ledger = s.ledger := by
  refine ledger_congr (fun _ => rfl) (fun _ => rfl) rfl (fun g => ?_) (fun _ => rfl) rfl
  rw [modSeg_seg]
  split
  · simp only [State.seg]
    cases get1 s.mvt.segs g <;> simp [h]
  · rfl

end Sys2Proof.Machine
end

/-! ## The parts of an event that the run table and the links do not show -/

section
namespace Sys2Proof.Machine
variable {s t : State}

/-! ### Updates of one block or record -/

@[simp] theorem onLck_ledger (s : State) (f : Lck → Lck) : (s.onLck f).ledger = s.ledger := rfl
@[simp] theorem onPiu_ledger (s : State) (f : Piu → Piu) : (s.onPiu f).ledger = s.ledger := rfl
@[simp] theorem onCrp_ledger (s : State) (f : Crp → Crp) : (s.onCrp f).ledger = s.ledger := rfl
@[simp] theorem onFli_ledger (s : State) (f : Fli → Fli) : (s.onFli f).ledger = s.ledger := rfl
@[simp] theorem modReg_ledger (s : State) (i : Nat) (f : RegRec → RegRec) : (s.modReg i f).ledger = s.ledger := rfl
@[simp] theorem modArbiter_ledger (s : State) (m : Nat) (f : Arbiter → Arbiter) :
    (s.modArbiter m f).ledger = s.ledger := rfl
@[simp] theorem modTp_ledger (s : State) (p : Nat) (f : TpLive → TpLive) : (s.modTp p f).ledger = s.ledger := rfl
@[simp] theorem modMergeList_ledger (s : State) (m : Nat) (f : List Nat → List Nat) :
    (s.modMergeList m f).ledger = s.ledger := rfl
@[simp] theorem modSec_ledger (s : State) (k : Nat) (f : SecLive → SecLive) : (s.modSec k f).ledger = s.ledger := rfl
@[simp] theorem putClaim_ledger (s : State) (i : Nat) (c : Option Claim) : (s.putClaim i c).ledger = s.ledger := rfl
@[simp] theorem modChan_ledger (s : State) (c : Nat) (f : Channel → Channel) : (s.modChan c f).ledger = s.ledger := rfl
@[simp] theorem modAnn_ledger (s : State) (i : Nat) (f : Announcement → Announcement) :
    (s.modAnn i f).ledger = s.ledger := rfl
@[simp] theorem markBoard_ledger (s : State) (p : Nat) : (s.markBoard p).ledger = s.ledger := rfl
@[simp] theorem markAllBoards_ledger (s : State) : s.markAllBoards.ledger = s.ledger := rfl
@[simp] theorem order_ledger (s : State) (o : Order) : (s.order o).ledger = s.ledger := rfl
@[simp] theorem countUnmatched_ledger (s : State) : s.countUnmatched.ledger = s.ledger := rfl
@[simp] theorem modCounters_ledger (s : State) (k : Nat) (f : Counters → Counters) :
    (s.modCounters k f).ledger = s.ledger := rfl
@[simp] theorem modDesk_ledger (s : State) (d : Nat) (f : List Nat → List Nat) : (s.modDesk d f).ledger = s.ledger := rfl

@[simp] theorem ite_ledger (p : Prop) [Decidable p] (a b : State) :
    (if p then a else b).ledger = if p then a.ledger else b.ledger := by split <;> rfl

/-- A fold shows nothing where its step shows nothing. -/
theorem foldl_ledger {α : Type} {f : State → α → State} (h : ∀ t a, (f t a).ledger = t.ledger) (l : List α)
    (s : State) : (l.foldl f s).ledger = s.ledger := foldl_same State.ledger f h l s

@[simp] theorem postTo_ledger (s : State) (n : Notice) (c : Nat) : (s.postTo n c).ledger = s.ledger := by
  simp [State.postTo]

@[simp] theorem postWhere_ledger (s : State) (n : Notice) (p : Client → Bool) : (s.postWhere n p).ledger = s.ledger :=
  foldl_ledger (fun t c => by simp) _ s

@[simp] theorem postDesk_ledger (s : State) (d h : Nat) : (s.postDesk d h).ledger = s.ledger := postWhere_ledger ..
@[simp] theorem postLineEvent_ledger (s : State) (e : LineEvent) : (s.postLineEvent e).ledger = s.ledger :=
  postWhere_ledger ..

/-! ### Announcements (R149 to R168) -/

theorem quiet_ledger (s : State) : s.quiet.ledger = s.ledger := by
  have slot (i : Nat) : get1 s.quiet.rtb.slots i = (get1 s.rtb.slots i).map RunSlot.quiet := get1_map ..
  have inc (i : Nat) : get1 s.quiet.itb.slots i = (get1 s.itb.slots i).map IncSlot.quiet := get1_map ..
  refine ledger_congr (fun i => ?_) (fun i => ?_) rfl (fun _ => rfl) (fun _ => rfl) rfl
  · simp only [State.ledger, State.runAt, State.runHandle, slot]
    rcases get1 s.rtb.slots i with _ | ⟨g, _ | r⟩ <;> rfl
  · simp only [State.ledger, State.incAt, State.incHandle, inc]
    rcases get1 s.itb.slots i with _ | ⟨g, _ | r⟩ <;> rfl

/-- What endings and service leave alone includes all that the invariants read. -/
theorem ledger_of_quiet (h : t.quiet = s.quiet) : t.ledger = s.ledger := by rw [← quiet_ledger t, h, quiet_ledger]

@[simp] theorem withdrawAll_ledger (s : State) (hs : List Nat) : (s.withdrawAll hs).ledger = s.ledger :=
  ledger_of_quiet ((Played.refl s).withdrawAll hs).quiet

@[simp] theorem withdraw_ledger (s : State) (h : Nat) : (s.withdraw h).ledger = s.ledger :=
  ledger_of_quiet ((Played.refl s).withdrawServing [] h).quiet

@[simp] theorem endAndServe_ledger (s : State) (i : Nat) (why : EndReason) : (s.endAndServe i why).ledger = s.ledger :=
  ledger_of_quiet ((Played.refl s).endServing [] i why).quiet

@[simp] theorem occurrenceDone_ledger (s : State) (i : Nat) : (s.occurrenceDone i).ledger = s.ledger :=
  ledger_of_quiet ((Played.refl s).occurrenceDone i).quiet

@[simp] theorem serveChannel_ledger (s : State) (c : Nat) : (s.serveChannel c).ledger = s.ledger :=
  ledger_of_quiet ((Played.refl s).serveChannel c).quiet

@[simp] theorem serveOrHalt_ledger (s : State) (c : Nat) : (s.serveOrHalt c).ledger = s.ledger :=
  ledger_of_quiet ((Played.refl s).serveOrHalt c).quiet

@[simp] theorem enqueue_ledger (s : State) (h c due : Nat) : (s.enqueue h c due).ledger = s.ledger := by
  simp only [State.enqueue, modChan_ledger, State.modAnnOf]
  split <;> rfl

@[simp] theorem markRun_ledger (s : State) (i : Nat) (r : Run) : (s.markRun i r).ledger = s.ledger :=
  foldl_ledger (fun t p => by simp) _ _

@[simp] theorem endRun_ledger (s : State) (i : Nat) : (s.endRun i).ledger = s.ledger := by
  unfold State.endRun; split <;> simp

@[simp] theorem createAnn_ledger (s : State) (x : AnnSpec) (o : Owner) (inc run : Option Nat) :
    (s.createAnn x o inc run).1.ledger = s.ledger := by
  simp only [State.createAnn]; split <;> simp

@[simp] theorem startAnn_ledger (s : State) (h : Nat) : (s.startAnn h).ledger = s.ledger := by
  unfold State.startAnn; split <;> simp

theorem modRun_autoDelay_ledger (s : State) (i : Nat) (a : Option Nat) :
    (s.modRun i fun r => { r with autoDelay := a }).ledger = s.ledger := modRun_ledger_same s i fun _ _ => rfl

@[simp] theorem postDelay_ledger (s : State) (i : Nat) (r : Run) : (s.postDelay i r).ledger = s.ledger := by
  have created := createAnn_ledger s (s.delaySpec (s.runHandle i)) .engine none (some (s.runHandle i))
  simp only [State.postDelay]
  split
  · rfl
  · split
    · next t a h =>
      rw [h] at created
      rwa [startAnn_ledger, markRun_ledger, modRun_autoDelay_ledger]
    · next t h => rw [h] at created; exact created

@[simp] theorem compareDelay_ledger (s : State) (i : Nat) (late : Int) : (s.compareDelay i late).ledger = s.ledger := by
  simp only [State.compareDelay]
  split
  · rfl
  · split <;> simp

/-! ### Claims and merges (R95, R96, R105, R109) -/

theorem modRun_claimPresent_ledger (s : State) (i : Nat) (b : Bool) :
    (s.modRun i fun r => { r with claimPresent := b }).ledger = s.ledger := modRun_ledger_same s i fun _ _ => rfl

theorem modSub_inUse_ledger (s : State) (k : Nat) (f : SubLive → Nat) :
    (s.modSub k fun x => { x with inUse := f x }).ledger = s.ledger := modSub_ledger_same s k fun _ => rfl

@[simp] theorem recordClaim_ledger (s : State) (i sub sec cost : Nat) :
    (s.recordClaim i sub sec cost).ledger = s.ledger := by
  rw [State.recordClaim, modRun_claimPresent_ledger, modSub_inUse_ledger, putClaim_ledger]

@[simp] theorem returnClaim_ledger (s : State) (i : Nat) : (s.returnClaim i).ledger = s.ledger := by
  unfold State.returnClaim
  split
  · rfl
  · rw [modRun_claimPresent_ledger, putClaim_ledger, modSub_inUse_ledger]

/-- A change of a run's causes alone. -/
theorem modRun_causes_ledger (s : State) (i : Nat) (f : Run → Causes) :
    (s.modRun i fun r => { r with causes := f r }).ledger = s.ledger := modRun_ledger_same s i fun _ _ => rfl

@[simp] theorem nameHolder_ledger (s : State) (m i : Nat) : (s.nameHolder m i).ledger = s.ledger := by
  simp only [State.nameHolder, ite_ledger, modRun_causes_ledger, modArbiter_ledger, ite_self]

@[simp] theorem chooseHolder_ledger (s : State) (m : Nat) : (s.chooseHolder m).ledger = s.ledger := by
  unfold State.chooseHolder
  split
  · split <;> simp
  · rfl

@[simp] theorem loseHolderAt_ledger (s : State) (h m : Nat) : (s.loseHolderAt h m).ledger = s.ledger := by
  simp [State.loseHolderAt]

@[simp] theorem loseHolder_ledger (s : State) (h : Nat) : (s.loseHolder h).ledger = s.ledger :=
  foldl_ledger (fun t m => loseHolderAt_ledger t h m) _ s

@[simp] theorem settleMerge_ledger (s : State) (i : Nat) : (s.settleMerge i).ledger = s.ledger := by
  unfold State.settleMerge
  split
  · split
    · split <;> simp
    · rfl
  · rfl

@[simp] theorem evalMerge_ledger (s : State) (i : Nat) (r : Run) (others : Bool) :
    (s.evalMerge i r others).1.ledger = s.ledger := by
  simp only [State.evalMerge]
  (repeat' split) <;> simp

@[simp] theorem gates_ledger (s : State) (i : Nat) (r : Run) : (s.gates i r).1.ledger = s.ledger := by
  simp [State.gates]

@[simp] theorem settleMerges_ledger (t s : State) (l : List Nat) : (t.settleMerges s l).ledger = t.ledger :=
  foldl_ledger (fun u i => by simp) _ t

@[simp] theorem dropSpanlessHolder_ledger (s : State) (m : Nat) : (s.dropSpanlessHolder m).ledger = s.ledger := by
  unfold State.dropSpanlessHolder
  split <;> simp

@[simp] theorem recordGrant_ledger (s : State) (i : Nat) (r : Run) : (s.recordGrant i r).ledger = s.ledger := by
  simp only [State.recordGrant]
  split
  · rfl
  · split <;> simp

/-! ### Releases, placement and punctuality (R49, R52, R76 to R78) -/

theorem modStop_entry (x : Run) (k h : Nat) (f : Stop → Stop) : (x.modStop k f).entry h = x.entry h := by
  unfold Run.modStop; split <;> rfl

theorem withRelease_entry (x : Run) (n h : Nat) : (x.withRelease n).entry h = x.entry h :=
  modStop_entry x x.cur h _

@[simp] theorem applyRelease_ledger (s : State) (i : Nat) (r : Run) (n : Nat) :
    (s.applyRelease i r n).ledger = s.ledger := by
  simp only [State.applyRelease, compareDelay_ledger, markBoard_ledger, modReg_ledger]
  exact modRun_ledger_same s i fun x k => withRelease_entry x n k

@[simp] theorem computeRelease_ledger (s : State) (i : Nat) : (s.computeRelease i).ledger = s.ledger := by
  unfold State.computeRelease
  split <;> simp

theorem onRtb_ledger (s : State) {f : Rtb → Rtb} (h : (f s.rtb).slots = s.rtb.slots) :
    (s.onRtb f).ledger = s.ledger := by
  have runAt (i : Nat) : (s.onRtb f).runAt i = s.runAt i := by simp [State.runAt, h]
  have handle (i : Nat) : (s.onRtb f).runHandle i = s.runHandle i := by simp [State.runHandle, h]
  exact ledger_congr (fun i => by simp only [State.ledger, runAt, handle]) (fun _ => rfl) rfl (fun _ => rfl)
    (fun _ => rfl) rfl

@[simp] theorem evalHorizon_ledger (s : State) : s.evalHorizon.ledger = s.ledger := by
  simp only [State.evalHorizon, ite_ledger, postWhere_ledger, onRtb_ledger, ite_self]

@[simp] theorem occupy_ledger (s : State) (p h : Nat) : (s.occupy p h).ledger = s.ledger := rfl

@[simp] theorem countDeparture_ledger (s : State) (i : Nat) (r : Run) (k : Nat) :
    (s.countDeparture i r k).ledger = s.ledger := by
  unfold State.countDeparture
  split
  · rfl
  · split
    · exact modRun_ledger_same s i fun _ _ => rfl
    · rfl

@[simp] theorem stampDeparture_ledger (s : State) (p h : Nat) : (s.stampDeparture p h).ledger = s.ledger := rfl

@[simp] theorem startClaimTimer_ledger (s : State) (i : Nat) (r : Run) : (s.startClaimTimer i r).ledger = s.ledger := by
  unfold State.startClaimTimer; split <;> rfl

@[simp] theorem leaveMerges_ledger (s : State) (r : Run) (a b i : Nat) : (s.leaveMerges r a b i).ledger = s.ledger :=
  foldl_ledger (fun t m => by simp [State.leaveMerge]) _ s

@[simp] theorem leaveEveryMerge_ledger (s : State) (i : Nat) : (s.leaveEveryMerge i).ledger = s.ledger :=
  foldl_ledger (fun t m => by simp) _ s

@[simp] theorem withdrawGrant_ledger (s : State) (i : Nat) : (s.withdrawGrant i).ledger = s.ledger := by
  simp only [State.withdrawGrant]; split <;> rfl

@[simp] theorem revoke_ledger (s : State) (i : Nat) : (s.revoke i).ledger = s.ledger := by
  unfold State.revoke; split <;> rfl

/-! ### Sections and restrictions (R114, R136, R138) -/

@[simp] theorem orderOpen_ledger (s : State) (k : Nat) : (s.orderOpen k).ledger = s.ledger := rfl
@[simp] theorem orderClose_ledger (s : State) (k : Nat) : (s.orderClose k).ledger = s.ledger := rfl
@[simp] theorem stopDrain_ledger (s : State) (k : Nat) : (s.stopDrain k).ledger = s.ledger := rfl
@[simp] theorem confirm_ledger (s : State) (k : Nat) : (s.confirm k).ledger = s.ledger := rfl
@[simp] theorem setSection_ledger (s : State) (k : Nat) (x : SecState) : (s.setSection k x).ledger = s.ledger := rfl

@[simp] theorem returnClaims_ledger (s : State) (k : Nat) : (s.returnClaims k).ledger = s.ledger :=
  foldl_ledger (fun t i => returnClaim_ledger t i) _ s

theorem modSegs_ledger (s : State) (l : List Nat) {f : SegLive → SegLive} (h : ∀ g, (f g).queue = g.queue) :
    (s.modSegs l f).ledger = s.ledger := foldl_ledger (fun t i => modSeg_ledger_same t i h) l s

@[simp] theorem coverageFrom_ledger (t s : State) : (t.coverageFrom s).ledger = t.ledger :=
  foldl_ledger (fun u p => by simp [State.coverageChanged]) _ t

/-! ### The end of an event and the port (R175) -/

/-- The same blocks make the same ledger. -/
theorem ledger_of_blocks (hlds : t.lds = s.lds) (hrtb : t.rtb = s.rtb) (hmvt : t.mvt = s.mvt) (hdrg : t.drg = s.drg)
    (htpc : t.tpc = s.tpc) (hitb : t.itb = s.itb) : t.ledger = s.ledger := by
  obtain ⟨⟩ := s
  obtain ⟨⟩ := t
  subst hlds hrtb hmvt hdrg htpc hitb
  rfl

@[simp] theorem finish_ledger (s : State) : s.finish.ledger = s.ledger := ledger_of_blocks (by simp) (by simp) (by simp)
  (by simp) (by simp) (by simp)

@[simp] theorem received_ledger (s : State) (n : Nat) : (s.received n).ledger = s.ledger := rfl
@[simp] theorem writeAnswer_ledger (s : State) (b : List Byte) : (s.writeAnswer b).ledger = s.ledger := rfl
@[simp] theorem recordRequest_ledger (s : State) (k : Nat) (r : Req) : (s.recordRequest k r).ledger = s.ledger := rfl

end Sys2Proof.Machine
end

/-! ## Moves of the run table -/

section
namespace Sys2Proof.Machine

/-! ### Lists of handles -/

section
variable {p q : Nat → Prop} {f f' : Nat → List Nat} {h : Nat}

theorem Listed.mono (hf : Listed p f) (hpq : ∀ g, ∀ h ∈ f g, p h → q h) : Listed q f :=
  ⟨fun g => ⟨(hf.1 g).1, fun h hh => hpq g h hh ((hf.1 g).2 h hh)⟩, hf.2⟩

theorem Listed.sublist (hf : Listed p f) (hs : ∀ g, (f' g).Sublist (f g)) : Listed p f' :=
  ⟨fun g => ⟨(hf.1 g).1.sublist (hs g), fun h hh => (hf.1 g).2 h ((hs g).subset hh)⟩,
    fun g k h hg hk => hf.2 g k h ((hs g).subset hg) ((hs k).subset hk)⟩

/-- One list takes handles that stood in none, or does not take them. -/
theorem Listed.append (hf : Listed p f) {m : List Nat} (hm : m.Nodup) (hp : ∀ h ∈ m, p h) (hn : ∀ h ∈ m, ∀ g, h ∉ f g)
    {i : Nat} (hi : ∀ g, f' g = f g ∨ (g = i ∧ (f' g).Perm (m ++ f g))) : Listed p f' := by
  have mem {g a : Nat} (ha : a ∈ f' g) : a ∈ f g ∨ (a ∈ m ∧ g = i) := by
    rcases hi g with e | ⟨rfl, e⟩
    · exact .inl (e ▸ ha)
    · exact ((List.mem_append.1 (e.mem_iff.1 ha)).imp_left fun ha => ⟨ha, rfl⟩).symm
  refine ⟨fun g => ⟨?_, fun a ha => ?_⟩, fun g k a hg hk => ?_⟩
  · rcases hi g with e | ⟨rfl, e⟩
    · rw [e]; exact (hf.1 g).1
    · exact e.nodup_iff.2 (List.nodup_append'.2 ⟨hm, (hf.1 g).1, fun a ha => hn a ha g⟩)
  · rcases mem ha with ha | ⟨ha, -⟩
    · exact (hf.1 g).2 a ha
    · exact hp a ha
  · rcases mem hg with hg | ⟨hg, rfl⟩
    · rcases mem hk with hk | ⟨hk, rfl⟩
      · exact hf.2 g k a hg hk
      · exact absurd hg (hn a hk g)
    · rcases mem hk with hk | ⟨-, rfl⟩
      · exact absurd hk (hn a hg k)
      · rfl

/-- One list takes a handle that stood in none, or does not take it. -/
theorem Listed.insert (hf : Listed p f) (hp : p h) (hn : ∀ g, h ∉ f g) {i : Nat}
    (hi : ∀ g, f' g = f g ∨ (g = i ∧ (f' g).Perm (h :: f g))) : Listed p f' :=
  hf.append (m := [h]) (by simp) (by simpa using hp) (by simpa using hn) hi

end

/-! ### A run's state -/

variable {l : Ledger} {i : Nat} {e : RunEntry} {st : RunState}

/-- In a sound run table a handle of a run names that run. -/
theorem Ledger.Sound.names_handle (hl : l.Sound) (hi : l.run i = some e) {p : RunState → Prop} :
    l.names p e.handle ↔ p e.state := by
  constructor
  · rintro ⟨j, f, hj, hh, hp⟩
    have hij := hl.handles j i f e hj hi hh
    subst hij
    rw [hi] at hj
    cases hj
    exact hp
  · exact fun hp => ⟨i, e, hi, rfl, hp⟩

/-- The states that handles name after the run in a slot has taken another. -/
theorem names_setState (hi : l.run i = some e) {p : RunState → Prop} {h : Nat}
    (hh : if h = e.handle then p st else l.names p h) : (l.setState i st).names p h := by
  split at hh
  · next he => exact ⟨i, e.to st, by simp [Ledger.setState, hi], he.symm, hh⟩
  · next he =>
    obtain ⟨j, f, hj, rfl, hp⟩ := hh
    have hij : i ≠ j := by
      rintro rfl
      rw [hi] at hj
      cases hj
      exact he rfl
    exact ⟨j, f, by simp [Ledger.setState, hij, hj], rfl, hp⟩

theorem length_filter_change {a b : Nat → Bool} {k : Nat} {m : List Nat} (hm : m.Nodup) (hk : k ∈ m)
    (h : ∀ j, j ≠ k → a j = b j) :
    (m.filter a).length + (b k).toNat = (m.filter b).length + (a k).toNat := by
  induction m with
  | nil => cases hk
  | cons x m ih =>
    obtain ⟨hx, hm⟩ := List.nodup_cons.1 hm
    by_cases hxk : x = k
    · subst hxk
      have : m.filter a = m.filter b := List.filter_congr fun j hj => h j fun e => hx (e ▸ hj)
      simp only [List.filter_cons, this]
      cases a x <;> cases b x <;> simp
    · have := ih hm ((List.mem_cons.1 hk).resolve_left (Ne.symm hxk))
      simp only [List.filter_cons, h x hxk]
      split
      · simp only [List.length_cons]; omega
      · exact this

/-- The number of RELEASED runs after the run in a slot has taken another state. -/
theorem countReleased_setState (hi : l.run i = some e) (hr : i ∈ ids 128) :
    (l.setState i st).countReleased + (if e.state = .released then 1 else 0) =
      l.countReleased + if st = .released then 1 else 0 := by
  have one (a : RunState) : (a == .released).toNat = if a = .released then 1 else 0 := by cases a <;> rfl
  rw [← one, ← one]
  have := length_filter_change (a := fun j => ((l.setState i st).run j).any fun e => e.state == .released)
    (b := fun j => (l.run j).any fun e => e.state == .released) (ids_nodup 128) hr
    fun j hj => by dsimp only [Ledger.setState]; rw [if_neg (Ne.symm hj)]
  rw [show (l.setState i st).run i = some (e.to st) by simp [Ledger.setState, hi], hi] at this
  exact this

/-- The run in a slot takes another state, with the released count, the segment queues and the wait queues that go with
it. -/
theorem Ledger.Sound.change (hl : l.Sound) (hi : l.run i = some e) (hr : i ∈ ids 128) {n : Nat}
    {q w : Nat → List Nat} (hn : n + (if e.state = .released then 1 else 0) = l.released + if st = .released then 1 else 0)
    (hq : Listed (fun h => if h = e.handle then st.onTrack else l.names RunState.onTrack h) q)
    (hw : Listed (fun h => if h = e.handle then st = .held else l.names (· = .held) h) w) :
    Ledger.Sound { l.setState i st with released := n, queue := q, wait := w } := by
  have entry {j : Nat} {f : RunEntry} (hf : (l.setState i st).run j = some f) :
      ∃ f', l.run j = some f' ∧ f'.handle = f.handle ∧ f'.number = f.number := by
    simp only [Ledger.setState] at hf
    split at hf
    · obtain ⟨f', hf', rfl⟩ := Option.map_eq_some_iff.1 hf
      exact ⟨f', hf', rfl, rfl⟩
    · exact ⟨f, hf, rfl, rfl⟩
  refine ⟨fun a b x y ha hb h => ?_, fun a x ha => ?_, fun a b x y ha hb h => ?_, ?_,
    hq.mono fun g h _ hh => names_setState hi hh, hw.mono fun g h _ hh => names_setState hi hh, fun hs j => ?_⟩
  · obtain ⟨x', hx, hxh, -⟩ := entry ha
    obtain ⟨y', hy, hyh, -⟩ := entry hb
    exact hl.handles a b x' y' hx hy (by rw [hxh, hyh, h])
  · obtain ⟨x', hx, -, hxn⟩ := entry ha
    rw [← hxn]
    exact hl.range a x' hx
  · obtain ⟨x', hx, -, hxn⟩ := entry ha
    obtain ⟨y', hy, -, hyn⟩ := entry hb
    exact hl.numbers a b x' y' hx hy (by rw [hxn, hyn, h])
  · have := countReleased_setState (st := st) hi hr
    have := hl.count
    show n = (l.setState i st).countReleased
    omega
  · rw [hl.setup hs i] at hi
    cases hi

/-- The segment queues after a change of a run's state that leaves them: the run was not on the track, or is. -/
theorem Ledger.Sound.queues_stay (hl : l.Sound) (hi : l.run i = some e) (ht : e.state.onTrack → st.onTrack) :
    Listed (fun h => if h = e.handle then st.onTrack else l.names RunState.onTrack h) l.queue :=
  hl.queues.mono fun g h _ hh => by
    show ite _ _ _
    split
    · next he => exact ht ((hl.names_handle hi).1 (he ▸ hh))
    · exact hh

/-- Lists after a change of a run's state that takes the run's handle out of them. -/
theorem Listed.without {p : Nat → Prop} {r : Prop} {f f' : Nat → List Nat} {h : Nat} (hf : Listed p f)
    (hs : ∀ g, (f' g).Sublist (f g)) (hn : ∀ g, h ∉ f' g) : Listed (fun k => if k = h then r else p k) f' :=
  (hf.sublist hs).mono fun g k hk hp => by
    show ite _ _ _
    rw [if_neg fun e' : k = h => hn g (e' ▸ hk)]
    exact hp

/-- In a sound run table only a HELD run waits. -/
theorem Ledger.Sound.not_waiting (hl : l.Sound) (hi : l.run i = some e) (he : e.state ≠ .held) (k : Nat) :
    e.handle ∉ l.wait k := fun hk => he ((hl.names_handle hi).1 ((hl.waits.1 k).2 _ hk))

/-- In a sound run table only a run on the track stands in a queue. -/
theorem Ledger.Sound.not_queued (hl : l.Sound) (hi : l.run i = some e) (he : ¬ e.state.onTrack) (g : Nat) :
    e.handle ∉ l.queue g := fun hg => he ((hl.names_handle hi).1 ((hl.queues.1 g).2 _ hg))

/-- Wait queues that lose handles. -/
theorem Ledger.Sound.unwait (hl : l.Sound) (h : Nat) : (l.unwait h).Sound :=
  { hl with waits := hl.waits.sublist fun _ => List.filter_sublist }

/-- The wait queues without a run that takes another state. -/
theorem Ledger.Sound.waits_left (hl : l.Sound) (e : RunEntry) : Listed
    (fun h => if h = e.handle then st = .held else l.names (· = .held) h) (l.unwait e.handle).wait :=
  hl.waits.without (fun _ => List.filter_sublist) fun g hg => by
    simpa using (List.mem_filter.1 hg).2

/-- The wait queues where the run that takes another state does not wait. -/
theorem Ledger.Sound.waits_stay (hl : l.Sound) (hi : l.run i = some e) (hh : e.state ≠ .held) : Listed
    (fun h => if h = e.handle then st = .held else l.names (· = .held) h) l.wait :=
  hl.waits.without (fun _ => .refl _) (hl.not_waiting hi hh)

/-- A run that is not RELEASED, and becomes none, takes a state that its place in the queues admits. -/
theorem Ledger.Sound.setState (hl : l.Sound) (hi : l.run i = some e) (hr : i ∈ ids 128) (he : e.state ≠ .released)
    (hst : st ≠ .released) (ht : e.state.onTrack → st.onTrack) (hh : e.state = .held → st = .held) :
    (l.setState i st).Sound :=
  hl.change hi hr (by simp [he, hst]) (hl.queues_stay hi ht) (hl.waits.mono fun g h _ hn => by
    show ite _ _ _
    split
    · next e' => exact hh ((hl.names_handle hi).1 (e' ▸ hn))
    · exact hn)

/-- The same with the run taken out of the wait queues. -/
theorem Ledger.Sound.setState_unwait (hl : l.Sound) (hi : l.run i = some e) (hr : i ∈ ids 128)
    (he : e.state ≠ .released) (hst : st ≠ .released) (ht : e.state.onTrack → st.onTrack) :
    ((l.setState i st).unwait e.handle).Sound :=
  hl.change (n := l.released) hi hr (by simp [he, hst]) (hl.queues_stay hi ht) (hl.waits_left e)

/-- A run that stands at a stop and waits nowhere is released. -/
theorem Ledger.Sound.release (hl : l.Sound) (hi : l.run i = some e) (hr : i ∈ ids 128) (he : e.state ≠ .released)
    (ht : ¬ e.state.onTrack) (hw : ∀ k, e.handle ∉ l.wait k) :
    Ledger.Sound { l.setState i .released with released := l.released + 1 } :=
  hl.change hi hr (by simp [he]) (hl.queues_stay hi fun h => absurd h ht) (hl.waits.without (fun _ => .refl _) hw)

/-- A released run takes another state without entering a queue. -/
theorem Ledger.Sound.lapse (hl : l.Sound) (hi : l.run i = some e) (hr : i ∈ ids 128) (he : e.state = .released)
    (hst : st ≠ .released) : Ledger.Sound { l.setState i st with released := l.released - 1 } := by
  have pos : 0 < l.released := by
    have gone := countReleased_setState (st := st) hi hr
    have := hl.count
    rw [if_pos he, if_neg hst] at gone
    omega
  exact hl.change hi hr (by simp [he, hst]; omega) (hl.queues_stay hi fun h => by simp [he, RunState.onTrack] at h)
    (hl.waits_stay hi (by simp [he]))

/-! ### What the regulator's work keeps -/

/-- From `s` to `t` the links stay, and a sound run table stays sound: what holds of every part of an event that
regulates runs. -/
structure Regulated (s t : State) : Prop where
  links : t.ledger.links = s.ledger.links
  sound : s.ledger.Sound → t.ledger.Sound

variable {s t u : State}

theorem Regulated.of_eq (h : t.ledger = s.ledger) : Regulated s t :=
  ⟨congrArg Ledger.links h, fun hs => h.symm.subst hs⟩

theorem Regulated.refl (s : State) : Regulated s s := .of_eq rfl

theorem Regulated.trans (h : Regulated s t) (h' : Regulated t u) : Regulated s u :=
  ⟨h'.links.trans h.links, fun hs => h'.sound (h.sound hs)⟩

/-- What the ledger does not show comes before the regulator's work. -/
theorem Regulated.after (he : t.ledger = s.ledger) (h : Regulated t u) : Regulated s u := (of_eq he).trans h

/-- What the ledger does not show follows the regulator's work. -/
theorem Regulated.then (h : Regulated s t) (he : u.ledger = t.ledger) : Regulated s u := h.trans (.of_eq he)

theorem Regulated.foldl {α : Type} {f : State → α → State} (hf : ∀ u a, Regulated u (f u a)) (m : List α) (s : State) :
    Regulated s (m.foldl f s) := by
  induction m generalizing s with
  | nil => exact .refl s
  | cons a m ih => exact (hf s a).trans (ih _)

/-- A run's state bears on no link. -/
theorem setState_links (l : Ledger) (i : Nat) (st : RunState) : (l.setState i st).links = l.links := by
  refine Prod.ext (funext fun j => ?_) rfl
  simp only [Ledger.links, Ledger.setState]
  split
  · rw [Option.map_map]; rfl
  · rfl

/-- A part of an event after which the ledger is another, with the same links. -/
theorem Regulated.of_ledger (ht : t.ledger = l) (hl : l.links = s.ledger.links) (h : s.ledger.Sound → l.Sound) :
    Regulated s t := 
  ⟨(congrArg Ledger.links ht).trans hl, fun hs => ht.symm.subst (h hs)⟩

end Sys2Proof.Machine
end

/-! ## Every part of the regulator's work keeps the run table and the links (R76 to R113) -/

section
namespace Sys2Proof.Machine
variable {s t u : State} {i : Nat} {x : Run} {st : RunState}

/-- A run takes another state, as far as the ledger shows. -/
theorem Regulated.setState (hx : s.runAt i = some x) (ht : t.ledger = s.ledger.setState i st)
    (he : x.state ≠ .released) (hst : st ≠ .released) (htr : x.state.onTrack → st.onTrack)
    (hh : x.state = .held → st = .held) : Regulated s t :=
  .of_ledger ht (setState_links ..) fun hs =>
    hs.setState (ledger_run hx) (ledger_slots (ledger_run hx)) he hst htr hh

/-! ### Leaving the wait queues (R111) -/

/-- A substation's wait queue loses a run. -/
theorem modSub_filter_ledger (s : State) (k h : Nat) :
    (s.modSub k fun x => { x with queue := x.queue.filter fun e => e.run != h }).ledger =
      { s.ledger with wait := fun j => if k = j then (s.ledger.wait j).filter (· != h) else s.ledger.wait j } := by
  rw [modSub_ledger]
  refine congrArg (fun w => { s.ledger with wait := w }) (funext fun j => ?_)
  simp only [State.ledger]
  split
  · cases s.sub j <;> simp [List.filter_map, Function.comp_def]
  · rfl

theorem leaveQueues_ledger (s : State) (h : Nat) : (s.leaveQueues h).ledger = s.ledger.unwait h := by
  have fold (l : List Nat) (s : State) : (l.foldl
      (fun t k => t.modSub k fun x => { x with queue := x.queue.filter fun e => e.run != h }) s).ledger =
        { s.ledger with wait := fun j => if j ∈ l then (s.ledger.wait j).filter (· != h) else s.ledger.wait j } := by
    induction l generalizing s with
    | nil => rfl
    | cons k l ih =>
      rw [List.foldl_cons, ih, modSub_filter_ledger]
      refine congrArg (fun w => { s.ledger with wait := w }) (funext fun j => ?_)
      by_cases hk : k = j
      · subst hk; simp
      · simp [hk, Ne.symm hk]
  rw [State.leaveQueues, fold]
  refine congrArg (fun w => { s.ledger with wait := w }) (funext fun j => ?_)
  split
  · rfl
  · next hj =>
    simp only [State.ledger]
    cases hz : s.sub j with
    | none => rfl
    | some z => exact absurd (mem_ids.2 (sub_range hz)) hj

theorem regulated_leaveQueues (s : State) (h : Nat) : Regulated s (s.leaveQueues h) :=
  .of_ledger (leaveQueues_ledger s h) rfl fun hs => hs.unwait h

/-- A run takes another state and leaves the wait queues. -/
theorem Regulated.setState_unwait (hx : s.runAt i = some x)
    (ht : t.ledger = (s.ledger.setState i st).unwait (s.runHandle i)) (he : x.state ≠ .released)
    (hst : st ≠ .released) (htr : x.state.onTrack → st.onTrack) : Regulated s t :=
  .of_ledger ht (setState_links ..) fun hs =>
    hs.setState_unwait (ledger_run hx) (ledger_slots (ledger_run hx)) he hst htr

/-! ### Releases (R83, R86, R112) -/

theorem completeRelease_ledger (hx : s.runAt i = some x) : (s.completeRelease i).ledger =
    { s.ledger.setState i .released with released := s.ledger.released + 1 } := by
  simp only [State.completeRelease, hx]
  have moved : ∀ u : State, u.ledger = s.ledger →
      (u.modRun i fun x => { x with state := .released, causes := Causes.none }).ledger =
        s.ledger.setState i .released := fun u hu => by
    rw [modRun_ledger_state u i (st := .released) fun _ _ => rfl, hu]
  have := moved (((s.recordGrant i x).order (.release x.number (x.tpAt x.cur) (s.firstSegment x))).modTp
    (x.tpAt x.cur) fun x => { x with lr := some s.now }) (by simp)
  exact congrArg (fun l : Ledger => { l with released := l.released + 1 }) this

theorem lowerReleased_ledger (s : State) :
    s.lowerReleased.ledger = { s.ledger with released := s.ledger.released - 1 } := by
  simp only [State.lowerReleased, ite_ledger, postWhere_ledger]
  exact ite_self _

/-- A run that stands at a stop and waits nowhere is released. -/
theorem regulated_completeRelease (hx : s.runAt i = some x) (he : x.state ≠ .released) (ht : ¬ x.state.onTrack)
    (hw : s.ledger.Sound → ∀ k, s.runHandle i ∉ s.ledger.wait k) : Regulated s (s.completeRelease i) :=
  .of_ledger (completeRelease_ledger hx) (setState_links ..) fun hs =>
    hs.release (ledger_run hx) (ledger_slots (ledger_run hx)) he ht (hw hs)

/-- The head of a wait queue is granted: the run is HELD, and waits nowhere once it has left the queue (R112). -/
theorem regulated_grantHead {k : Nat} {z : SubLive} {e : WaitEntry} (hz : s.sub k = some z)
    (he : z.queue.head? = some e) : Regulated s (s.grantHead k e) := by
  obtain ⟨rest, hq⟩ : ∃ rest, z.queue = e :: rest := List.head?_eq_some_iff.1 he
  have dropped : (s.modSub k fun x => { x with queue := x.queue.drop 1 }).ledger =
      { s.ledger with wait := fun j => if k = j then rest.map (·.run) else s.ledger.wait j } := by
    rw [modSub_ledger]
    refine congrArg (fun w => { s.ledger with wait := w }) (funext fun j => ?_)
    split
    · next h => subst h; simp [hz, hq]
    · rfl
  have wait : s.ledger.wait k = e.run :: rest.map (·.run) := by simp [State.ledger, hz, hq]
  have left : Regulated s (s.modSub k fun x => { x with queue := x.queue.drop 1 }) :=
    .of_ledger dropped rfl fun hs => { hs with
      waits := hs.waits.sublist fun j => by
        dsimp only
        split
        · next h => subst h; rw [wait]; exact List.sublist_cons_self ..
        · exact .refl _ }
  unfold State.grantHead
  dsimp only
  split
  · next j hj =>
    have hl : (s.modSub k fun x => { x with queue := x.queue.drop 1 }).resolveRun e.run = .live j := by
      revert hj
      cases (s.modSub k fun x => { x with queue := x.queue.drop 1 }).resolveRun e.run <;> simp [Resolved.slot?]
    obtain ⟨hh, y, hy⟩ := resolveRun_live hl
    have hy' : s.runAt j = some y := hy
    have claimed := recordClaim_ledger (s.modSub k fun x => { x with queue := x.queue.drop 1 }) j k e.sec e.cost
    obtain ⟨w, hw, hwe⟩ := ledger_run_eq_some.1 ((congrArg (fun l : Ledger => l.run j) claimed).trans (ledger_run hy))
    refine ⟨?_, fun hs => ?_⟩
    · rw [completeRelease_ledger hw, ← left.links, ← claimed]
      exact setState_links ..
    · have held : y.state = .held := by
        refine (hs.names_handle (p := (· = .held)) (ledger_run hy')).1 ?_
        have := (hs.waits.1 k).2 e.run (wait ▸ List.mem_cons_self)
        rwa [hh] at this
      have state : w.state = y.state := congrArg RunEntry.state hwe.symm
      refine (regulated_completeRelease hw (by simp [state, held]) (by simp [state, held, RunState.onTrack])
        fun _ m hm => ?_).sound (claimed.symm ▸ left.sound hs)
      have handle : (State.recordClaim (s.modSub k fun x => { x with queue := x.queue.drop 1 }) j k e.sec
          e.cost).runHandle j = e.run := (congrArg RunEntry.handle hwe.symm).trans hh.symm
      rw [claimed, dropped, handle] at hm
      dsimp only at hm
      have nodup := (hs.waits.1 k).1
      rw [wait] at nodup
      split at hm
      · exact (List.nodup_cons.1 nodup).1 hm
      · next hne => exact hne (hs.waits.2 k m e.run (wait ▸ List.mem_cons_self) hm)
  · exact left

theorem regulated_serveQueue (k n : Nat) (s : State) : Regulated s (State.serveQueue k n s) := by
  induction n generalizing s with
  | zero => exact .refl s
  | succ n ih =>
    unfold State.serveQueue
    split
    · exact .refl s
    · next e he =>
      obtain ⟨z, hz, he⟩ := Option.bind_eq_some_iff.1 he
      split
      · exact (regulated_grantHead hz he).trans (ih _)
      · exact .refl s

theorem regulated_serveSub (s : State) (k : Nat) : Regulated s (s.serveSub k) := regulated_serveQueue k _ s

theorem regulated_serveLeft (t s : State) : Regulated t (t.serveLeft s) :=
  .foldl (fun u k => by split; exacts [.refl u, regulated_serveSub u k]) _ t

theorem regulated_thenServe (s : State) (y : Reply × State) : Regulated y.2 (thenServe s y).2 :=
  regulated_serveLeft y.2 s

/-- Entries join a wait queue: the queue's handles are those before and the entries'. -/
theorem foldl_insert_ledger (s : State) (k : Nat) (es : List WaitEntry) : ∃ w,
    (s.modSub k fun x => { x with queue := es.foldl (fun q e => insertBy WaitEntry.before e q) x.queue }).ledger =
      { s.ledger with wait := w } ∧
      ∀ j, w j = s.ledger.wait j ∨ (j = k ∧ (w j).Perm (es.map (·.run) ++ s.ledger.wait j)) := by
  refine ⟨_, modSub_ledger .., fun j => ?_⟩
  dsimp only
  split
  · next h =>
    subst h
    cases hz : s.sub k with
    | none => exact .inl (by simp [State.ledger, hz])
    | some z =>
      refine .inr ⟨rfl, ?_⟩
      simpa [State.ledger, hz] using (foldl_insertBy_perm WaitEntry.before es z.queue).map (·.run)
  · exact .inl rfl

/-- A run that does not wait asks for power: it is HELD and joins a wait queue, which is served (R106). -/
theorem askPower_keeps (hx : s.runAt i = some x) (he : x.state ≠ .released) (ht : ¬ x.state.onTrack) (r : Run) :
    (s.askPower i r).ledger.links = s.ledger.links ∧
      (s.ledger.Sound → (∀ k, s.runHandle i ∉ s.ledger.wait k) → (s.askPower i r).ledger.Sound) := by
  have held : (s.modRun i fun x => { x with state := .held, causes := Causes.onlyPower }).ledger =
      s.ledger.setState i .held := modRun_ledger_state s i fun _ _ => rfl
  obtain ⟨w, hl, wait⟩ := foldl_insert_ledger ((s.modRun i fun x =>
    { x with state := .held, causes := Causes.onlyPower }).modReg i fun x => { x with releaseTimer := none })
      (s.drawing (s.drawSection r)) [s.waitEntry i r]
  rw [modReg_ledger, held] at hl wait
  have served : Regulated _ (s.askPower i r) := regulated_serveSub _ _
  refine ⟨served.links.trans ((congrArg Ledger.links hl).trans (setState_links ..)), fun hs hw =>
    served.sound (hl.symm.subst ?_)⟩
  have he' : (x.entry (s.runHandle i)).state ≠ .released := he
  refine hs.change (ledger_run hx) (ledger_slots (ledger_run hx)) (n := s.ledger.released) (by simp [he'])
    (hs.queues_stay (ledger_run hx) fun h => absurd h ht)
    ((hs.waits.without (fun _ => .refl _) hw).insert (h := s.runHandle i) ?_ hw wait)
  exact (if_pos (rfl : s.runHandle i = (x.entry (s.runHandle i)).handle)).mpr rfl

/-! ### Gates and rechecks (R82, R84, R85) -/

/-- A run that is not released and not on the track is HELD. -/
theorem regulated_holdFor (hx : s.runAt i = some x) (he : x.state ≠ .released) (ht : ¬ x.state.onTrack) (g : Causes) :
    Regulated s (s.holdFor i g) := by
  refine .setState (st := .held) hx ?_ he (by simp) (fun h => absurd h ht) fun _ => rfl
  simp only [State.holdFor, settleMerge_ledger, loseHolder_ledger, modReg_ledger]
  exact modRun_ledger_state s i fun _ _ => rfl

/-- The live run of a slot in a state whose ledger has the same entry for it. -/
theorem exists_run_of_ledger (h : t.ledger.run i = s.ledger.run i) (hx : s.runAt i = some x) :
    ∃ y, t.runAt i = some y ∧ y.state = x.state ∧ t.runHandle i = s.runHandle i := by
  obtain ⟨y, hy, he⟩ := ledger_run_eq_some.1 (h.trans (ledger_run hx))
  exact ⟨y, hy, congrArg RunEntry.state he.symm, congrArg RunEntry.handle he.symm⟩

/-- A release is attempted of a run that stands at a stop and waits nowhere (R81, R82). -/
theorem attempt_keeps (hx : s.runAt i = some x) (he : x.state ≠ .released) (ht : ¬ x.state.onTrack) :
    (s.attempt i).ledger.links = s.ledger.links ∧
      (s.ledger.Sound → (∀ k, s.runHandle i ∉ s.ledger.wait k) → (s.attempt i).ledger.Sound) := by
  have gated := gates_ledger s i x
  obtain ⟨y, hy, hst, hh⟩ := exists_run_of_ledger (by rw [gated]) hx
  simp only [State.attempt, hx]
  rw [← gated, ← hh]
  split
  · exact askPower_keeps hy (hst ▸ he) (hst ▸ ht) x
  · have held := regulated_holdFor hy (hst ▸ he) (hst ▸ ht) (s.gates i x).2
    exact ⟨held.links, fun hs _ => held.sound hs⟩

theorem regulated_recheckWaiting (hx : s.runAt i = some x) (he : x.state ≠ .released) (ht : ¬ x.state.onTrack)
    (r : Run) : Regulated s (s.recheckWaiting i r) := by
  have gated := gates_ledger s i r
  simp only [State.recheckWaiting]
  refine .after gated ?_
  split
  · exact .refl _
  · have left : ((s.gates i r).1.leaveQueues (s.runHandle i)).ledger = s.ledger.unwait (s.runHandle i) := by
      rw [leaveQueues_ledger, gated]
    obtain ⟨y, hy, hst, -⟩ := exists_run_of_ledger (by rw [left]; rfl) hx
    exact (regulated_leaveQueues ..).trans (regulated_holdFor hy (hst ▸ he) (hst ▸ ht) _)

theorem regulated_recheckRun (mask : Causes) (s : State) (i : Nat) : Regulated s (State.recheckRun mask s i) := by
  unfold State.recheckRun
  split
  · exact .refl s
  · next r hr =>
    split
    · exact .refl s
    · next held =>
      split
      · have held := not_not.1 held
        exact regulated_recheckWaiting hr (by simp [held]) (by simp [held, RunState.onTrack]) r
      · refine .of_eq ?_
        dsimp only
        rw [ite_ledger, modRun_causes_ledger, ite_self]
        split
        · exact evalMerge_ledger ..
        · rfl

theorem regulated_recheck (s : State) (mask : Causes) (l : List Nat) : Regulated s (s.recheck mask l) :=
  (Regulated.foldl (regulated_recheckRun mask) l s).then (settleMerges_ledger ..)

theorem regulated_spansChanged (s : State) (l : List Nat) : Regulated s (s.spansChanged l) :=
  (regulated_recheck ..).then (foldl_ledger (fun t m => dropSpanlessHolder_ledger t m) _ _)

/-! ### Computing releases again (R79, R80) -/

theorem regulated_recomputeRun (s : State) (i : Nat) : Regulated s (s.recomputeRun i) := by
  unfold State.recomputeRun
  split
  · exact .refl s
  · next r hr =>
    split
    · exact .refl s
    · split
      · exact .of_eq (applyRelease_ledger ..)
      · next held =>
        split
        · exact .refl s
        · refine .setState_unwait (st := .dwelling) hr ?_ (by simp [held]) (by simp)
            fun h => by simp [held, RunState.onTrack] at h
          simp only [State.returnToDwelling, applyRelease_ledger, loseHolder_ledger, leaveQueues_ledger]
          rw [modRun_ledger_state s i (st := .dwelling) fun _ _ => rfl]
      · exact .refl s

theorem regulated_recompute (s : State) (l : List Nat) : Regulated s (s.recompute l) :=
  .foldl regulated_recomputeRun l s

theorem regulated_followerChange (s : State) (p : Nat) : Regulated s (s.followerChange p) :=
  (regulated_recompute ..).then (markBoard_ledger ..)

theorem regulated_queueChanged (s : State) (g : Nat) : Regulated s (s.queueChanged g) :=
  (regulated_recheck ..).trans (regulated_followerChange ..)

theorem regulated_staleChanged (s : State) (e : LineEvent) : Regulated s (s.staleChanged e) :=
  .after (postLineEvent_ledger s e) ((regulated_recompute ..).then (markAllBoards_ledger _))

/-! ### Sections and feeders (R110, R113, R115) -/

theorem regulated_moveSection (s : State) (k : Nat) (y : SecState) : Regulated s (s.moveSection k y) :=
  .after (setSection_ledger s k y) (regulated_recheck ..)

theorem regulated_forceOut (s : State) (k : Nat) (y : SecState) : Regulated s (s.forceOut k y) :=
  .after (returnClaims_ledger s k) (regulated_moveSection ..)

theorem regulated_startDrain (s : State) (k : Nat) : Regulated s (s.startDrain k) :=
  .after (modSec_ledger s k _) (regulated_moveSection ..)

theorem regulated_referenceAdded (s : State) (k : Nat) : Regulated s (s.referenceAdded k) := by
  unfold State.referenceAdded
  split
  · exact .refl s
  · split
    · exact regulated_startDrain s k
    · exact .after (orderOpen_ledger s k) (regulated_moveSection ..)
    · exact regulated_moveSection ..
    · exact .refl s

theorem regulated_referenceRemoved (s : State) (k : Nat) : Regulated s (s.referenceRemoved k) := by
  unfold State.referenceRemoved
  split
  · split
    · exact .after (stopDrain_ledger s k) (regulated_moveSection ..)
    · exact .refl s
  · exact .refl s

theorem regulated_addReference (s : State) (k : Nat) : Regulated s (s.addReference k) :=
  .after (modSec_ledger s k _) (regulated_referenceAdded ..)

theorem regulated_removeReference (s : State) (k : Nat) : Regulated s (s.removeReference k) :=
  .after (modSec_ledger s k _) (regulated_referenceRemoved ..)

end Sys2Proof.Machine
end

/-! ## Feeders, restrictions, placement and the regulator's commands (R38 to R43, R86 to R94, R102, R113, R135 to R138) -/

section
namespace Sys2Proof.Machine
variable {s t u : State} {i : Nat} {x : Run} {st : RunState}

/-! ### Feeder switches (R102, R113) -/

theorem regulated_switchSection (before : List Nat) (s : State) (sec : Nat) :
    Regulated s (State.switchSection before s sec) := by
  simp only [State.switchSection]
  generalize before.getD (sec - 1) 0 = old
  generalize s.drawing sec = new
  split
  · exact .refl s
  · next hne =>
    obtain ⟨q, hq⟩ : ∃ q, q = (s.sub old).elim [] (·.queue) := ⟨_, rfl⟩
    have wait : s.ledger.wait old = q.map (·.run) := by rw [hq]; simp only [State.ledger]; cases s.sub old <;> rfl
    obtain ⟨w, left, stays, others⟩ : ∃ w,
        (s.modSub old fun x => { x with queue := x.queue.filter fun e => e.sec != sec }).ledger =
          { s.ledger with wait := w } ∧ w old = (q.filter fun e => e.sec != sec).map (·.run) ∧
          ∀ k, old ≠ k → w k = s.ledger.wait k := by
      refine ⟨_, modSub_ledger .., ?_, fun k hk => if_neg hk⟩
      rw [if_pos rfl, hq]
      cases s.sub old <;> rfl
    obtain ⟨w', joined, joins⟩ := foldl_insert_ledger (s.modSub old fun x =>
      { x with queue := x.queue.filter fun e => e.sec != sec }) new (q.filter fun e => e.sec == sec)
    rw [left] at joined joins
    have moving : ((s.sub old).elim [] fun x => x.queue.filter fun e => e.sec == sec) =
        q.filter fun e => e.sec == sec := by rw [hq]; cases s.sub old <;> rfl
    rw [moving]
    refine .of_ledger joined rfl fun hs => ?_
    have nodup := (hs.waits.1 old).1
    rw [wait] at nodup
    have moved {h : Nat} (hh : h ∈ (q.filter fun e => e.sec == sec).map (·.run)) : h ∈ s.ledger.wait old :=
      wait ▸ (List.filter_sublist.map _).subset hh
    have rest : Listed (s.ledger.names (· = .held)) w := hs.waits.sublist fun k => by
      by_cases hk : old = k
      · subst hk; rw [stays, wait]; exact List.filter_sublist.map _
      · rw [others k hk]
    have waits : Listed (s.ledger.names (· = .held)) w' :=
      rest.append (nodup.sublist (List.filter_sublist.map _)) (fun h hh => (hs.waits.1 old).2 h (moved hh))
        (fun h hh k hk => ?_) joins
    · exact { hs with waits := waits }
    · by_cases hk' : old = k
      · subst hk'
        rw [stays] at hk
        obtain ⟨a, ha, rfl⟩ := List.mem_map.1 hh
        obtain ⟨b, hb, hab⟩ := List.mem_map.1 hk
        obtain ⟨haq, has⟩ := List.mem_filter.1 ha
        obtain ⟨hbq, hbs⟩ := List.mem_filter.1 hb
        obtain rfl := List.inj_on_of_nodup_map nodup hbq haq hab
        exact bne_iff_ne.1 hbs (beq_iff_eq.1 has)
      · rw [others k hk'] at hk
        exact hk' (hs.waits.2 old k h (moved hh) hk)

theorem regulated_serveMoved (v before after : State) (k : Nat) : Regulated v (v.serveMoved before after k) :=
  .foldl (fun u j => by split; exacts [.refl u, regulated_serveSub u j]) _ v

theorem regulated_switchFeeders (s : State) (before : List Nat) : Regulated s (s.switchFeeders before) :=
  .foldl (regulated_switchSection before) _ s

theorem regulated_supplyChanged (s : State) (k : Nat) (y : SupplyState) : Regulated s (s.supplyChanged k y) := by
  refine Regulated.after ?_ ((regulated_switchFeeders ..).trans ((regulated_serveSub ..).trans (regulated_serveMoved ..)))
  exact modSub_ledger_same s k fun _ => rfl

/-! ### Restrictions (R135 to R138) -/

theorem regulated_changeHold (s : State) (f : Nat → Nat) (l : List Nat) : Regulated s (s.changeHold f l) := by
  refine Regulated.after ?_ (regulated_recheck ..)
  exact modSegs_ledger s l fun _ => rfl

theorem regulated_changeSlow (s : State) (f : List SlowEntry → List SlowEntry) (l : List Nat) :
    Regulated s (s.changeSlow f l) := by
  refine Regulated.after ?_ (.foldl (fun u g => regulated_followerChange u _) _ _)
  exact modSegs_ledger s l fun _ => rfl

theorem mark_entry (cov : Nat → Bool) (x : Run) (h : Nat) : (x.mark cov).entry h = x.entry h := rfl

theorem unmark_entry (cov : Nat → Bool) (x : Run) (h : Nat) : (x.unmark cov).entry h = x.entry h := rfl

theorem regulated_remark (s : State) {f : Run → Run} (hf : ∀ x k, (f x).entry k = x.entry k) (l : List Nat) :
    Regulated s (s.remark f l) :=
  .after (foldl_ledger (fun t i => modRun_ledger_same t i hf) _ s) (regulated_spansChanged ..)

theorem regulated_enforce (s before : State) (inc number : Nat) (y : RestrictionSpec) :
    Regulated s (s.enforce before inc number y) := by
  unfold State.enforce
  split
  · exact regulated_changeHold ..
  · exact regulated_changeSlow ..
  · exact .foldl regulated_addReference _ s
  · exact (regulated_remark s (mark_entry _) _).then (coverageFrom_ledger ..)

theorem regulated_relax (s before : State) (inc number : Nat) (y : RestrictionSpec) :
    Regulated s (s.relax before inc number y) := by
  unfold State.relax
  split
  · exact regulated_changeHold ..
  · exact regulated_changeSlow ..
  · exact .foldl regulated_removeReference _ s
  · exact (regulated_remark s (unmark_entry _) _).then (coverageFrom_ledger ..)

theorem modInc_restrictions_ledger (s : State) (i : Nat) (f : Incident → List Restriction) :
    (s.modInc i fun y => { y with restrictions := f y }).ledger = s.ledger := modInc_ledger_same s i fun _ => rfl

theorem regulated_putInForce (s : State) (i n : Nat) (y : RestrictionSpec) : Regulated s (s.putInForce i n y) :=
  .after (modInc_restrictions_ledger s i _) (regulated_enforce ..)

theorem regulated_addRestriction (i : Nat) (s : State) (y : RestrictionSpec) :
    Regulated s (State.addRestriction i s y) := by
  unfold State.addRestriction
  split
  · exact regulated_putInForce ..
  · exact .refl s

theorem regulated_lift (i : Nat) (s : State) (y : Restriction) : Regulated s (State.lift i s y) :=
  .after (modInc_restrictions_ledger s i _) (regulated_relax ..)

/-! ### Placement and occupancy (R38, R39, R57) -/

theorem arriveAt_entry (x : Run) (k now h : Nat) : (x.arriveAt k now).entry h = (x.entry h).to .dwelling :=
  congrArg (fun e : RunEntry => e.to .dwelling) (modStop_entry x k h _)

theorem placeRun_ledger (hx : s.runAt i = some x) : (s.placeRun i).ledger = s.ledger.setState i .dwelling := by
  simp only [State.placeRun, hx, evalHorizon_ledger, computeRelease_ledger, occupy_ledger]
  exact modRun_ledger_state s i fun y h => arriveAt_entry y.leavePlanned 1 s.now h

theorem regulated_placeRun (hx : s.runAt i = some x) (hp : x.state = .planned) : Regulated s (s.placeRun i) :=
  .setState hx (placeRun_ledger hx) (by simp [hp]) (by simp) (by simp [hp, RunState.onTrack]) (by simp [hp])

theorem waitingAt_planned {p : Nat} (h : s.waitingAt p = some i) : ∃ x, s.runAt i = some x ∧ x.state = .planned := by
  have : i ∈ s.runSlots fun r => r.state == .planned && r.placeWaiting && r.tpAt 1 == p :=
    mem_sortBy.1 (List.mem_of_mem_head? h)
  obtain ⟨x, hx, hp⟩ := mem_runSlots.1 this
  exact ⟨x, hx, by simp at hp; exact hp.1.1⟩

theorem regulated_clearOccupant (s : State) (p : Nat) : Regulated s (s.clearOccupant p) := by
  simp only [State.clearOccupant]
  refine .after (modTp_ledger s p fun x => { x with occupant := none }) ?_
  split
  · next j hj =>
    obtain ⟨y, hy, hp⟩ := waitingAt_planned hj
    exact regulated_placeRun hy hp
  · exact .refl _

theorem regulated_vacate (s : State) (p h : Nat) : Regulated s (s.vacate p h) := by
  unfold State.vacate
  split
  · exact regulated_clearOccupant ..
  · exact .refl s

/-! ### Cancellation and the departure timeout (R43, R86) -/

theorem leaveRegulation_ledger (s : State) (i : Nat) :
    (s.leaveRegulation i).ledger = s.ledger.unwait (s.runHandle i) := by
  simp only [State.leaveRegulation, loseHolder_ledger, leaveQueues_ledger]
  rfl

/-- A RELEASED run takes another state, and the released count falls. -/
theorem Regulated.lapse (hx : s.runAt i = some x) (he : x.state = .released) (hst : st ≠ .released)
    (ht : t.ledger = { s.ledger.setState i st with released := s.ledger.released - 1 }) : Regulated s t :=
  .of_ledger ht (setState_links ..) fun hs => hs.lapse (ledger_run hx) (ledger_slots (ledger_run hx)) he hst

theorem regulated_timeout (hx : s.runAt i = some x) (he : x.state = .released) : Regulated s (s.timeout i) := by
  refine .lapse (st := .held) hx he (by simp) ?_
  simp only [State.timeout, lowerReleased_ledger]
  rw [modRun_ledger_state _ i (st := .held) fun _ _ => rfl]
  simp [Ledger.setState]

/-- A run that is not at its end is cancelled. -/
theorem regulated_cancel (hx : s.runAt i = some x) (ht : x.state ≠ .terminated) (hc : x.state ≠ .cancelled) :
    Regulated s (s.cancel i x) := by
  have set : ((s.modRun i fun y => { y.leavePlanned with state := .cancelled, causes := Causes.none }).modCounters x.route
      fun c => { c with cancelled := satInc c.cancelled }).ledger = s.ledger.setState i .cancelled :=
    modRun_ledger_state s i fun _ _ => rfl
  have handle : ((s.modRun i fun y => { y.leavePlanned with state := .cancelled, causes := Causes.none }).modCounters
      x.route fun c => { c with cancelled := satInc c.cancelled }).runHandle i = s.runHandle i := modRun_runHandle ..
  revert set handle
  simp only [State.cancel]
  generalize (s.modRun i fun y => { y.leavePlanned with state := .cancelled, causes := Causes.none }).modCounters x.route _ = v
  intro set handle
  refine Regulated.then ?_ (endRun_ledger ..)
  simp only [State.cancelEffects]
  cases hst : x.state with
  | planned =>
    exact .setState (st := .cancelled) hx ((evalHorizon_ledger v).trans set) (by simp [hst]) (by simp)
      (by simp [hst, RunState.onTrack]) (by simp [hst])
  | dwelling | held =>
    refine Regulated.trans ?_ (regulated_vacate ..)
    refine .setState_unwait (st := .cancelled) hx ?_ (by simp [hst]) (by simp) (by simp [hst, RunState.onTrack])
    rw [leaveRegulation_ledger, set, handle]
  | released =>
    refine Regulated.trans ?_ (regulated_vacate ..)
    refine .lapse (st := .cancelled) hx hst (by simp) ?_
    simp [lowerReleased_ledger, set, Ledger.setState]
  | running =>
    exact .setState (st := .cancelled) hx ((returnClaim_ledger v i).trans set) (by simp [hst]) (by simp)
      (by simp [RunState.onTrack]) (by simp [hst])
  | terminated => exact absurd hst ht
  | cancelled => exact absurd hst hc

/-! ### The regulator's requests (R88 to R94) -/

theorem regulated_hold (hx : s.runAt i = some x) : Regulated s (s.hold i x) := by
  simp only [State.hold]
  split
  · exact .of_eq rfl
  · next held =>
    have held := not_not.1 held
    split
    · refine Regulated.after (t := s.modReg i fun y => { y with dispatcherHold := true }) rfl ?_
      exact regulated_recheckWaiting (s := s.modReg i _) hx (by simp [held]) (by simp [held, RunState.onTrack]) x
    · exact .of_eq ((loseHolder_ledger ..).trans (modRun_causes_ledger ..))

theorem unhold_ledger (s : State) (i : Nat) : (s.unhold i).ledger = s.ledger := by
  simp only [State.unhold, settleMerge_ledger]
  exact modRun_causes_ledger ..

/-- A run that stands at a stop is released by force: it has left the wait queues (R91). -/
theorem regulated_forceRelease (hx : s.runAt i = some x) (he : x.state ≠ .released) (ht : ¬ x.state.onTrack) (r : Run) :
    Regulated s (s.forceRelease i r) := by
  have claimed : ((s.leaveQueues (s.runHandle i)).recordClaim i (s.drawing (s.drawSection r)) (s.drawSection r)
      (s.startCost r)).ledger = s.ledger.unwait (s.runHandle i) := by rw [recordClaim_ledger, leaveQueues_ledger]
  obtain ⟨y, hy, state, handle⟩ := exists_run_of_ledger (by rw [claimed]; rfl) hx
  have released := regulated_completeRelease hy (state ▸ he) (state ▸ ht) fun _ k hk => by
    rw [claimed, handle] at hk
    simp [Ledger.unwait] at hk
  refine Regulated.trans (t := (s.leaveQueues (s.runHandle i)).recordClaim i _ _ _) ?_ (released.then ?_)
  · exact (regulated_leaveQueues ..).then (recordClaim_ledger ..)
  · simp only [State.forceRelease]
    split
    · exact (compareDelay_ledger ..).trans (modRun_ledger_same _ _ fun y k => withRelease_entry y _ k)
    · rfl

theorem regulated_releaseStanding (hx : s.runAt i = some x) (he : x.state ≠ .released) (ht : ¬ x.state.onTrack)
    (r : Run) : Regulated s (s.releaseStanding i r).2 := by
  simp only [State.releaseStanding]
  split
  · exact .refl s
  · split
    · exact .refl s
    · split
      · exact .refl s
      · exact regulated_forceRelease hx he ht r

theorem regulated_settleRelease (hx : s.runAt i = some x) : Regulated s (s.settleRelease i x).2 := by
  unfold State.settleRelease
  cases hst : x.state with
  | planned =>
    dsimp only
    split
    · exact .refl s
    · have placed := regulated_placeRun hx hst
      split
      · next r hr =>
        have : (s.placeRun i).ledger.run i = some (r.entry ((s.placeRun i).runHandle i)) := ledger_run hr
        rw [placeRun_ledger hx] at this
        simp only [Ledger.setState, if_true, ledger_run hx, Option.map_some, Option.some.injEq] at this
        have dwelling : r.state = .dwelling := congrArg RunEntry.state this.symm
        exact placed.trans (regulated_releaseStanding hr (by simp [dwelling]) (by simp [dwelling, RunState.onTrack]) r)
      · exact placed
  | dwelling | held => exact regulated_releaseStanding hx (by simp [hst]) (by simp [hst, RunState.onTrack]) x
  | released | running | terminated | cancelled => exact .refl s

/-- The run in a slot is HELD. -/
def State.heldAt (s : State) (i : Nat) : Prop := ∃ e, s.ledger.run i = some e ∧ e.state = .held

theorem regulated_enterManual (h : s.heldAt i) :
    Regulated s (s.enterManual i) ∧ ∀ j, s.heldAt j → (s.enterManual i).heldAt j := by
  obtain ⟨e, he, held⟩ := h
  obtain ⟨x, hx, rfl⟩ := ledger_run_eq_some.1 he
  have held : x.state = .held := held
  simp only [State.enterManual, hx]
  split
  · refine ⟨regulated_recheckWaiting hx (by simp [held]) (by simp [held, RunState.onTrack]) x, fun j ⟨f, hf, hfs⟩ => ?_⟩
    simp only [State.recheckWaiting]
    split
    · exact ⟨f, (congrArg (fun l : Ledger => l.run j) (gates_ledger s i x)).trans hf, hfs⟩
    · have : (((s.gates i x).1.leaveQueues (s.runHandle i)).holdFor i (s.gates i x).2).ledger =
          (s.ledger.unwait (s.runHandle i)).setState i .held := by
        simp only [State.holdFor, settleMerge_ledger, loseHolder_ledger, modReg_ledger]
        rw [modRun_ledger_state _ i (st := .held) fun _ _ => rfl, leaveQueues_ledger, gates_ledger]
      simp only [State.heldAt, this, Ledger.setState]
      split
      · exact ⟨f.to .held, by simp [Ledger.unwait, hf], rfl⟩
      · exact ⟨f, hf, hfs⟩
  · have same : (s.modRun i fun x => { x with causes := { x.causes with manual := true } }).ledger = s.ledger :=
      modRun_causes_ledger ..
    exact ⟨.of_eq same, fun j ⟨f, hf, hfs⟩ => ⟨f, (congrArg (fun l : Ledger => l.run j) same).trans hf, hfs⟩⟩

theorem regulated_foldl_enterManual (l : List Nat) (s : State) (h : ∀ i ∈ l, s.heldAt i) :
    Regulated s (l.foldl State.enterManual s) := by
  induction l generalizing s with
  | nil => exact .refl s
  | cons i l ih =>
    obtain ⟨entered, held⟩ := regulated_enterManual (h i List.mem_cons_self)
    exact entered.trans (ih _ fun j hj => held j (h j (List.mem_cons_of_mem _ hj)))

theorem regulated_halt (s : State) : Regulated s s.halt := by
  have entered := regulated_foldl_enterManual (s.heldRuns fun _ => true) (s.onDrg fun d =>
    { d with mode := .halting, arbiters := d.arbiters.map fun a => { a with holder := none } }) fun i hi => by
      obtain ⟨x, hx, held⟩ := mem_runSlots.1 hi
      exact ⟨_, ledger_run hx, beq_iff_eq.1 (Bool.and_eq_true_iff.1 held).1⟩
  refine Regulated.after (t := s.onDrg fun d =>
    { d with mode := .halting, arbiters := d.arbiters.map fun a => { a with holder := none } }) rfl (entered.then ?_)
  simp only [State.halt, ite_ledger, postWhere_ledger]
  exact ite_self _

theorem resume_ledger (s : State) : s.resume.ledger = s.ledger := by
  simp only [State.resume, settleMerges_ledger]
  exact (foldl_ledger (fun t i => modRun_causes_ledger t i _) _ _).trans rfl

end Sys2Proof.Machine
end

/-! ## Links and incidents: the agreement of both sides (R46, R131, R139, R142, R143) -/

section
namespace Sys2Proof.Machine

/-! ### Records that list each other -/

/-- Records by slot, each with its handle and the handles that it lists. -/
abbrev Links := Nat → Option (Nat × List Nat)

/-- Two kinds of records list each other. -/
def Matched (a b : Links) : Prop := Mutual a b ∧ Mutual b a

theorem Matched.symm {a b : Links} (h : Matched a b) : Matched b a := ⟨h.2, h.1⟩

/-- Records of different slots have different handles. -/
def Links.Distinct (a : Links) : Prop := ∀ i j h l m, a i = some (h, l) → a j = some (h, m) → i = j

/-- The list of one record changed. -/
def Links.on (a : Links) (i : Nat) (f : List Nat → List Nat) : Links := fun j =>
  if i = j then (a j).map fun p => (p.1, f p.2) else a j

/-- The lists of all records changed. -/
def Links.onAll (a : Links) (f : List Nat → List Nat) : Links := fun j => (a j).map fun p => (p.1, f p.2)

/-- One slot emptied. -/
def Links.drop (a : Links) (i : Nat) : Links := fun j => if i = j then none else a j

/-- One slot taken by a record that lists nothing. -/
def Links.add (a : Links) (i h : Nat) : Links := fun j => if i = j then some (h, []) else a j

section
variable {a b : Links} {i j h k : Nat} {l m : List Nat}

theorem on_eq_some {f : List Nat → List Nat} : (a.on i f) j = some (h, l) ↔
    ∃ m, a j = some (h, m) ∧ l = if i = j then f m else m := by
  unfold Links.on
  split
  · simp [eq_comm]
  · simp

theorem onAll_eq_some {f : List Nat → List Nat} : (a.onAll f) j = some (h, l) ↔ ∃ m, a j = some (h, m) ∧ l = f m := by
  simp [Links.onAll, eq_comm]

theorem drop_eq_some : (a.drop i) j = some (h, l) ↔ i ≠ j ∧ a j = some (h, l) := by
  unfold Links.drop
  split <;> simp [*]

/-- Two records that do not list each other take each other into their lists: one side. -/
theorem Mutual.link (hm : Mutual a b) (hi : a i = some (h, l)) (hj : b j = some (k, m)) (hk : k ∉ l)
    (hl : l.length < 4) : Mutual (a.on i (· ++ [k])) (b.on j (· ++ [h])) := by
  have grown {c d : Nat} {n : List Nat} (hc : b c = some (d, n)) {x : Nat} (hx : x ∈ n) :
      ∃ e o, (b.on j (· ++ [h])) e = some (d, o) ∧ x ∈ o :=
    ⟨c, _, on_eq_some.2 ⟨n, hc, rfl⟩, by split <;> simp [hx]⟩
  intro c d n hc
  obtain ⟨o, ho, rfl⟩ := on_eq_some.1 hc
  obtain ⟨len, nodup, back⟩ := hm c d o ho
  have old {x : Nat} (hx : x ∈ o) : ∃ e p, (b.on j (· ++ [h])) e = some (x, p) ∧ d ∈ p := by
    obtain ⟨e, p, he, hd⟩ := back x hx
    exact grown he hd
  split
  · next hic =>
    subst hic
    rw [hi] at ho
    cases ho
    refine ⟨by simp; omega, by simp [List.nodup_append', nodup, hk], fun x hx => ?_⟩
    rcases List.mem_append.1 hx with hx | hx
    · exact old hx
    · obtain rfl := List.mem_singleton.1 hx
      exact ⟨j, _, on_eq_some.2 ⟨m, hj, rfl⟩, by simp⟩
  · exact ⟨len, nodup, fun x hx => old hx⟩

/-- A link of two records is made on both sides. -/
theorem Matched.link (hm : Matched a b) (hi : a i = some (h, l)) (hj : b j = some (k, m)) (hk : k ∉ l) (hh : h ∉ m)
    (hl : l.length < 4) (hl' : m.length < 4) : Matched (a.on i (· ++ [k])) (b.on j (· ++ [h])) :=
  ⟨hm.1.link hi hj hk hl, hm.2.link hj hi hh hl'⟩

theorem Mutual.unlink (hm : Mutual a b) (da : a.Distinct) (hi : a i = some (h, l)) (hj : b j = some (k, m)) :
    Mutual (a.on i (·.filter (· != k))) (b.on j (·.filter (· != h))) := by
  intro c d n hc
  obtain ⟨o, ho, rfl⟩ := on_eq_some.1 hc
  obtain ⟨len, nodup, back⟩ := hm c d o ho
  split
  · next hic =>
    subst hic
    rw [hi] at ho
    cases ho
    refine ⟨(List.length_filter_le ..).trans len, nodup.filter _, fun x hx => ?_⟩
    obtain ⟨hx, hxk⟩ := List.mem_filter.1 hx
    obtain ⟨e, p, he, hp⟩ := back x hx
    refine ⟨e, p, on_eq_some.2 ⟨p, he, (if_neg ?_).symm⟩, hp⟩
    rintro rfl
    rw [hj] at he
    cases he
    simp at hxk
  · next hic =>
    refine ⟨len, nodup, fun x hx => ?_⟩
    obtain ⟨e, p, he, hp⟩ := back x hx
    refine ⟨e, _, on_eq_some.2 ⟨p, he, rfl⟩, ?_⟩
    have hd : d ≠ h := by
      rintro rfl
      exact hic (da i c d l o hi ho)
    split
    · simp [hp, hd]
    · exact hp

/-- A link of two records is removed on both sides. -/
theorem Matched.unlink (hm : Matched a b) (da : a.Distinct) (db : b.Distinct) (hi : a i = some (h, l))
    (hj : b j = some (k, m)) : Matched (a.on i (·.filter (· != k))) (b.on j (·.filter (· != h))) :=
  ⟨hm.1.unlink da hi hj, hm.2.unlink db hj hi⟩

/-- A record goes, and its handle leaves every list. -/
theorem Matched.forget (hm : Matched a b) (da : a.Distinct) (hi : a i = some (h, l)) :
    Matched (a.drop i) (b.onAll (·.filter (· != h))) := by
  constructor
  · intro c d n hc
    obtain ⟨hic, hc⟩ := drop_eq_some.1 hc
    obtain ⟨len, nodup, back⟩ := hm.1 c d n hc
    refine ⟨len, nodup, fun x hx => ?_⟩
    obtain ⟨e, p, he, hp⟩ := back x hx
    have hd : d ≠ h := by
      rintro rfl
      exact hic (da i c d l n hi hc)
    exact ⟨e, _, onAll_eq_some.2 ⟨p, he, rfl⟩, by simp [hp, hd]⟩
  · intro c d n hc
    obtain ⟨o, ho, rfl⟩ := onAll_eq_some.1 hc
    obtain ⟨len, nodup, back⟩ := hm.2 c d o ho
    refine ⟨(List.length_filter_le ..).trans len, nodup.filter _, fun x hx => ?_⟩
    obtain ⟨hx, hxh⟩ := List.mem_filter.1 hx
    obtain ⟨e, p, he, hp⟩ := back x hx
    refine ⟨e, p, drop_eq_some.2 ⟨?_, he⟩, hp⟩
    rintro rfl
    rw [hi] at he
    cases he
    simp at hxh

/-- A free slot is taken by a record that lists nothing. -/
theorem Matched.add (hm : Matched a b) (hi : a i = none) (h : Nat) : Matched (a.add i h) b := by
  constructor
  · intro c d n hc
    unfold Links.add at hc
    split at hc
    · cases hc; simp
    · exact hm.1 c d n hc
  · intro c d n hc
    obtain ⟨len, nodup, back⟩ := hm.2 c d n hc
    refine ⟨len, nodup, fun x hx => ?_⟩
    obtain ⟨e, p, he, hp⟩ := back x hx
    refine ⟨e, p, ?_, hp⟩
    unfold Links.add
    rw [if_neg ?_]
    · exact he
    · rintro rfl
      rw [hi] at he
      cases he

end

/-! ### The links of a state -/

variable {s t u : State} {i : Nat}

/-- Handles of different incident slots differ. -/
theorem incHandle_ne {i j : Nat} (hi : i ≤ 48) (hj : j ≤ 48) (h : i ≠ j) : s.incHandle i ≠ t.incHandle j := by
  intro e
  have := congrArg (· % 256) e
  simp only [State.incHandle, mkHandle_mod (by omega : i < 256), mkHandle_mod (by omega : j < 256)] at this
  exact h this

theorem distinct_runs (s : State) : Links.Distinct s.ledger.links.1 := by
  intro i j h l m hi hj
  obtain ⟨x, hx, rfl, -⟩ := links_run.1 hi
  obtain ⟨y, hy, he, -⟩ := links_run.1 hj
  by_contra hne
  exact runHandle_ne (runAt_range hx).2 (runAt_range hy).2 hne he.symm

theorem distinct_incs (s : State) : Links.Distinct s.ledger.links.2 := by
  intro i j h l m hi hj
  obtain ⟨x, hx, rfl, -⟩ := links_inc.1 hi
  obtain ⟨y, hy, he, -⟩ := links_inc.1 hj
  by_contra hne
  exact incHandle_ne (incAt_range hx).2 (incAt_range hy).2 hne he.symm

theorem agree_iff : LinksAgree s ↔ Matched s.ledger.links.1 s.ledger.links.2 := linksAgree_iff.trans and_comm

/-- A run's list of incidents changed. -/
theorem modRun_incidents_links (s : State) (i : Nat) (f : List Nat → List Nat) :
    (s.modRun i fun r => { r with incidents := f r.incidents }).ledger.links =
      (Links.on s.ledger.links.1 i f, s.ledger.links.2) := by
  rw [modRun_ledger]
  refine Prod.ext (funext fun j => ?_) rfl
  simp only [Ledger.links, Links.on, State.ledger]
  split <;> cases s.runAt j <;> rfl

/-- An incident's list of runs changed. -/
theorem modInc_runs_links (s : State) (i : Nat) (f : List Nat → List Nat) :
    (s.modInc i fun x => { x with runs := f x.runs }).ledger.links =
      (s.ledger.links.1, Links.on s.ledger.links.2 i f) := by
  rw [modInc_ledger]
  refine Prod.ext rfl (funext fun j => ?_)
  simp only [Ledger.links, Links.on, State.ledger]
  split <;> cases s.incAt j <;> rfl

/-! ### The run table bears on no incident -/

/-- The soundness of the run table reads no link. -/
theorem Ledger.Sound.of_runs {l l' : Ledger} (hl : l.Sound)
    (hrun : ∀ i, (l'.run i).map (fun e => (e.handle, e.number, e.state)) =
      (l.run i).map fun e => (e.handle, e.number, e.state))
    (hreleased : l'.released = l.released) (hqueue : l'.queue = l.queue) (hwait : l'.wait = l.wait)
    (hservice : l'.service = l.service) : l'.Sound := by
  have entry {m m' : Ledger} (hrun : ∀ i, (m'.run i).map (fun e => (e.handle, e.number, e.state)) =
      (m.run i).map fun e => (e.handle, e.number, e.state)) {i : Nat} {e : RunEntry} (he : m'.run i = some e) :
      ∃ f, m.run i = some f ∧ f.handle = e.handle ∧ f.number = e.number ∧ f.state = e.state := by
    have := hrun i
    rw [he] at this
    obtain ⟨f, hf, hfe⟩ := Option.map_eq_some_iff.1 this.symm
    simp only [Prod.mk.injEq] at hfe
    exact ⟨f, hf, hfe⟩
  have names {p : RunState → Prop} {h : Nat} (hh : l.names p h) : l'.names p h := by
    obtain ⟨i, e, he, rfl, hp⟩ := hh
    obtain ⟨f, hf, hfh, -, hfs⟩ := entry (fun j => (hrun j).symm) he
    exact ⟨i, f, hf, hfh, hfs ▸ hp⟩
  refine ⟨fun i j e f he hf h => ?_, fun i e he => ?_, fun i j e f he hf h => ?_, ?_,
    hqueue ▸ hl.queues.mono fun _ _ _ => names, hwait ▸ hl.waits.mono fun _ _ _ => names, fun hs i => ?_⟩
  · obtain ⟨e', he', heh, -⟩ := entry hrun he
    obtain ⟨f', hf', hfh, -⟩ := entry hrun hf
    exact hl.handles i j e' f' he' hf' (by rw [heh, hfh, h])
  · obtain ⟨e', he', -, hen, -⟩ := entry hrun he
    exact hen ▸ hl.range i e' he'
  · obtain ⟨e', he', -, hen, -⟩ := entry hrun he
    obtain ⟨f', hf', -, hfn, -⟩ := entry hrun hf
    exact hl.numbers i j e' f' he' hf' (by rw [hen, hfn, h])
  · rw [hreleased, hl.count]
    refine congrArg List.length (List.filter_congr fun i _ => ?_)
    have := congrArg (fun o : Option (Nat × Nat × RunState) => o.any fun p => p.2.2 == .released) (hrun i)
    simpa [Option.any_map, Function.comp_def] using this.symm
  · have := hrun i
    rw [hl.setup (hservice ▸ hs) i] at this
    simpa using this

/-- From `s` to `t` a sound run table stays sound, and links that agree go on agreeing: what every event keeps. -/
structure KeepsTable (s t : State) : Prop where
  sound : s.ledger.Sound → t.ledger.Sound
  agree : LinksAgree s → LinksAgree t

theorem Regulated.keeps (h : Regulated s t) : KeepsTable s t :=
  ⟨h.sound, fun hs => agree_iff.2 (by rw [h.links]; exact agree_iff.1 hs)⟩

theorem KeepsTable.refl (s : State) : KeepsTable s s := (Regulated.refl s).keeps

theorem KeepsTable.trans (h : KeepsTable s t) (h' : KeepsTable t u) : KeepsTable s u :=
  ⟨fun hs => h'.sound (h.sound hs), fun hs => h'.agree (h.agree hs)⟩

theorem KeepsTable.of_eq (h : t.ledger = s.ledger) : KeepsTable s t := (Regulated.of_eq h).keeps

/-- The links of a run changed: the run table is as it was. -/
theorem sound_modRun_incidents (i : Nat) (f : List Nat → List Nat) (hs : s.ledger.Sound) :
    (s.modRun i fun r => { r with incidents := f r.incidents }).ledger.Sound := by
  rw [modRun_ledger]
  refine hs.of_runs (fun j => ?_) rfl rfl rfl rfl
  dsimp only
  split
  · simp only [State.ledger]
    cases s.runAt j <;> rfl
  · rfl

theorem sound_modInc (i : Nat) (f : Incident → Incident) (hs : s.ledger.Sound) : (s.modInc i f).ledger.Sound := by
  rw [modInc_ledger]
  exact hs.of_runs (fun _ => rfl) rfl rfl rfl rfl

/-! ### Linking and unlinking (R139) -/

theorem linkBoth_links (s : State) (i j : Nat) : (s.linkBoth i j).ledger.links =
    (Links.on s.ledger.links.1 j (· ++ [s.incHandle i]), Links.on s.ledger.links.2 i (· ++ [s.runHandle j])) := by
  simp only [State.linkBoth]
  rw [modRun_incidents_links _ j (· ++ [s.incHandle i]), modInc_runs_links _ i (· ++ [s.runHandle j])]

theorem unlinkBoth_links (s : State) (i j : Nat) : (s.unlinkBoth i j).ledger.links =
    (Links.on s.ledger.links.1 j (·.filter (· != s.incHandle i)),
      Links.on s.ledger.links.2 i (·.filter (· != s.runHandle j))) := by
  simp only [State.unlinkBoth]
  rw [modRun_incidents_links _ j (·.filter (· != s.incHandle i)), modInc_runs_links _ i (·.filter (· != s.runHandle j))]

theorem sound_linkBoth (i j : Nat) (hs : s.ledger.Sound) : (s.linkBoth i j).ledger.Sound :=
  sound_modRun_incidents j (· ++ [s.incHandle i]) (sound_modInc i _ hs)

theorem sound_unlinkBoth (i j : Nat) (hs : s.ledger.Sound) : (s.unlinkBoth i j).ledger.Sound :=
  sound_modRun_incidents j (·.filter (· != s.incHandle i)) (sound_modInc i _ hs)

/-- A run and an incident with room in their lists, of which the incident does not list the run, are linked. -/
theorem keepsTable_linkBoth {j : Nat} {x : Incident} {y : Run} (hx : s.incAt i = some x) (hy : s.runAt j = some y)
    (hn : s.runHandle j ∉ x.runs) (hi : x.runs.length < 4) (hr : y.incidents.length < 4) :
    KeepsTable s (s.linkBoth i j) := by
  refine ⟨sound_linkBoth i j, fun hs => agree_iff.2 ?_⟩
  rw [linkBoth_links]
  have hm := agree_iff.1 hs
  have hj := links_run.2 ⟨y, hy, rfl, rfl⟩
  have hi' := links_inc.2 ⟨x, hx, rfl, rfl⟩
  refine hm.link hj hi' (fun hk => hn ?_) hn hr hi
  obtain ⟨-, -, back⟩ := hm.1 j _ _ hj
  obtain ⟨c, m, hc, hmem⟩ := back _ hk
  obtain rfl := distinct_incs s c i _ _ _ hc hi'
  rw [hi'] at hc
  cases hc
  exact hmem

theorem keepsTable_unlinkBoth {j : Nat} {x : Incident} {y : Run} (hx : s.incAt i = some x) (hy : s.runAt j = some y) :
    KeepsTable s (s.unlinkBoth i j) := by
  refine ⟨sound_unlinkBoth i j, fun hs => agree_iff.2 ?_⟩
  rw [unlinkBoth_links]
  exact (agree_iff.1 hs).unlink (distinct_runs s) (distinct_incs s) (links_run.2 ⟨y, hy, rfl, rfl⟩)
    (links_inc.2 ⟨x, hx, rfl, rfl⟩)

/-! ### Raising (R131, R143) -/

/-- A raise in a free slot: the slot holds the incident, with no run linked; no run changes. -/
theorem raiseIn_ledger {z : IncSlot} (hz : get1 s.itb.slots i = some z) (y : RaiseSpec) : (s.raiseIn i y).ledger =
    { s.ledger with inc := Links.add s.ledger.inc i (s.incHandle i) } := by
  obtain ⟨number, desks, l, h⟩ := raiseIn_eq s i y
  have inc : (s.raiseIn i y).ledger.inc = Links.add s.ledger.inc i (s.incHandle i) := by
    rw [h]
    funext j
    simp only [State.ledger, State.incAt, State.incHandle, get1_mod1, Links.add]
    split
    · next e => subst e; rw [hz]; rfl
    · rfl
  have rest : (s.raiseIn i y).ledger = { s.ledger with inc := (s.raiseIn i y).ledger.inc } := by rw [h]; rfl
  rw [rest, inc]

theorem freeInc_eq_some (h : s.freeInc = some i) : ∃ z, get1 s.itb.slots i = some z ∧ z.inc = none := by
  have := List.find?_some h
  cases hz : get1 s.itb.slots i with
  | none => rw [hz] at this; cases this
  | some z => exact ⟨z, rfl, by rw [hz] at this; simpa using this⟩

theorem keepsTable_raiseIn {z : IncSlot} (hz : get1 s.itb.slots i = some z) (hf : z.inc = none) (y : RaiseSpec) :
    KeepsTable s (s.raiseIn i y) := by
  have ledger := raiseIn_ledger hz y
  refine ⟨fun hs => ledger ▸ hs.of_runs (fun _ => rfl) rfl rfl rfl rfl, fun hs => agree_iff.2 ?_⟩
  rw [ledger]
  refine ((agree_iff.1 hs).symm.add ?_ _).symm
  simp [Ledger.links, State.ledger, State.incAt, hz, hf]

/-- What a raise leaves in its slot and of the runs. -/
theorem raiseIn_reads {z : IncSlot} (hz : get1 s.itb.slots i = some z) (y : RaiseSpec) :
    (∃ x, (s.raiseIn i y).incAt i = some x ∧ x.runs = []) ∧ ∀ j, (s.raiseIn i y).runAt j = s.runAt j := by
  obtain ⟨number, desks, l, h⟩ := raiseIn_eq s i y
  rw [h]
  exact ⟨⟨s.newIncident y number, by simp [State.incAt, get1_mod1_self, hz], rfl⟩, fun _ => rfl⟩

theorem keepsTable_raiseAuto {z : IncSlot} (hz : get1 s.itb.slots i = some z) (hf : z.inc = none) (c : AutoCause)
    (d : AutoDetail) (n : Nat) : KeepsTable s (s.raiseAuto i c d n) := by
  have raised := keepsTable_raiseIn hz hf ⟨c.kind, c.severity, .engine, some c, some d, n⟩
  obtain ⟨⟨x, hx, none⟩, -⟩ := raiseIn_reads hz ⟨c.kind, c.severity, .engine, some c, some d, n⟩
  simp only [State.raiseAuto]
  split
  · next j hj =>
    split
    · next room =>
      obtain ⟨y, hy, len⟩ := Option.any_eq_true _ _ |>.1 room
      exact raised.trans (keepsTable_linkBoth hx hy (by simp [none]) (by simp [none]) (by simpa using len))
    · exact raised
  · exact raised

/-- A change of the Incident Table that leaves its slots. -/
theorem onItb_ledger (s : State) {f : Itb → Itb} (h : (f s.itb).slots = s.itb.slots) :
    (s.onItb f).ledger = s.ledger := by
  have incAt (j : Nat) : (s.onItb f).incAt j = s.incAt j := by simp [State.incAt, h]
  have handle (j : Nat) : (s.onItb f).incHandle j = s.incHandle j := by simp [State.incHandle, h]
  exact ledger_congr (fun _ => rfl) (fun j => by simp only [State.ledger, incAt, handle]) rfl (fun _ => rfl)
    (fun _ => rfl) rfl

theorem keepsTable_requestAuto (s : State) (c : AutoCause) (d : AutoDetail) : KeepsTable s (s.requestAuto c d) := by
  unfold State.requestAuto
  split
  · exact .refl s
  · split
    · next j hj =>
      obtain ⟨z, hz, hf⟩ := freeInc_eq_some hj
      exact keepsTable_raiseAuto hz hf c d 1
    · exact .of_eq (onItb_ledger s rfl)

theorem keepsTable_conflict (s : State) (h p : Nat) (k : ConflictKind) : KeepsTable s (s.conflict h p k) :=
  keepsTable_requestAuto ..

theorem keepsTable_conflict? (s : State) (h p : Nat) (k : Option ConflictKind) : KeepsTable s (s.conflict? h p k) := by
  unfold State.conflict?
  split
  · exact keepsTable_conflict ..
  · exact .refl s

end Sys2Proof.Machine
end

/-! ## Movement reports keep the run table and the links (R55 to R66) -/

section
namespace Sys2Proof.Machine
variable {s t u : State} {i : Nat} {x : Run} {st : RunState}

/-! ### Segment queues -/

theorem Ledger.setState_setState (l : Ledger) (i : Nat) (a b : RunState) :
    (l.setState i a).setState i b = l.setState i b := by
  refine congrArg (fun r => { l with run := r }) (funext fun j => ?_)
  simp only [Ledger.setState]
  split
  · rw [Option.map_map]; rfl
  · rfl

theorem leaveSegment_ledger (s : State) (g h : Nat) : (s.leaveSegment g h).ledger =
    { s.ledger with queue := fun k => if g = k then (s.ledger.queue k).filter (· != h) else s.ledger.queue k } := by
  have : (s.leaveSegment g h).ledger = { s.ledger with queue := (s.leaveSegment g h).ledger.queue } := rfl
  rw [this]
  refine congrArg (fun q => { s.ledger with queue := q }) (funext fun k => ?_)
  simp only [State.ledger, State.leaveSegment, modSeg_seg]
  split
  · simp only [State.seg]
    cases get1 s.mvt.segs k <;> rfl
  · rfl

theorem enterSegment_ledger (s : State) (g h : Nat) : ∃ q, (s.enterSegment g h).ledger = { s.ledger with queue := q } ∧
    ∀ k, q k = s.ledger.queue k ∨ (k = g ∧ (q k).Perm (h :: s.ledger.queue k)) := by
  refine ⟨(s.enterSegment g h).ledger.queue, rfl, fun k => ?_⟩
  simp only [State.ledger, State.enterSegment, modSeg_seg]
  split
  · next e =>
    simp only [State.seg]
    cases get1 s.mvt.segs k with
    | none => exact .inl rfl
    | some z => exact .inr ⟨e.symm, List.perm_append_singleton h z.queue⟩
  · exact .inl rfl

theorem seg_queue_range {g h : Nat} (hh : h ∈ (s.seg g).queue) : g ∈ ids 48 := by
  simp only [State.seg] at hh
  cases hg : get1 s.mvt.segs g with
  | none => simp [hg] at hh
  | some z => exact mem_ids.2 (get1_some_range hg)

/-- A run that stands in a queue is found there. -/
theorem queueOf_isSome {g h : Nat} (hh : h ∈ (s.seg g).queue) : ∃ k, s.queueOf h = some k ∧ h ∈ (s.seg k).queue := by
  cases hq : s.queueOf h with
  | none =>
    have := List.find?_eq_none.1 hq g (seg_queue_range hh)
    simp [hh] at this
  | some k => exact ⟨k, rfl, by simpa using List.find?_some hq⟩

theorem not_queued_of_queueOf {h : Nat} (hn : s.queueOf h = none) (g : Nat) : h ∉ s.ledger.queue g := fun hh => by
  obtain ⟨k, hk, -⟩ := queueOf_isSome (s := s) hh
  rw [hn] at hk
  cases hk

/-- A run leaves the queue in which it stands: each list loses at most the run, which stands in none then. -/
theorem leaveQueue_ledger (s : State) (h : Nat) : ∃ q,
    (s.leaveSegment ((s.queueOf h).getD 0) h).ledger = { s.ledger with queue := q } ∧
      (∀ k, (q k).Sublist (s.ledger.queue k)) ∧ (s.ledger.Sound → ∀ k, h ∉ q k) := by
  refine ⟨_, leaveSegment_ledger .., fun k => ?_, fun hs k hk => ?_⟩
  · split
    · exact List.filter_sublist
    · exact .refl _
  · split at hk
    · simp at hk
    · next hne =>
      obtain ⟨g, hg, hin⟩ := queueOf_isSome (s := s) hk
      exact hne (by rw [hg]; exact hs.queues.2 g k h hin hk)

/-- The queues once the run in a slot, which stood in none, has taken a state on the track and entered one. -/
theorem Ledger.Sound.queues_enter {l : Ledger} {e : RunEntry} (hl : l.Sound) (hn : ∀ g, e.handle ∉ l.queue g)
    (hst : st.onTrack) {q : Nat → List Nat} {g : Nat}
    (hq : ∀ k, q k = l.queue k ∨ (k = g ∧ (q k).Perm (e.handle :: l.queue k))) :
    Listed (fun h => if h = e.handle then st.onTrack else l.names RunState.onTrack h) q :=
  (hl.queues.without (fun _ => .refl _) hn).insert ((if_pos rfl).mpr hst) hn hq

/-! ### Arrivals (R60 to R63) -/

theorem reachStop_ledger (s : State) (i m : Nat) : ∃ q,
    (s.reachStop i m).ledger = { s.ledger.setState i .dwelling with queue := q } ∧
      (∀ k, (q k).Sublist (s.ledger.queue k)) ∧ (s.ledger.Sound → ∀ k, s.runHandle i ∉ q k) := by
  obtain ⟨q, left, sub, out⟩ := leaveQueue_ledger s (s.runHandle i)
  refine ⟨q, ?_, sub, out⟩
  rw [State.reachStop, modRun_ledger_state _ i fun y h => arriveAt_entry y m s.now h, left]
  rfl

/-- A run on the track leaves its queue and takes another state, in which it waits no more. -/
theorem Regulated.leaveTrack (hx : s.runAt i = some x) (he : x.state.onTrack) (hst : st ≠ .released)
    {q : Nat → List Nat} (ht : t.ledger = { s.ledger.setState i st with queue := q })
    (sub : ∀ k, (q k).Sublist (s.ledger.queue k)) (out : s.ledger.Sound → ∀ k, s.runHandle i ∉ q k) : Regulated s t := by
  have state : (x.entry (s.runHandle i)).state ≠ .released ∧ (x.entry (s.runHandle i)).state ≠ .held := by
    rcases he with h | h <;> simp [Run.entry, h]
  refine .of_ledger ht (setState_links ..) fun hs => ?_
  exact hs.change (n := s.ledger.released) (ledger_run hx) (ledger_slots (ledger_run hx)) (by simp [state.1, hst])
    (hs.queues.without sub (out hs)) (hs.waits_stay (ledger_run hx) state.2)

/-- A state whose ledger is the same has the same run in a slot, as far as the ledger shows. -/
theorem exists_run_of_eq (h : t.ledger = s.ledger) (hx : s.runAt i = some x) :
    ∃ y, t.runAt i = some y ∧ y.state = x.state ∧ t.runHandle i = s.runHandle i :=
  exists_run_of_ledger (by rw [h]) hx

theorem regulated_arriveDwelling (hx : s.runAt i = some x) (he : x.state.onTrack) (m : Nat) (r : Run) :
    Regulated s (s.arriveDwelling i m r) := by
  have left := leaveMerges_ledger s r r.cur m i
  obtain ⟨y, hy, state, -⟩ := exists_run_of_eq left hx
  obtain ⟨q, reached, sub, out⟩ := reachStop_ledger (s.leaveMerges r r.cur m i) i m
  refine .after left (.trans (.leaveTrack (st := .dwelling) hy (state ▸ he) (by simp) ?_ sub out)
    (regulated_queueChanged ..))
  rw [computeRelease_ledger, returnClaim_ledger, occupy_ledger, reached]

theorem regulated_arriveTerminal (hx : s.runAt i = some x) (he : x.state.onTrack) (m : Nat) (r : Run) :
    Regulated s (s.arriveTerminal i m r) := by
  have left := leaveEveryMerge_ledger s i
  obtain ⟨y, hy, state, -⟩ := exists_run_of_eq left hx
  obtain ⟨q, reached, sub, out⟩ := reachStop_ledger (s.leaveEveryMerge i) i m
  have ended : Regulated (s.leaveEveryMerge i) ((((s.leaveEveryMerge i).reachStop i m).modRun i
      fun x => { x with state := .terminated }).returnClaim i) := by
    refine .leaveTrack (st := .terminated) hy (state ▸ he) (by simp) ?_ sub out
    rw [returnClaim_ledger, modRun_ledger_state _ i (st := .terminated) fun _ _ => rfl, reached]
    exact congrArg (fun l : Ledger => { l with queue := q }) (Ledger.setState_setState ..)
  have moved := (Regulated.after left ended).trans (regulated_queueChanged _ ((s.queueOf (s.runHandle i)).getD 0))
  simp only [State.arriveTerminal]
  split
  · exact moved
  · exact moved.then (endRun_ledger ..)

theorem keepsTable_arrivedOnTrack (hx : s.runAt i = some x) (he : x.state.onTrack) (p : Nat) :
    KeepsTable s (s.arrivedOnTrack i x p) := by
  unfold State.arrivedOnTrack
  dsimp only
  split
  · split
    · exact .refl s
    · exact keepsTable_conflict ..
  · split
    · exact (regulated_arriveTerminal hx he ..).keeps.trans (keepsTable_conflict? ..)
    · split
      · exact keepsTable_conflict ..
      · exact (regulated_arriveDwelling hx he ..).keeps.trans (keepsTable_conflict? ..)

theorem keepsTable_arrivedPlanned (hx : s.runAt i = some x) (he : x.state = .planned) (p : Nat) :
    KeepsTable s (s.arrivedPlanned i x p) := by
  unfold State.arrivedPlanned
  dsimp only
  split
  · exact keepsTable_conflict ..
  · split
    · exact keepsTable_conflict ..
    · exact (regulated_placeRun hx he).keeps

theorem keepsTable_settleArrived (hx : s.runAt i = some x) (p : Nat) : KeepsTable s (s.settleArrived i x p) := by
  unfold State.settleArrived
  cases hst : x.state with
  | planned => exact keepsTable_arrivedPlanned hx hst p
  | dwelling | held | released =>
    dsimp only
    split
    · exact .refl s
    · exact keepsTable_conflict ..
  | running => exact keepsTable_arrivedOnTrack hx (.inl hst) p
  | cancelled =>
    dsimp only
    split
    · exact keepsTable_arrivedOnTrack hx (.inr hst) p
    · exact keepsTable_conflict ..
  | terminated => exact keepsTable_conflict ..

/-! ### Departures (R64, R65) -/

theorem departInto_entry (y : Run) (k h : Nat) (f : Stop → Stop) (st : RunState) :
    Run.entry { y.modStop k f with state := st, cur := k + 1, causes := Causes.none } h = (y.entry h).to st :=
  congrArg (fun e : RunEntry => e.to st) (modStop_entry y k h f)

theorem departInto_ledger (s : State) (i k g : Nat) (st : RunState) : ∃ q,
    (s.departInto i k g st).ledger = { s.ledger.setState i st with queue := q } ∧
      ∀ j, q j = s.ledger.queue j ∨ (j = g ∧ (q j).Perm (s.runHandle i :: s.ledger.queue j)) := by
  obtain ⟨q, entered, grown⟩ := enterSegment_ledger s g (s.runHandle i)
  refine ⟨q, ?_, grown⟩
  rw [State.departInto, modRun_ledger_state _ i fun y h => departInto_entry y k h _ st, entered]
  rfl

theorem departInto_runHandle (s : State) (i k g j : Nat) (st : RunState) :
    (s.departInto i k g st).runHandle j = s.runHandle j := modRun_runHandle ..

theorem keepsTable_departReleased (hx : s.runAt i = some x) (he : x.state = .released) (p : Nat) :
    KeepsTable s (s.departReleased i x p) := by
  simp only [State.departReleased]
  split
  · exact keepsTable_conflict ..
  · obtain ⟨q, entered, grown⟩ := departInto_ledger s i x.cur
      (((s.reg i).releaseSegment).getD (s.segmentAfter x x.cur)) .running
    refine Regulated.keeps (.trans ?_ ((regulated_vacate ..).trans (regulated_queueChanged ..)))
    have state : (x.entry (s.runHandle i)).state = .released := he
    refine .of_ledger (l := { s.ledger.setState i .running with released := s.ledger.released - 1, queue := q }) ?_
      (setState_links ..) fun hs => ?_
    · rw [countDeparture_ledger, startClaimTimer_ledger, lowerReleased_ledger, modReg_ledger]
      exact congrArg (fun l : Ledger => { l with released := l.released - 1 }) entered
    · have lapsed := (hs.lapse (st := .running) (ledger_run hx) (ledger_slots (ledger_run hx)) he (by simp)).count
      have gone := countReleased_setState (st := .running) (ledger_run hx) (ledger_slots (ledger_run hx))
      have := hs.count
      refine hs.change (st := .running) (ledger_run hx) (ledger_slots (ledger_run hx)) ?_
        (hs.queues_enter (hs.not_queued (ledger_run hx) (by simp [state, RunState.onTrack])) (.inl rfl) grown)
        (hs.waits_stay (ledger_run hx) (by simp [state]))
      simp only [state, if_true, reduceCtorEq, if_false] at gone ⊢
      omega

theorem keepsTable_departUnreleased (hx : s.runAt i = some x) (he : x.state ≠ .released)
    (hq : s.ledger.Sound → ∀ g, s.runHandle i ∉ s.ledger.queue g) (p : Nat) (stamps : Bool) :
    KeepsTable s (s.departUnreleased i x p stamps) := by
  unfold State.departUnreleased
  extract_lets h seg st departed arrived stamped left counted cleared
  split
  · exact keepsTable_conflict ..
  · have track : st.onTrack := by unfold st; split; exacts [.inr rfl, .inl rfl]
    obtain ⟨q, entered, grown⟩ := departInto_ledger s i x.cur seg st
    have arrival : arrived.ledger = departed.ledger ∧ arrived.runHandle i = departed.runHandle i := by
      unfold arrived
      split
      · exact ⟨modRun_ledger_same departed i fun y h => modStop_entry y.leavePlanned _ h _, modRun_runHandle ..⟩
      · exact ⟨rfl, rfl⟩
    have stamp : stamped.ledger = arrived.ledger ∧ stamped.runHandle i = arrived.runHandle i := by
      unfold stamped
      split <;> exact ⟨rfl, rfl⟩
    have handle : stamped.runHandle i = s.runHandle i :=
      (stamp.2.trans arrival.2).trans (departInto_runHandle ..)
    have moved : Regulated s left := by
      refine .of_ledger (l := ({ s.ledger.setState i st with queue := q } : Ledger).unwait (s.runHandle i)) ?_
        (setState_links ..) fun hs => ?_
      · rw [leaveRegulation_ledger, handle, stamp.1, arrival.1, entered]
      · refine hs.change (st := st) (n := s.ledger.released) (ledger_run hx) (ledger_slots (ledger_run hx)) ?_
          (hs.queues_enter (hq hs) track grown) (hs.waits_left _)
        rw [if_neg (show (x.entry (s.runHandle i)).state ≠ .released from he),
          if_neg (by rcases track with h | h <;> simp [h])]
    have count : Regulated left counted := by
      unfold counted
      split
      · exact .of_eq (countDeparture_ledger ..)
      · exact .refl _
    have clear : Regulated counted cleared := by
      unfold cleared
      split
      · exact .of_eq (evalHorizon_ledger _)
      · exact regulated_vacate ..
    exact (Regulated.keeps (moved.trans (count.trans (clear.trans (regulated_queueChanged ..))))).trans
      (keepsTable_conflict ..)

theorem keepsTable_departedOnTrack (s : State) (i : Nat) (x : Run) (p : Nat) :
    KeepsTable s (s.departedOnTrack i x p) := by
  unfold State.departedOnTrack
  split
  · exact .refl s
  · exact keepsTable_conflict ..

/-- A run that is not on the track stands in no queue of a sound run table. -/
theorem not_queued (hx : s.runAt i = some x) (ht : ¬ x.state.onTrack) (hs : s.ledger.Sound) (g : Nat) :
    s.runHandle i ∉ s.ledger.queue g := hs.not_queued (ledger_run hx) ht g

theorem keepsTable_settleDeparted (hx : s.runAt i = some x) (p : Nat) : KeepsTable s (s.settleDeparted i x p) := by
  unfold State.settleDeparted
  cases hst : x.state with
  | planned | dwelling | held =>
    dsimp only
    split
    · exact keepsTable_departUnreleased hx (by simp [hst]) (not_queued hx (by simp [hst, RunState.onTrack])) p true
    · exact keepsTable_conflict ..
  | released =>
    dsimp only
    split
    · exact keepsTable_departReleased hx hst p
    · exact keepsTable_conflict ..
  | running => exact keepsTable_departedOnTrack ..
  | cancelled =>
    dsimp only
    split
    · exact keepsTable_departedOnTrack ..
    · next hq =>
      split
      · exact keepsTable_departUnreleased hx (by simp [hst])
          (fun _ => not_queued_of_queueOf (by simpa using hq)) p true
      · exact keepsTable_conflict ..
  | terminated =>
    dsimp only
    split
    · exact .refl s
    · exact keepsTable_conflict ..

/-! ### Passing (R66) -/

theorem passed_entry (y : Run) (m h : Nat) (f : Stop → Stop) :
    Run.entry { y.modStop m f with cur := m + 1 } h = y.entry h := modStop_entry y m h f

theorem regulated_passThrough (hx : s.runAt i = some x) (he : x.state.onTrack) (m : Nat) (r : Run) :
    Regulated s (s.passThrough i m r) := by
  obtain ⟨q, left, sub, out⟩ := leaveQueue_ledger s (s.runHandle i)
  obtain ⟨q', entered, grown⟩ := enterSegment_ledger
    ((s.leaveSegment ((s.queueOf (s.runHandle i)).getD 0) (s.runHandle i)).leaveMerges r r.cur m i)
    (s.segmentAfter r m) (s.runHandle i)
  rw [leaveMerges_ledger, left] at entered grown
  refine Regulated.trans ?_ ((regulated_queueChanged ..).trans (regulated_queueChanged ..))
  refine .of_ledger (l := { s.ledger with queue := q' }) ?_ rfl fun hs => ?_
  · rw [returnClaim_ledger, modRun_ledger_same _ i fun y h => passed_entry y m h _]
    exact entered
  · exact { hs with
      queues := (hs.queues.sublist sub).insert (h := s.runHandle i) ⟨i, _, ledger_run hx, rfl, he⟩ (out hs) grown }

theorem keepsTable_passedOnTrack (hx : s.runAt i = some x) (he : x.state.onTrack) (p : Nat) :
    KeepsTable s (s.passedOnTrack i x p) := by
  unfold State.passedOnTrack
  dsimp only
  split
  · split
    · exact .refl s
    · exact keepsTable_conflict ..
  · split
    · exact (regulated_arriveTerminal hx he ..).keeps.trans (keepsTable_conflict? ..)
    · split
      · exact keepsTable_conflict ..
      · exact (regulated_passThrough hx he ..).keeps.trans (keepsTable_conflict? ..)

theorem keepsTable_settlePassed (hx : s.runAt i = some x) (p : Nat) : KeepsTable s (s.settlePassed i x p) := by
  unfold State.settlePassed
  cases hst : x.state with
  | planned =>
    dsimp only
    split
    · exact keepsTable_departUnreleased hx (by simp [hst]) (not_queued hx (by simp [hst, RunState.onTrack])) p false
    · exact keepsTable_conflict ..
  | running => exact keepsTable_passedOnTrack hx (.inl hst) p
  | cancelled =>
    dsimp only
    split
    · exact keepsTable_passedOnTrack hx (.inr hst) p
    · exact keepsTable_conflict ..
  | dwelling | held | released | terminated => exact keepsTable_conflict ..

/-! ### Taking a report (R58, R71) -/

theorem onMvt_ledger (s : State) {f : Mvt → Mvt} (h : (f s.mvt).segs = s.mvt.segs) :
    (s.onMvt f).ledger = s.ledger :=
  ledger_congr (fun _ => rfl) (fun _ => rfl) rfl (fun g => by simp [State.seg, h]) (fun _ => rfl) rfl

theorem regulated_restartStale (s : State) : Regulated s s.restartStale := by
  have timed : (s.onMvt fun m => { m with staleTimer := some (s.after s.lds.params.tStale), stale := false }).ledger =
      s.ledger := onMvt_ledger s rfl
  simp only [State.restartStale]
  split
  · exact .after timed (regulated_staleChanged ..)
  · exact .of_eq timed

theorem runNumbered_runAt {n : Nat} {r : Run} (h : s.runNumbered n = some (i, r)) : s.runAt i = some r :=
  mem_liveRuns.1 (List.mem_of_find?_eq_some h)

theorem keepsTable_takeMovement (s : State) (n p : Nat) {f : State → Nat → Run → Nat → State}
    (hf : ∀ (t : State) i r p, t.runAt i = some r → KeepsTable t (f t i r p)) : KeepsTable s (s.takeMovement n p f) := by
  simp only [State.takeMovement]
  split
  · exact .of_eq (countUnmatched_ledger s)
  · refine (regulated_restartStale s).keeps.trans (KeepsTable.trans ?_ (regulated_serveLeft _ s).keeps)
    split
    · exact .of_eq (countUnmatched_ledger _)
    · next j r hr => exact hf _ j r p (runNumbered_runAt hr)

theorem keepsTable_staleExpiry (s : State) : KeepsTable s s.staleExpiry := by
  have timed : (s.onMvt fun m => { m with staleTimer := none, stale := true }).ledger = s.ledger := onMvt_ledger s rfl
  refine KeepsTable.trans ?_ (keepsTable_requestAuto ..)
  split
  · exact .of_eq timed
  · exact (Regulated.after timed (regulated_staleChanged ..)).keeps

end Sys2Proof.Machine
end

/-! ## Loading and retiring, raising and retiring keep the run table and the links (R35, R45, R131, R142) -/

section
namespace Sys2Proof.Machine

/-! ### Lists that lose a handle in the records that stand in a list -/

/-- The list of the record with a handle changed. -/
def Links.onHandle (a : Links) (k : Nat) (f : List Nat → List Nat) : Links := fun j =>
  (a j).map fun p => (p.1, if p.1 = k then f p.2 else p.2)

/-- The lists of the records with given handles changed. -/
def Links.onThose (a : Links) (ks : List Nat) (f : List Nat → List Nat) : Links := fun j =>
  (a j).map fun p => (p.1, if p.1 ∈ ks then f p.2 else p.2)

section
variable {a b : Links} {i h k : Nat} {l ks : List Nat} {f : List Nat → List Nat}

theorem onHandle_onThose (hf : ∀ m, f (f m) = f m) : (a.onHandle k f).onThose ks f = a.onThose (k :: ks) f := by
  funext j
  simp only [Links.onHandle, Links.onThose, Option.map_map]
  refine congrArg (fun g => Option.map g (a j)) (funext fun p => ?_)
  by_cases hk : p.1 = k <;> by_cases hks : p.1 ∈ ks <;> simp [hk, hks, hf]

/-- A record in a slot is the one with its handle: changing it by slot or by handle is the same. -/
theorem on_eq_onHandle (da : a.Distinct) (hi : a i = some (k, l)) : a.on i f = a.onHandle k f := by
  funext j
  simp only [Links.on, Links.onHandle]
  split
  · next e => subst e; simp [hi]
  · next e =>
    cases hj : a j with
    | none => rfl
    | some p =>
      have : p.1 ≠ k := fun h => e (da i j k l p.2 hi (by rw [hj, ← h]))
      simp [this]

theorem onHandle_absent (hk : ∀ j p, a j = some p → p.1 ≠ k) : a.onHandle k f = a := by
  funext j
  simp only [Links.onHandle]
  cases hj : a j with
  | none => rfl
  | some p => simp [hk j p hj]

/-- Of records that list each other, only those that a record lists have its handle in their lists. -/
theorem Matched.onThose_eq_onAll (hm : Matched a b) (db : b.Distinct) (hi : b i = some (h, ks)) :
    a.onThose ks (·.filter (· != h)) = a.onAll (·.filter (· != h)) := by
  funext j
  simp only [Links.onThose, Links.onAll]
  cases hj : a j with
  | none => rfl
  | some p =>
    obtain ⟨c, m⟩ := p
    simp only [Option.map_some, Option.some.injEq, Prod.mk.injEq, true_and]
    split
    · rfl
    · next hc =>
      refine (List.filter_eq_self.2 fun d hd => ?_).symm
      simp only [bne_iff_ne, ne_eq]
      rintro rfl
      obtain ⟨-, -, back⟩ := hm.1 j c m hj
      obtain ⟨e, o, he, ho⟩ := back d hd
      obtain rfl := db e i d o ks he hi
      rw [hi] at he
      cases he
      exact hc ho

end

variable {s t u : State} {i : Nat} {x : Run}

/-- A resolved handle as a slot. -/
theorem slot?_eq_some {y : Resolved} {j : Nat} (h : y.slot? = some j) : y = .live j := by
  cases y <;> simp_all [Resolved.slot?]

/-- A handle of no live incident resolves to no slot. -/
theorem absent_inc {h : Nat} (hn : (s.resolveInc h).slot? = none) (j : Nat) (p : Nat × List Nat)
    (hp : s.ledger.links.2 j = some p) : p.1 ≠ h := by
  rintro rfl
  obtain ⟨y, hy, hh, -⟩ := links_inc.1 (show s.ledger.links.2 j = some (p.1, p.2) from hp)
  rw [← hh, resolveInc_incHandle hy] at hn
  cases hn

theorem absent_run {h : Nat} (hn : (s.resolveRun h).slot? = none) (j : Nat) (p : Nat × List Nat)
    (hp : s.ledger.links.1 j = some p) : p.1 ≠ h := by
  rintro rfl
  obtain ⟨y, hy, hh, -⟩ := links_run.1 (show s.ledger.links.1 j = some (p.1, p.2) from hp)
  rw [← hh, resolveRun_runHandle hy] at hn
  cases hn

/-- The list of an incident changed, by its handle. -/
theorem modIncOf_runs_links (s : State) (k : Nat) (f : List Nat → List Nat) :
    (s.modIncOf k fun x => { x with runs := f x.runs }).ledger.links =
      (s.ledger.links.1, Links.onHandle s.ledger.links.2 k f) := by
  unfold State.modIncOf
  split
  · next j hj =>
    obtain ⟨rfl, y, hy⟩ := resolveInc_live (slot?_eq_some hj)
    rw [modInc_runs_links, on_eq_onHandle (distinct_incs s) (links_inc.2 ⟨y, hy, rfl, rfl⟩)]
  · next hn => rw [onHandle_absent (absent_inc hn)]

theorem forgetIncident_links (s : State) (h k : Nat) : (State.forgetIncident h s k).ledger.links =
    (Links.onHandle s.ledger.links.1 k (·.filter (· != h)), s.ledger.links.2) := by
  unfold State.forgetIncident
  split
  · next j hj =>
    obtain ⟨rfl, y, hy⟩ := resolveRun_live (slot?_eq_some hj)
    rw [modRun_incidents_links _ j (·.filter (· != h)),
      on_eq_onHandle (distinct_runs s) (links_run.2 ⟨y, hy, rfl, rfl⟩)]
  · next hn => rw [onHandle_absent (absent_run hn)]

/-- A handle leaves a list once. -/
theorem filter_filter_ne (h : Nat) (m : List Nat) : (m.filter (· != h)).filter (· != h) = m.filter (· != h) := by
  simp [List.filter_filter]

theorem onThose_nil (a : Links) (f : List Nat → List Nat) : a.onThose [] f = a := by
  funext j
  simp [Links.onThose]

/-- A run's handle leaves the lists of the incidents that its record names. -/
theorem unlinkRun_links (h : Nat) (ks : List Nat) (s : State) : (s.unlinkRun h ks).ledger.links =
    (s.ledger.links.1, Links.onThose s.ledger.links.2 ks (·.filter (· != h))) := by
  induction ks generalizing s with
  | nil => rw [onThose_nil]; rfl
  | cons k ks ih =>
    have := ih (s.modIncOf k fun x => { x with runs := x.runs.filter (· != h) })
    rw [modIncOf_runs_links s k (·.filter (· != h)), onHandle_onThose (filter_filter_ne h)] at this
    exact this

/-- An incident's handle leaves the lists of the runs that its record names. -/
theorem foldl_forgetIncident_links (h : Nat) (ks : List Nat) (s : State) :
    (ks.foldl (State.forgetIncident h) s).ledger.links =
      (Links.onThose s.ledger.links.1 ks (·.filter (· != h)), s.ledger.links.2) := by
  induction ks generalizing s with
  | nil => rw [onThose_nil]; rfl
  | cons k ks ih =>
    rw [List.foldl_cons, ih, forgetIncident_links, onHandle_onThose (filter_filter_ne h)]

/-! ### Retiring a run (R45) -/

/-- The ledger without the run in a slot. -/
def Ledger.dropRun (l : Ledger) (i : Nat) : Ledger := { l with run := fun j => if i = j then none else l.run j }

theorem retireRunSlot_ledger (s : State) (i : Nat) : (s.retireRunSlot i).ledger = s.ledger.dropRun i := by
  have : (s.retireRunSlot i).ledger = { s.ledger with run := (s.retireRunSlot i).ledger.run } := rfl
  rw [this]
  refine congrArg (fun r => { s.ledger with run := r }) (funext fun j => ?_)
  simp only [State.ledger, State.runAt, State.runHandle, State.retireRunSlot, State.modReg, State.onDrg, State.onRtb,
    get1_mod1]
  split
  · cases get1 s.rtb.slots j <;> rfl
  · rfl

/-- A run that is not RELEASED, stands in no queue and does not wait goes. -/
theorem Ledger.Sound.dropRun {l : Ledger} {e : RunEntry} (hl : l.Sound) (hi : l.run i = some e)
    (he : e.state ≠ .released) (hq : ∀ g, e.handle ∉ l.queue g) (hw : ∀ k, e.handle ∉ l.wait k) :
    (l.dropRun i).Sound := by
  have entry {j : Nat} {f : RunEntry} : (l.dropRun i).run j = some f ↔ i ≠ j ∧ l.run j = some f := by
    simp only [Ledger.dropRun]
    split <;> simp [*]
  have names {p : RunState → Prop} {h : Nat} (hn : h ≠ e.handle) (hh : l.names p h) : (l.dropRun i).names p h := by
    obtain ⟨j, f, hf, rfl, hp⟩ := hh
    refine ⟨j, f, entry.2 ⟨?_, hf⟩, rfl, hp⟩
    rintro rfl
    rw [hi] at hf
    cases hf
    exact hn rfl
  refine ⟨fun a b f g hf hg => hl.handles a b f g (entry.1 hf).2 (entry.1 hg).2, fun a f hf => hl.range a f (entry.1 hf).2,
    fun a b f g hf hg => hl.numbers a b f g (entry.1 hf).2 (entry.1 hg).2, hl.count.trans ?_,
    hl.queues.mono fun g h hh hp => names (fun e' => hq g (e' ▸ hh)) hp,
    hl.waits.mono fun g h hh hp => names (fun e' => hw g (e' ▸ hh)) hp, fun hs j => ?_⟩
  · refine congrArg List.length (List.filter_congr fun j _ => ?_)
    simp only [Ledger.dropRun]
    split
    · next e' => subst e'; simp [hi, he]
    · rfl
  · simp only [Ledger.dropRun]
    split
    · rfl
    · exact hl.setup hs j

theorem sound_unlinkRun (h : Nat) (ks : List Nat) (hs : s.ledger.Sound) : (s.unlinkRun h ks).ledger.Sound := by
  induction ks generalizing s with
  | nil => exact hs
  | cons k ks ih =>
    refine ih (s := s.modIncOf k _) ?_
    unfold State.modIncOf
    split
    · exact sound_modInc _ _ hs
    · exact hs

theorem unlinkRun_reads (h : Nat) (ks : List Nat) (s : State) :
    (s.unlinkRun h ks).ledger = { s.ledger with inc := (s.unlinkRun h ks).ledger.inc } := by
  induction ks generalizing s with
  | nil => rfl
  | cons k ks ih =>
    have step : (s.modIncOf k fun x => { x with runs := x.runs.filter (· != h) }).ledger = { s.ledger with
        inc := (s.modIncOf k fun x => { x with runs := x.runs.filter (· != h) }).ledger.inc } := by
      unfold State.modIncOf
      split <;> rfl
    refine (ih (s.modIncOf k _)).trans ?_
    rw [step]
    rfl

theorem dropRun_links (l : Ledger) (i : Nat) : (l.dropRun i).links = (Links.drop l.links.1 i, l.links.2) := by
  refine Prod.ext (funext fun j => ?_) rfl
  simp only [Ledger.links, Ledger.dropRun, Links.drop]
  split <;> rfl

theorem keepsTable_retire (hx : s.runAt i = some x) (hr : s.mayRetire i x = true) : KeepsTable s (s.retire i x) := by
  have ended : (if x.state = .planned then s.endRun i else s).ledger = s.ledger := by
    rw [ite_ledger, endRun_ledger, ite_self]
  simp only [State.retire]
  generalize (if x.state = .planned then s.endRun i else s) = v at ended
  refine KeepsTable.trans (.of_eq ended) (KeepsTable.trans ?_ (.of_eq (evalHorizon_ledger _)))
  have hl : v.ledger.run i = some (x.entry (s.runHandle i)) := by rw [ended]; exact ledger_run hx
  have listed : v.ledger.links.1 i = some (s.runHandle i, x.incidents) := by
    rw [ended]; exact links_run.2 ⟨x, hx, rfl, rfl⟩
  have gone : (State.retireRunSlot (State.withdrawAll (v.unlinkRun (s.runHandle i) x.incidents)
      ((v.unlinkRun (s.runHandle i) x.incidents).announcementsOf (s.runHandle i))) i).ledger =
        (v.unlinkRun (s.runHandle i) x.incidents).ledger.dropRun i := by
    rw [retireRunSlot_ledger, withdrawAll_ledger]
  have state : x.state ≠ .released ∧ x.state ≠ .held ∧ (x.state.onTrack → s.queueOf (s.runHandle i) = none) := by
    unfold State.mayRetire at hr
    cases hst : x.state <;> simp_all [RunState.onTrack]
  obtain ⟨released, held, queue⟩ := state
  refine ⟨fun hs => gone.symm.subst ?_, fun hs => agree_iff.2 ?_⟩
  · refine (sound_unlinkRun _ _ hs).dropRun (e := x.entry (s.runHandle i)) ?_ released ?_ ?_
    · rw [unlinkRun_reads]; exact hl
    · intro g
      rw [unlinkRun_reads]
      by_cases ht : x.state.onTrack
      · rw [ended]; exact not_queued_of_queueOf (queue ht) g
      · exact hs.not_queued hl ht g
    · intro k
      rw [unlinkRun_reads]
      exact hs.not_waiting hl held k
  · have hm := agree_iff.1 hs
    rw [gone, dropRun_links, unlinkRun_links, hm.symm.onThose_eq_onAll (distinct_runs v) listed]
    exact hm.forget (distinct_runs v) listed

/-! ### Loading a run (R35) -/

theorem freeRun_eq_some (h : s.freeRun = some i) : ∃ z, get1 s.rtb.slots i = some z ∧ z.run = none := by
  have := List.find?_some h
  cases hz : get1 s.rtb.slots i with
  | none => rw [hz] at this; cases this
  | some z => exact ⟨z, rfl, by rw [hz] at this; simpa using this⟩

/-- The ledger with a PLANNED run in a slot, linked to nothing. -/
def Ledger.addRun (l : Ledger) (i h n : Nat) : Ledger :=
  { l with run := fun j => if i = j then some ⟨h, n, .planned, []⟩ else l.run j }

theorem loadIn_ledger {z : RunSlot} (hz : get1 s.rtb.slots i = some z) (b : LoadBody) :
    (s.loadIn i b).ledger = s.ledger.addRun i (s.runHandle i) b.number := by
  rw [State.loadIn, evalHorizon_ledger, modReg_ledger]
  refine Eq.trans (b := { s.ledger with run := (s.onRtb fun x =>
    { x with slots := mod1 x.slots i fun y => { y with run := some (s.newRun b) } }).ledger.run }) rfl ?_
  refine congrArg (fun r => { s.ledger with run := r }) (funext fun j => ?_)
  simp only [State.ledger, State.runAt, State.runHandle, State.onRtb, get1_mod1]
  split
  · next e =>
    subst e
    rw [hz]
    rfl
  · rfl

/-- A PLANNED run with a free number joins the run table. -/
theorem Ledger.Sound.addRun {l : Ledger} {h n : Nat} (hl : l.Sound) (hi : l.run i = none)
    (hh : ∀ j f, l.run j = some f → f.handle ≠ h) (range : 1 ≤ n ∧ n ≤ 9999)
    (hn : ∀ j f, l.run j = some f → f.number ≠ n) (hs : l.service = true) : (l.addRun i h n).Sound := by
  have entry {j : Nat} {f : RunEntry} (hf : (l.addRun i h n).run j = some f) :
      (i = j ∧ f = ⟨h, n, .planned, []⟩) ∨ l.run j = some f := by
    simp only [Ledger.addRun] at hf
    split at hf
    · next e => exact .inl ⟨e, (Option.some.inj hf).symm⟩
    · exact .inr hf
  have names {p : RunState → Prop} {k : Nat} (hk : l.names p k) : (l.addRun i h n).names p k := by
    obtain ⟨j, f, hf, rfl, hp⟩ := hk
    refine ⟨j, f, ?_, rfl, hp⟩
    simp only [Ledger.addRun]
    rw [if_neg]
    · exact hf
    · rintro rfl
      rw [hi] at hf
      cases hf
  refine ⟨fun a b f g hf hg e => ?_, fun a f hf => ?_, fun a b f g hf hg e => ?_, hl.count.trans ?_,
    hl.queues.mono fun _ _ _ => names, hl.waits.mono fun _ _ _ => names, fun h' => ?_⟩
  · rcases entry hf with ⟨rfl, rfl⟩ | hf <;> rcases entry hg with ⟨rfl, rfl⟩ | hg
    · rfl
    · exact absurd e.symm (hh b g hg)
    · exact absurd e (hh a f hf)
    · exact hl.handles a b f g hf hg e
  · rcases entry hf with ⟨rfl, rfl⟩ | hf
    · exact range
    · exact hl.range a f hf
  · rcases entry hf with ⟨rfl, rfl⟩ | hf <;> rcases entry hg with ⟨rfl, rfl⟩ | hg
    · rfl
    · exact absurd e.symm (hn b g hg)
    · exact absurd e (hn a f hf)
    · exact hl.numbers a b f g hf hg e
  · refine congrArg List.length (List.filter_congr fun j _ => ?_)
    simp only [Ledger.addRun]
    split
    · next e => subst e; simp [hi]
    · rfl
  · exact absurd (hs.symm.trans h') (by simp)

/-- No live run holds a number that is found with none. -/
theorem runNumbered_none {n : Nat} (h : s.runNumbered n = none) {j : Nat} {y : Run} (hy : s.runAt j = some y) :
    y.number ≠ n := by
  have := List.find?_eq_none.1 h (j, y) (mem_liveRuns.2 hy)
  simpa using this

theorem loadValid_number {b : LoadBody} (h : s.loadValid b = true) : 1 ≤ b.number ∧ b.number ≤ 9999 := by
  simp only [State.loadValid, Bool.and_eq_true, decide_eq_true_eq] at h
  omega

theorem keepsTable_settleLoadRun (r : Req) (s : State) : KeepsTable s (settleLoadRun r s).2 := by
  unfold settleLoadRun
  split
  · exact .refl s
  · next service =>
    split
    · exact .refl s
    · next b hb =>
      split
      · exact .refl s
      · next valid =>
        split
        · exact .refl s
        · next free =>
          split
          · exact .refl s
          · next i hi =>
            obtain ⟨z, hz, hn⟩ := freeRun_eq_some hi
            have ledger := loadIn_ledger hz b
            have empty : s.ledger.run i = none := ledger_run_none.2 (by simp [State.runAt, hz, hn])
            have range := get1_some_range hz
            refine ⟨fun hs => ledger.symm.subst ?_, fun hs => agree_iff.2 ?_⟩
            · refine hs.addRun empty (fun j f hf e => ?_) (loadValid_number (by simpa using valid)) (fun j f hf => ?_)
                (by simpa [State.ledger] using service)
              · obtain ⟨y, hy, rfl⟩ := ledger_run_eq_some.1 hf
                refine runHandle_ne (runAt_range hy).2 range.2 ?_ e
                rintro rfl
                rw [ledger_run hy] at empty
                cases empty
              · obtain ⟨y, hy, rfl⟩ := ledger_run_eq_some.1 hf
                exact runNumbered_none (by simpa using free) hy
            · have links : (s.ledger.addRun i (s.runHandle i) b.number).links =
                  (Links.add s.ledger.links.1 i (s.runHandle i), s.ledger.links.2) := by
                refine Prod.ext (funext fun j => ?_) rfl
                simp only [Ledger.links, Ledger.addRun, Links.add]
                split <;> rfl
              show Matched (State.ledger (s.loadIn i b)).links.1 (State.ledger (s.loadIn i b)).links.2
              rw [ledger, links]
              exact (agree_iff.1 hs).add (by simp [Ledger.links, empty]) _

/-! ### Raising and retiring incidents (R131, R142) -/

/-- An incident slot retired, as the ledger shows it. -/
theorem retireIncSlot_ledger (s : State) (i : Nat) :
    (s.retireIncSlot i).ledger = { s.ledger with inc := Links.drop s.ledger.inc i } := by
  refine Eq.trans (b := { s.ledger with inc := (s.retireIncSlot i).ledger.inc }) rfl ?_
  refine congrArg (fun r => { s.ledger with inc := r }) (funext fun j => ?_)
  show ((get1 (mod1 s.itb.slots i _) j).bind (·.inc)).map
    (fun x => (mkHandle ((get1 (mod1 s.itb.slots i _) j).elim 0 (·.gen)) j, x.runs)) = _
  rw [get1_mod1]
  unfold Links.drop
  split
  · cases get1 s.itb.slots j <;> rfl
  · rfl

/-- A freed slot is taken by a pending raise, or stays free. -/
theorem keepsTable_raisePending {z : IncSlot} (hz : get1 s.itb.slots i = some z) (hf : z.inc = none) :
    KeepsTable s (s.raisePending i) := by
  unfold State.raisePending
  split
  · exact .refl s
  · exact (keepsTable_raiseAuto hz hf _ _ _).trans (.of_eq (onItb_ledger _ rfl))

theorem sound_foldl_forgetIncident (h : Nat) (ks : List Nat) (hs : s.ledger.Sound) :
    (ks.foldl (State.forgetIncident h) s).ledger.Sound := by
  induction ks generalizing s with
  | nil => exact hs
  | cons k ks ih =>
    refine ih (s := State.forgetIncident h s k) ?_
    unfold State.forgetIncident
    split
    · next j hj => exact sound_modRun_incidents j (·.filter (· != h)) hs
    · exact hs

theorem forgetIncident_itb (h : Nat) (ks : List Nat) (s : State) :
    (ks.foldl (State.forgetIncident h) s).itb = s.itb :=
  foldl_same State.itb _ (fun t k => by unfold State.forgetIncident; split <;> rfl) ks s

theorem keepsTable_retireIncident {y : Incident} (hy : s.incAt i = some y) : KeepsTable s (s.retireIncident i y) := by
  have itb := forgetIncident_itb (s.incHandle i) y.runs s
  obtain ⟨z, hz⟩ : ∃ z, get1 s.itb.slots i = some z := get1_isSome _ (incAt_range hy).1 (incAt_range hy).2
  refine KeepsTable.trans (t := (y.runs.foldl (State.forgetIncident (s.incHandle i)) s).retireIncSlot i) ?_
    (keepsTable_raisePending (z := ⟨nextGen z.gen, none⟩) ?_ rfl)
  · refine ⟨fun hs => ?_, fun hs => agree_iff.2 ?_⟩
    · rw [retireIncSlot_ledger]
      exact (sound_foldl_forgetIncident _ _ hs).of_runs (fun _ => rfl) rfl rfl rfl rfl
    · have hm := agree_iff.1 hs
      have listed : s.ledger.links.2 i = some (s.incHandle i, y.runs) := links_inc.2 ⟨y, hy, rfl, rfl⟩
      rw [retireIncSlot_ledger]
      have links := foldl_forgetIncident_links (s.incHandle i) y.runs s
      refine (Eq.subst (motive := fun p : Links × Links => Matched p.1 (Links.drop p.2 i)) links.symm ?_)
      dsimp only
      rw [hm.onThose_eq_onAll (distinct_incs s) listed]
      exact (hm.symm.forget (distinct_incs s) listed).symm
  · simp only [State.retireIncSlot, State.onItb, get1_mod1_self, itb, hz]
    rfl

end Sys2Proof.Machine
end

/-! ## Requests keep the run table and the links -/

section
namespace Sys2Proof.Machine
variable {s t u : State} {i : Nat} {x : Run}

/-! ### The shape of a settlement (R31, R112, R127, R149) -/

theorem keepsTable_thenServe {y : Reply × State} (h : KeepsTable s y.2) : KeepsTable s (thenServe s y).2 :=
  h.trans (regulated_thenServe s y).keeps

theorem keepsTable_withRun {r : Req} {f : Nat → Run → Reply × State}
    (hf : ∀ i x, s.runAt i = some x → KeepsTable s (f i x).2) : KeepsTable s (s.withRun r f).2 := by
  unfold State.withRun
  split
  · exact .refl s
  · exact .refl s
  · exact .refl s
  · split
    · next x hx => exact hf _ x hx
    · exact .refl s

theorem keepsTable_withInc {r : Req} {f : Nat → Incident → Reply × State}
    (hf : ∀ i x, s.incAt i = some x → KeepsTable s (f i x).2) : KeepsTable s (s.withInc r f).2 := by
  unfold State.withInc
  split
  · exact .refl s
  · exact .refl s
  · exact .refl s
  · split
    · next x hx => exact hf _ x hx
    · exact .refl s

theorem keepsTable_withAnn {r : Req} {f : Nat → Announcement → Reply × State}
    (hf : ∀ i x, KeepsTable s (f i x).2) : KeepsTable s (s.withAnn r f).2 := by
  unfold State.withAnn
  split
  · exact .refl s
  · exact .refl s
  · exact .refl s
  · split
    · exact hf _ _
    · exact .refl s

theorem keepsTable_withId {r : Req} {n : Nat} {known : Nat → Bool} {f : Nat → Reply × State}
    (hf : ∀ i, KeepsTable s (f i).2) : KeepsTable s (s.withId r n known f).2 := by
  unfold State.withId
  dsimp only
  split
  · exact .refl s
  · split
    · exact .refl s
    · split
      · exact .refl s
      · exact hf _

theorem keepsTable_takeRequest {f : State → Reply × State} (hf : ∀ s, KeepsTable s (f s).2) (s : State) (k : ReqKind)
    (r : Req) : KeepsTable s (s.takeRequest k r f) := by
  unfold State.takeRequest
  dsimp only
  split
  · split
    · exact .of_eq rfl
    · refine KeepsTable.trans (.of_eq (recordRequest_ledger s k.code r)) ((hf _).trans (.of_eq ?_))
      rw [finish_ledger, writeAnswer_ledger]
  · exact .refl s

/-! ### The description (R2 to R16) -/

theorem onLds_ledger (s : State) {f : Lds → Lds} (h : (f s.lds).mode = s.lds.mode) :
    (s.onLds f).ledger = s.ledger :=
  ledger_congr (fun _ => rfl) (fun _ => rfl) rfl (fun _ => rfl) (fun _ => rfl) (by simp [State.inService, h])

theorem settleDefine_ledger {α : Type} (s : State) (parsed : Option (Nat × Option α)) (defined : Nat → Bool)
    {write : Nat → Option α → State} (hw : ∀ i x, (write i x).ledger = s.ledger) :
    (s.settleDefine parsed defined write).2.ledger = s.ledger := by
  unfold State.settleDefine State.unlocked
  split
  · rfl
  · split
    · rfl
    · exact hw _ _
    · split
      · exact hw _ _
      · rfl

theorem writeClient_ledger (s : State) (i : Nat) (x : Client) : (s.writeClient i x).ledger = s.ledger := by
  simp only [State.writeClient, ite_ledger, onCrp_ledger, ite_self]
  exact onLds_ledger s rfl

theorem settleDefineHeadwayBands_ledger (r : Req) (s : State) :
    (settleDefineHeadwayBands r s).2.ledger = s.ledger := by
  unfold settleDefineHeadwayBands State.unlocked
  split
  · rfl
  · split
    · rfl
    · exact onLds_ledger s rfl

theorem regulated_setParam (s : State) (y : ParamSetting) : Regulated s (s.setParam y) := by
  have written : (s.onLds fun d => { d with params := d.params.set y }).ledger = s.ledger := onLds_ledger s rfl
  unfold State.setParam
  dsimp only
  split
  · split
    · exact .after written (regulated_recompute ..)
    · exact .of_eq written
  · exact .of_eq written

theorem regulated_settleParam (s : State) (r : Req) : Regulated s (s.settleParam r).2 := by
  unfold State.settleParam
  split
  · exact .refl s
  · split
    · exact .refl s
    · split
      · exact .refl s
      · split
        · exact .refl s
        · split
          · exact .refl s
          · exact regulated_setParam ..

/-- With no run live, emptied queues make a sound ledger. -/
theorem Ledger.Sound.emptied {l l' : Ledger} (hl : l.Sound) (none : ∀ i, l.run i = none) (hrun : l'.run = l.run)
    (hreleased : l'.released = l.released) (hqueue : ∀ g, l'.queue g = []) (hwait : ∀ k, l'.wait k = []) : l'.Sound := by
  have idle (i : Nat) : l'.run i = Option.none := hrun ▸ none i
  refine ⟨fun i j e f he => ?_, fun i e he => ?_, fun i j e f he => ?_, ?_, ⟨fun g => ?_, fun g k h hg => ?_⟩,
    ⟨fun g => ?_, fun g k h hg => ?_⟩, fun _ => idle⟩
  · rw [idle] at he; cases he
  · rw [idle] at he; cases he
  · rw [idle] at he; cases he
  · rw [hreleased, hl.count, Ledger.countReleased, Ledger.countReleased, hrun]
  · rw [hqueue]; exact ⟨List.nodup_nil, fun _ h => absurd h (List.not_mem_nil)⟩
  · rw [hqueue] at hg; cases hg
  · rw [hwait]; exact ⟨List.nodup_nil, fun _ h => absurd h (List.not_mem_nil)⟩
  · rw [hwait] at hg; cases hg

theorem mvtFresh_queue {n : Option Nat} (ht : t.mvt = Mvt.fresh n) (g : Nat) : t.ledger.queue g = [] := by
  simp only [State.ledger, State.seg, ht]
  cases h : get1 (Mvt.fresh n).segs g with
  | none => rfl
  | some z => obtain rfl := get1_replicate_some h; rfl

theorem foldl_orderBoard_ledger (l : List Nat) (s : State) : (l.foldl State.orderBoard s).ledger = s.ledger :=
  foldl_ledger (fun t p => by unfold State.orderBoard; split <;> rfl) l s

/-- The blocks of `enterService` before the boards. -/
theorem enterService_ledger (s : State) : ∃ l, s.enterService.ledger = l ∧ l.run = s.ledger.run ∧
    l.inc = s.ledger.inc ∧ l.released = s.ledger.released ∧ (∀ g, l.queue g = []) ∧ ∀ k, l.wait k = [] := by
  refine ⟨_, rfl, ?_⟩
  rw [State.enterService, evalHorizon_ledger, markAllBoards_ledger, foldl_orderBoard_ledger]
  refine ⟨rfl, rfl, rfl, mvtFresh_queue rfl, fun k => ?_⟩
  simp only [State.ledger, State.sub, Tpc.enter, look_map_map]
  cases look s.lds.substations k <;> rfl

theorem keepsTable_settleEnterService (r : Req) (s : State) : KeepsTable s (settleEnterService r s).2 := by
  unfold settleEnterService
  split
  · exact .refl s
  · next setup =>
    split
    · exact .refl s
    · obtain ⟨l, hl, run, inc, released, queue, wait⟩ := enterService_ledger s
      have links : s.enterService.ledger.links = s.ledger.links := by rw [hl, Ledger.links, run, inc]; rfl
      refine ⟨fun hs => ?_, fun hs => agree_iff.2 ?_⟩
      · exact hl.symm.subst (hs.emptied (hs.setup (by simpa [State.ledger] using setup)) run released queue wait)
      · show Matched s.enterService.ledger.links.1 s.enterService.ledger.links.2
        rw [links]
        exact agree_iff.1 hs

theorem returnToSetup_ledger (s : State) : ∃ l, s.returnToSetup.ledger = l ∧ l.run = s.ledger.run ∧
    l.inc = s.ledger.inc ∧ l.released = s.ledger.released ∧ (∀ g, l.queue g = []) ∧ ∀ k, l.wait k = [] := by
  have told : (if s.mvt.stale then s.postLineEvent .staleCleared else s).ledger = s.ledger := by
    rw [ite_ledger, postLineEvent_ledger, ite_self]
  refine ⟨_, rfl, ?_⟩
  rw [← told]
  refine ⟨rfl, rfl, rfl, mvtFresh_queue rfl, fun k => ?_⟩
  simp only [State.ledger, State.sub, State.returnToSetup, Tpc.leave, look_replicate_none]
  rfl

theorem keepsTable_settleReturnToSetup (r : Req) (s : State) : KeepsTable s (settleReturnToSetup r s).2 := by
  unfold settleReturnToSetup
  split
  · exact .refl s
  · split
    · exact .refl s
    · next empty =>
      obtain ⟨l, hl, run, inc, released, queue, wait⟩ := returnToSetup_ledger s
      have links : s.returnToSetup.ledger.links = s.ledger.links := by rw [hl, Ledger.links, run, inc]; rfl
      have idle : s.liveRuns = [] := by
        simp only [State.mayNotReturn, Bool.or_eq_true, not_or] at empty
        simpa using empty.1.1
      refine ⟨fun hs => ?_, fun hs => agree_iff.2 ?_⟩
      · exact hl.symm.subst (hs.emptied (fun j => ledger_run_none.2 (liveRuns_eq_nil.1 idle j)) run released queue wait)
      · show Matched s.returnToSetup.ledger.links.1 s.returnToSetup.ledger.links.2
        rw [links]
        exact agree_iff.1 hs

/-! ### The clock (R22 to R28) -/

theorem settleSetClock_ledger (r : Req) (s : State) : (settleSetClock r s).2.ledger = s.ledger := by
  unfold settleSetClock settleSetClockService settleSetClockSetup
  (repeat' split) <;> rfl

theorem clearBoards_ledger (s : State) : s.clearBoards.ledger = s.ledger := by
  rw [clearBoards_eq]
  rfl

/-- The slots freed at the rollover are taken in turn, with no run live (R145). -/
theorem keepsTable_foldl_raisePending (l : List Nat) (s : State) (hl : l.Nodup) (none : ∀ j, s.runAt j = none)
    (free : ∀ i ∈ l, ∀ z, get1 s.itb.slots i = some z → z.inc = Option.none)
    (here : ∀ i ∈ l, ∃ z, get1 s.itb.slots i = some z) : KeepsTable s (l.foldl State.raisePending s) := by
  induction l generalizing s with
  | nil => exact .refl s
  | cons i l ih =>
    obtain ⟨hi, hl⟩ := List.nodup_cons.1 hl
    obtain ⟨z, hz⟩ := here i List.mem_cons_self
    have taken := takenByPending_raisePending none (List.mem_singleton.2 (rfl : i = i))
    have other {j : Nat} (hj : j ∈ l) : get1 (s.raisePending i).itb.slots j = get1 s.itb.slots j :=
      taken.others j fun h => hi (List.mem_singleton.1 h ▸ hj)
    refine (keepsTable_raisePending hz (free i List.mem_cons_self z hz)).trans (ih _ hl ?_ ?_ ?_)
    · rw [taken.rest]; exact none
    · intro j hj w hw
      rw [other hj] at hw
      exact free j (List.mem_cons_of_mem _ hj) w hw
    · intro j hj
      rw [other hj]
      exact here j (List.mem_cons_of_mem _ hj)

/-- Nothing listed on either side is agreed. -/
theorem matched_of_nil {a b : Links} (ha : ∀ i p, a i = some p → p.2 = []) (hb : ∀ i p, b i = some p → p.2 = []) :
    Matched a b := by
  have one {a b : Links} (ha : ∀ i p, a i = some p → p.2 = []) : Mutual a b := fun i h l hi => by
    obtain rfl : l = [] := ha i _ hi
    simp
  exact ⟨one ha, one hb⟩

/-- The rollover of the Incident Table, with no run live: afterwards the links agree. -/
theorem rolloverItb_keeps (none : ∀ j, s.runAt j = none) (at_ : Nat) :
    (s.ledger.Sound → (s.rolloverItb at_).ledger.Sound) ∧ LinksAgree (s.rolloverItb at_) := by
  obtain ⟨v, hv, slots⟩ := rolloverItb_eq s at_
  have kept := keepsTable_foldl_raisePending s.clearedSlots (s.onItb fun b => { b with slots := v })
    (nodup_clearedSlots s) none (fun i hi z hz => ?_) (fun i hi => ?_)
  · rw [hv]
    refine ⟨fun hs => kept.sound ?_, kept.agree (agree_iff.2 (matched_of_nil (fun i p hp => ?_) fun i p hp => ?_))⟩
    · exact hs.of_runs (fun _ => rfl) rfl rfl rfl rfl
    · obtain ⟨y, hy, -⟩ := links_run.1 (show _ = some (p.1, p.2) from hp)
      have hy : s.runAt i = some y := hy
      rw [none i] at hy
      cases hy
    · obtain ⟨y, hy, -, hr⟩ := links_inc.1 (show _ = some (p.1, p.2) from hp)
      rw [← hr]
      have hy : (get1 v i).bind (·.inc) = some y := hy
      rw [slots] at hy
      cases hx : get1 s.itb.slots i with
      | none => simp [hx] at hy
      | some w =>
        simp only [hx, Option.map_some, Option.bind_some, IncSlot.rolled] at hy
        split at hy
        · cases hy
        · obtain ⟨o, -, rfl⟩ := Option.map_eq_some_iff.1 hy
          rfl
  · obtain ⟨y, hy, hc⟩ := mem_clearedSlots.1 hi
    have hz : get1 v i = some z := hz
    rw [slots] at hz
    obtain ⟨w, hw, rfl⟩ := Option.map_eq_some_iff.1 hz
    have : w.inc = some y := by simpa [State.incAt, hw] using hy
    simp [IncSlot.rolled, this, hc, IncSlot.retired]
  · obtain ⟨y, hy, -⟩ := mem_clearedSlots.1 hi
    exact get1_isSome _ (incAt_range hy).1 (incAt_range hy).2

theorem midnight_sound (a : State) (cause : RolloverCause) (at_ : Nat) (n : Vector ClientNotices 8) :
    (a.midnight cause at_ n).ledger.Sound := by
  have none (j : Nat) : (a.midnight cause at_ n).ledger.run j = Option.none :=
    ledger_run_none.2 (emptied_noRun a j)
  have queue (g : Nat) : (a.midnight cause at_ n).ledger.queue g = [] := by
    simp only [State.ledger, seg_of_rollover (s := a) (t := a.midnight cause at_ n) rfl]
  have wait (k : Nat) : (a.midnight cause at_ n).ledger.wait k = [] := by
    show (look (a.tpc.subs.map _) k).elim [] _ = []
    rw [look_map_map]
    cases look a.tpc.subs k <;> rfl
  refine ⟨fun i j e f he => ?_, fun i e he => ?_, fun i j e f he => ?_, ?_, ⟨fun g => ?_, fun g k h hg => ?_⟩,
    ⟨fun g => ?_, fun g k h hg => ?_⟩, fun _ => none⟩
  · rw [none] at he; cases he
  · rw [none] at he; cases he
  · rw [none] at he; cases he
  · simp only [Ledger.countReleased, none]
    simp [State.ledger, State.midnight, Drg.rolled]
  · rw [queue]; exact ⟨List.nodup_nil, fun _ h => absurd h (List.not_mem_nil)⟩
  · rw [queue] at hg; cases hg
  · rw [wait]; exact ⟨List.nodup_nil, fun _ h => absurd h (List.not_mem_nil)⟩
  · rw [wait] at hg; cases hg

theorem keepsTable_rollover (s : State) (cause : RolloverCause) (at_ : Nat) : KeepsTable s (s.rollover cause at_) := by
  unfold State.rollover
  split
  · have lds (a : State) : (a.rolloverRuns.onLck fun c => c.rollover cause at_).lds = a.lds :=
      (onLck_lds _ _).trans (lds_of_kept (rolloverRuns_kept a))
    obtain ⟨n, hn⟩ := midnight_eq (s.dayLeft at_) cause at_
    have opened : (s.rolloverService cause at_).ledger =
        (((s.dayLeft at_).midnight cause at_ n).rolloverItb at_).ledger := by
      unfold State.rolloverService
      dsimp only
      rw [postLineEvent_ledger, evalHorizon_ledger, clearBoards_ledger, ← State.dayLeft, lds, hn]
    obtain ⟨sound, agree⟩ := rolloverItb_keeps (s := (s.dayLeft at_).midnight cause at_ n)
      (emptied_noRun (s.dayLeft at_)) at_
    refine ⟨fun _ => opened.symm.subst (sound (midnight_sound ..)), fun _ => agree_iff.2 ?_⟩
    rw [opened]
    exact agree_iff.1 agree
  · exact .of_eq rfl

theorem keepsTable_settleEndDay (r : Req) (s : State) : KeepsTable s (settleEndDay r s).2 := by
  unfold settleEndDay
  split
  · exact .refl s
  · split
    · exact .refl s
    · exact keepsTable_rollover ..

/-! ### Runs (R41 to R45, R88 to R94) -/

theorem modRun_stops_ledger (s : State) (i : Nat) (f : Run → List Stop) :
    (s.modRun i fun y => { y with stops := f y }).ledger = s.ledger := modRun_ledger_same s i fun _ _ => rfl

theorem modRun_placement_ledger (s : State) (i : Nat) (f : Run → Option Nat) (g : Run → Bool) :
    (s.modRun i fun y => { y with placeTimer := f y, placeWaiting := g y }).ledger = s.ledger :=
  modRun_ledger_same s i fun _ _ => rfl

theorem regulated_amended (s : State) (i : Nat) (old new : Run) : Regulated s (s.amended i old new) := by
  unfold State.amended
  dsimp only
  split
  · split
    · exact .refl s
    · exact .of_eq ((evalHorizon_ledger _).trans (modRun_placement_ledger ..))
  · split
    · exact regulated_recompute ..
    · exact .refl s

theorem regulated_settleAmend (s : State) (r : Req) (i : Nat) (x : Run) : Regulated s (s.settleAmend r i x).2 := by
  unfold State.settleAmend
  dsimp only
  split
  · exact .refl s
  · split
    · exact .refl s
    · split
      · exact .refl s
      · split
        · exact .refl s
        · split
          · exact .refl s
          · split
            · exact .refl s
            · split
              · exact .refl s
              · exact .after (modRun_stops_ledger ..) (regulated_amended ..)

theorem regulated_settleCancel (hx : s.runAt i = some x) : Regulated s (s.settleCancel i x).2 := by
  unfold State.settleCancel
  split
  · exact .refl s
  · exact .refl s
  · next hc ht => exact regulated_cancel hx ht hc

theorem keepsTable_settleRetire (hx : s.runAt i = some x) : KeepsTable s (s.settleRetire i x).2 := by
  unfold State.settleRetire
  split
  · next h => exact keepsTable_retire hx h
  · exact .refl s

theorem settleClearCounters_ledger (r : Req) (s : State) : (settleClearCounters r s).2.ledger = s.ledger := by
  unfold settleClearCounters
  split
  · rfl
  · exact onRtb_ledger s rfl

theorem regulated_settleHold (hx : s.runAt i = some x) : Regulated s (s.settleHold i x).2 := by
  unfold State.settleHold
  cases x.state with
  | dwelling | held =>
    dsimp only
    split
    · exact .refl s
    · exact regulated_hold hx
  | released | planned | running | terminated | cancelled => exact .refl s

theorem settleUnhold_ledger (s : State) (i : Nat) (x : Run) : (s.settleUnhold i x).2.ledger = s.ledger := by
  unfold State.settleUnhold
  cases x.state with
  | dwelling | held =>
    dsimp only
    split
    · exact unhold_ledger s i
    · rfl
  | released | planned | running | terminated | cancelled => rfl

theorem regulated_settleAction (s : State) (r : Req) : Regulated s (s.settleAction r).2 := by
  unfold State.settleAction
  split
  · exact .refl s
  · split
    · exact .refl s
    · split
      · exact regulated_halt s
      · exact .refl s
    · split
      · exact .refl s
      · exact .of_eq (resume_ledger s)
    · split
      · exact .refl s
      · split
        · exact .refl s
        · exact regulated_setParam s (.weight _)

/-! ### Traction power (R103, R120, R121) -/

theorem regulated_settleSetWithhold (r : Req) (s : State) : Regulated s (settleSetWithhold r s).2 := by
  unfold settleSetWithhold
  dsimp only
  split
  · exact .refl s
  · split
    · exact .refl s
    · split
      · exact .refl s
      · split
        · exact .refl s
        · refine Regulated.after ?_ (regulated_serveSub ..)
          exact modSub_ledger_same s _ fun _ => rfl

theorem regulated_isolate (s : State) (i : Nat) : Regulated s (s.isolate i).2 := by
  unfold State.isolate
  split
  · exact .refl s
  · exact .after (modSec_ledger s i _) (regulated_referenceAdded ..)

theorem regulated_close (s : State) (i : Nat) : Regulated s (s.close i) :=
  .after (orderClose_ledger s i) (regulated_moveSection ..)

theorem regulated_energiseAfter (s : State) (i : Nat) (cleared : Bool) : Regulated s (s.energiseAfter i cleared).2 := by
  unfold State.energiseAfter
  split
  · exact .refl s
  · next y hy =>
    split
    · exact .refl s
    · cases y.state with
      | opening =>
        dsimp only
        split
        · exact regulated_close s i
        · exact .refl s
      | isolated | tripped => exact regulated_close s i
      | unknown | energised | draining | closing => exact .refl s

theorem regulated_energise (s : State) (i : Nat) : Regulated s (s.energise i).2 := by
  unfold State.energise
  split
  · exact .after (modSec_ledger s i _) ((regulated_referenceRemoved ..).trans (regulated_energiseAfter ..))
  · exact regulated_energiseAfter ..

/-! ### Incidents (R130 to R142) -/

/-- Runs that the incident does not list and that have room are linked in turn; the incident has room for all. -/
theorem keepsTable_foldl_linkHandle (slot : Nat) (hs : List Nat) (s : State) (nodup : hs.Nodup)
    (room : ∃ k l, s.ledger.links.2 slot = some (k, l) ∧ l.length + hs.length ≤ 4 ∧ ∀ h ∈ hs, h ∉ l)
    (runs : ∀ h ∈ hs, ∃ i m, s.ledger.links.1 i = some (h, m) ∧ m.length < 4) :
    KeepsTable s (hs.foldl (State.linkHandle slot) s) := by
  induction hs generalizing s with
  | nil => exact .refl s
  | cons h hs ih =>
    obtain ⟨hh, rest⟩ := List.nodup_cons.1 nodup
    obtain ⟨k, l, hl, len, out⟩ := room
    obtain ⟨i, m, hm, lenm⟩ := runs h List.mem_cons_self
    obtain ⟨y, hy, rfl, rfl⟩ := links_run.1 hm
    obtain ⟨x, hx, rfl, rfl⟩ := links_inc.1 hl
    simp only [List.length_cons] at len
    have linked : State.linkHandle slot s (s.runHandle i) = s.linkBoth slot i := by
      simp [State.linkHandle, resolveRun_runHandle hy, Resolved.slot?]
    rw [List.foldl_cons, linked]
    refine (keepsTable_linkBoth hx hy (out _ List.mem_cons_self) (by omega) lenm).trans (ih _ rest ?_ ?_)
    · rw [linkBoth_links]
      dsimp only
      refine ⟨_, _, on_eq_some.2 ⟨x.runs, hl, rfl⟩, ?_, fun g hg => ?_⟩
      · simp only [if_true, List.length_append, List.length_cons, List.length_nil]
        omega
      · simp only [if_true, List.mem_append, List.mem_singleton, not_or]
        exact ⟨out g (List.mem_cons_of_mem _ hg), fun e => hh (e ▸ hg)⟩
    · intro g hg
      obtain ⟨j, n, hn, lenn⟩ := runs g (List.mem_cons_of_mem _ hg)
      rw [linkBoth_links]
      dsimp only
      refine ⟨j, n, on_eq_some.2 ⟨n, hn, (if_neg ?_).symm⟩, lenn⟩
      rintro rfl
      rw [hm] at hn
      cases hn
      exact hh hg

theorem modInc_anns_ledger (s : State) (i : Nat) (f : Incident → List Nat) :
    (s.modInc i fun y => { y with anns := f y }).ledger = s.ledger := modInc_ledger_same s i fun _ => rfl

theorem postForIncident_ledger (s : State) (i : Nat) (y : AnnSpec) (o : Owner) :
    (s.postForIncident i y o).1.ledger = s.ledger := by
  have created := createAnn_ledger s y o (some (s.incHandle i)) none
  unfold State.postForIncident
  split
  · rfl
  · split
    · next t h e =>
      rw [e] at created
      rw [startAnn_ledger, modInc_anns_ledger]
      exact created
    · next t e => rw [e] at created; exact created

theorem within_range {lo hi n k : Nat} (h : within lo hi n = some k) : lo ≤ k ∧ k ≤ hi := by
  unfold within at h
  split at h
  · next hk => cases h; exact hk
  · cases h

theorem raise_fields {r : Req} {b : RaiseBody} (h : r.raise = some b) : b.runs.Nodup ∧ b.runs.length ≤ 4 := by
  simp only [Req.raise, Option.bind_eq_bind, Option.bind_eq_some_iff] at h
  obtain ⟨kind, -, severity, -, n, -, restrictions, -, m, hm, ann, -, h⟩ := h
  split at h
  · cases h
  · next ok =>
    cases h
    have := within_range hm
    exact ⟨by simpa using (not_or.1 ok).2, by simp; omega⟩

theorem unresolvedRun_none {hs : List Nat} (h : s.unresolvedRun hs = none) {k : Nat} (hk : k ∈ hs) :
    ∃ i y, s.runAt i = some y ∧ s.runHandle i = k := by
  have resolved : (s.resolveRun k).refusal = none := by
    have := List.findSome?_eq_none_iff.1 h k hk
    simpa using this
  cases hr : s.resolveRun k with
  | live i =>
    obtain ⟨hh, y, hy⟩ := resolveRun_live hr
    exact ⟨i, y, hy, hh.symm⟩
  | zero | notFound | stale => simp [hr, Resolved.refusal] at resolved

theorem fullRun_none {hs : List Nat} (h : s.fullRun hs = none) {i : Nat} {y : Run} (hy : s.runAt i = some y)
    (hk : s.runHandle i ∈ hs) : y.incidents.length < 4 := by
  have := List.find?_eq_none.1 h _ hk
  simpa [State.runOf, resolveRun_runHandle hy, Resolved.slot?, hy] using this

theorem keepsTable_raise {z : IncSlot} (hz : get1 s.itb.slots i = some z) (hf : z.inc = none) {b : RaiseBody}
    (nodup : b.runs.Nodup) (len : b.runs.length ≤ 4)
    (runs : ∀ k ∈ b.runs, ∃ j y, s.runAt j = some y ∧ s.runHandle j = k ∧ y.incidents.length < 4) (client : Nat) :
    KeepsTable s (s.raise i b client).1 := by
  have raised := keepsTable_raiseIn hz hf ⟨b.kind, b.severity, .client client, none, none, 1⟩
  have ledger := raiseIn_ledger hz ⟨b.kind, b.severity, .client client, none, none, 1⟩
  generalize hv : s.raiseIn i ⟨b.kind, b.severity, .client client, none, none, 1⟩ = v at raised ledger
  have restricted : Regulated v (b.restrictions.foldl (State.addRestriction i) v) :=
    .foldl (regulated_addRestriction i) _ v
  have linked : KeepsTable s (b.runs.foldl (State.linkHandle i) (b.restrictions.foldl (State.addRestriction i) v)) := by
    refine raised.trans (restricted.keeps.trans (keepsTable_foldl_linkHandle i _ _ nodup ?_ fun k hk => ?_))
    · rw [restricted.links, ledger]
      exact ⟨s.incHandle i, [], by simp [Ledger.links, Links.add], by simpa using len, by simp⟩
    · obtain ⟨j, y, hy, hk, room⟩ := runs k hk
      rw [restricted.links, ledger]
      exact ⟨j, y.incidents, links_run.2 ⟨y, hy, hk, rfl⟩, room⟩
  unfold State.raise
  dsimp only
  rw [hv]
  split
  · exact linked.trans (.of_eq (postForIncident_ledger ..))
  · exact linked

theorem keepsTable_settleRaise (s : State) (r : Req) : KeepsTable s (s.settleRaise r).2 := by
  unfold State.settleRaise
  split
  · exact .refl s
  · split
    · exact .refl s
    · next b hb =>
      split
      · exact .refl s
      · split
        · exact .refl s
        · split
          · exact .refl s
          · next resolved =>
            split
            · exact .refl s
            · next roomy =>
              split
              · exact .refl s
              · next j hj =>
                obtain ⟨z, hz, hf⟩ := freeInc_eq_some hj
                obtain ⟨nodup, len⟩ := raise_fields hb
                refine keepsTable_raise hz hf nodup len (fun k hk => ?_) _
                obtain ⟨c, y, hy, rfl⟩ := unresolvedRun_none resolved hk
                exact ⟨c, y, hy, rfl, fullRun_none roomy hy hk⟩

theorem offDesk_ledger (s : State) (i d : Nat) : (s.offDesk i d).ledger = s.ledger := by
  simp [State.offDesk, State.leaveDesk]

theorem acknowledge_ledger (s : State) (i c d : Nat) : (s.acknowledge i c d).ledger = s.ledger := by
  rw [State.acknowledge, offDesk_ledger]
  exact modInc_ledger_same s i fun _ => rfl

theorem settleAck_ledger (s : State) (r : Req) (i : Nat) (y : Incident) : (s.settleAck r i y).2.ledger = s.ledger := by
  unfold State.settleAck
  split
  · rfl
  · cases y.state with
    | raised => exact acknowledge_ledger ..
    | acknowledged | cleared => rfl

theorem escalate_ledger (s : State) (i : Nat) (y : Incident) : (s.escalate i y).ledger = s.ledger := by
  rw [State.escalate, postDesk_ledger, State.placeOnDesk, modDesk_ledger]
  exact modInc_ledger_same s i fun _ => rfl

theorem goOverdue_ledger (s : State) (i : Nat) (y : Incident) : (s.goOverdue i y).ledger = s.ledger := by
  simp only [State.goOverdue, State.placeOnDesk, State.leaveDesk, ite_ledger, postDesk_ledger, modDesk_ledger, ite_self]
  exact modInc_ledger_same s i fun _ => rfl

theorem regulated_settleAdd (s : State) (r : Req) (i : Nat) (y : Incident) : Regulated s (s.settleAdd r i y).2 := by
  unfold State.settleAdd
  split
  · exact .refl s
  · split
    · exact .refl s
    · split
      · exact .refl s
      · split
        · exact .refl s
        · exact regulated_putInForce ..

theorem regulated_settleLift (s : State) (r : Req) (i : Nat) (y : Incident) : Regulated s (s.settleLift r i y).2 := by
  unfold State.settleLift
  split
  · exact .refl s
  · split
    · exact .refl s
    · split
      · exact .refl s
      · exact regulated_lift ..

theorem keepsTable_linkRun {y : Incident} (hy : s.incAt i = some y) {j : Nat} (hx : s.runAt j = some x) :
    KeepsTable s (s.linkRun i y j x).2 := by
  unfold State.linkRun
  dsimp only
  split
  · exact .refl s
  · split
    · exact .refl s
    · next absent =>
      split
      · exact .refl s
      · split
        · exact .refl s
        · exact keepsTable_linkBoth hy hx (by simpa using absent) (by omega) (by omega)

theorem keepsTable_settleLinkRun {y : Incident} (hy : s.incAt i = some y) (r : Req) :
    KeepsTable s (s.settleLinkRun r i y).2 := by
  unfold State.settleLinkRun
  dsimp only
  split
  · exact .refl s
  · split
    · next x hx => exact keepsTable_linkRun hy hx
    · exact .refl s
  · next j _ hj _ =>
    obtain ⟨-, x, hx⟩ := resolveRun_live (slot?_eq_some hj)
    unfold State.unlinkRunFrom
    split
    · exact keepsTable_unlinkBoth hy hx
    · exact .refl s
  · exact .refl s

theorem linkAnn_ledger (s : State) (i : Nat) (y : Incident) (j : Nat) (a : Announcement) :
    (s.linkAnn i y j a).2.ledger = s.ledger := by
  unfold State.linkAnn
  dsimp only
  split
  · rfl
  · split
    · rfl
    · split
      · rfl
      · split
        · rfl
        · rw [modAnn_ledger, modInc_anns_ledger]

theorem unlinkAnnFrom_ledger (s : State) (i : Nat) (y : Incident) (j : Nat) :
    (s.unlinkAnnFrom i y j).2.ledger = s.ledger := by
  unfold State.unlinkAnnFrom
  dsimp only
  split
  · rw [modAnn_ledger, modInc_anns_ledger]
  · rfl

theorem settleLinkAnn_ledger (s : State) (r : Req) (i : Nat) (y : Incident) :
    (s.settleLinkAnn r i y).2.ledger = s.ledger := by
  unfold State.settleLinkAnn
  dsimp only
  split
  · rfl
  · split
    · exact linkAnn_ledger ..
    · rfl
  · exact unlinkAnnFrom_ledger ..
  · rfl

theorem modInc_state_ledger (s : State) (i : Nat) (f : Incident → IncidentState) :
    (s.modInc i fun y => { y with state := f y }).ledger = s.ledger := modInc_ledger_same s i fun _ => rfl

theorem modInc_escalation_ledger (s : State) (i : Nat) (f : Incident → Option Nat) :
    (s.modInc i fun y => { y with escalation := f y }).ledger = s.ledger := modInc_ledger_same s i fun _ => rfl

theorem regulated_clear (s : State) (i : Nat) (y : Incident) : Regulated s (s.clear i y) := by
  have off : (if y.state = .raised then (s.modInc i fun j => { j with escalation := none }).offDesk i y.desk
      else s).ledger = s.ledger := by
    split
    · rw [offDesk_ledger, modInc_escalation_ledger]
    · rfl
  unfold State.clear
  dsimp only
  refine Regulated.then (.after off (.foldl (regulated_lift i) y.restrictions _)) ?_
  rw [modInc_state_ledger, withdrawAll_ledger]

theorem regulated_settleClear (s : State) (r : Req) (i : Nat) (y : Incident) : Regulated s (s.settleClear r i y).2 := by
  unfold State.settleClear
  split
  · exact .refl s
  · split
    · exact .refl s
    · exact regulated_clear ..

theorem keepsTable_settleRetireInc {y : Incident} (hy : s.incAt i = some y) (r : Req) :
    KeepsTable s (s.settleRetireInc r i y).2 := by
  unfold State.settleRetireInc
  split
  · exact .refl s
  · split
    · exact .refl s
    · exact keepsTable_retireIncident hy

/-! ### Announcements and channels (R152 to R167) -/

theorem settlePostAnnouncement_ledger (r : Req) (s : State) : (settlePostAnnouncement r s).2.ledger = s.ledger := by
  unfold settlePostAnnouncement
  split
  · rfl
  · split
    · rfl
    · next y run _ =>
      split
      · rfl
      · have created := createAnn_ledger s y (.client r.from) none run
        unfold State.post
        split
        · next t h e => rw [e] at created; exact (startAnn_ledger ..).trans created
        · next t e => rw [e] at created; exact created

theorem settleWithdraw_ledger (s : State) (r : Req) (i : Nat) (a : Announcement) :
    (s.settleWithdraw r i a).2.ledger = s.ledger := by
  unfold State.settleWithdraw
  split
  · exact endAndServe_ledger ..
  · rfl

theorem settleSetClassMap_ledger (r : Req) (s : State) : (settleSetClassMap r s).2.ledger = s.ledger := by
  unfold settleSetClassMap
  dsimp only
  (repeat' split) <;> rfl

theorem setChan_ledger (s : State) (c : Nat) (y : ChanState) : (s.setChan c y).ledger = s.ledger := rfl

theorem makeReady_ledger (s : State) (c : Nat) : (s.makeReady c).ledger = s.ledger :=
  (serveChannel_ledger ..).trans (modChan_ledger ..)

theorem settleEnableChannel_ledger (r : Req) (s : State) : (settleEnableChannel r s).2.ledger = s.ledger := by
  unfold settleEnableChannel
  dsimp only
  split
  · rfl
  · split
    · rfl
    · cases (s.chan (r.u8 0)).state with
      | disabled =>
        dsimp only
        split
        · exact (makeReady_ledger ..).trans (setChan_ledger ..)
        · rfl
      | halting => exact (serveChannel_ledger ..).trans (setChan_ledger ..)
      | pending | ready => rfl

theorem settleDisableChannel_ledger (r : Req) (s : State) : (settleDisableChannel r s).2.ledger = s.ledger := by
  unfold settleDisableChannel
  dsimp only
  (repeat' split) <;> rfl

theorem settleSetChannelPolicy_ledger (r : Req) (s : State) : (settleSetChannelPolicy r s).2.ledger = s.ledger := by
  unfold settleSetChannelPolicy
  split
  · split
    · rfl
    · exact (serveChannel_ledger ..).trans (modChan_ledger ..)
  · rfl

theorem settleSetZoneBlock_ledger (r : Req) (s : State) : (settleSetZoneBlock r s).2.ledger = s.ledger := by
  unfold settleSetZoneBlock
  (repeat' split) <;> rfl

/-! ### Lookups -/

end Sys2Proof.Machine
end

/-! ## Every command keeps the run table and the links -/

section
namespace Sys2Proof.Machine
variable {s t : State} {i : Nat} {x : Run}

/-! ### Lookups -/

theorem withId_same {r : Req} {n : Nat} {known : Nat → Bool} {f : Nat → Reply × State} (hf : ∀ i, (f i).2 = s) :
    (s.withId r n known f).2 = s := by
  unfold State.withId
  dsimp only
  split
  · rfl
  · split
    · rfl
    · split
      · rfl
      · exact hf _

/-- A lookup leaves the state as it was. -/
theorem lookup_same {f : Req → State → Reply × State} (hf : f ∈ [settleLookupLine, settleLookupRun, settleFindRun,
    settleLookupCounters, settleLookupPoint, settleLookupSegment, settleLookupRegulation, settleLookupSubstation,
    settleLookupSection, settleLookupIncident, settleLookupDesk, settleLookupAnnouncement, settleLookupChannel,
    settleLookupZones, settleLookupBoard]) (r : Req) (s : State) : (f r s).2 = s := by
  simp only [List.mem_cons, List.not_mem_nil, or_false] at hf
  rcases hf with rfl | rfl | rfl | rfl | rfl | rfl | rfl | rfl | rfl | rfl | rfl | rfl | rfl | rfl | rfl
  case inl => unfold settleLookupLine; (repeat' split) <;> rfl
  case inr.inl => unfold settleLookupRun; (repeat' split) <;> rfl
  case inr.inr.inl => unfold settleFindRun; (repeat' split) <;> rfl
  case inr.inr.inr.inr.inl => exact withId_same fun _ => rfl
  case inr.inr.inr.inr.inr.inl => exact withId_same fun _ => rfl
  case inr.inr.inr.inr.inr.inr.inr.inl => exact withId_same fun _ => rfl
  case inr.inr.inr.inr.inr.inr.inr.inr.inl => exact withId_same fun _ => rfl
  case inr.inr.inr.inr.inr.inr.inr.inr.inr.inl => unfold settleLookupIncident; split <;> rfl
  case inr.inr.inr.inr.inr.inr.inr.inr.inr.inr.inl => unfold settleLookupDesk; split <;> rfl
  case inr.inr.inr.inr.inr.inr.inr.inr.inr.inr.inr.inl => unfold settleLookupAnnouncement; split <;> rfl
  case inr.inr.inr.inr.inr.inr.inr.inr.inr.inr.inr.inr.inl => unfold settleLookupChannel; split <;> rfl
  case inr.inr.inr.inr.inr.inr.inr.inr.inr.inr.inr.inr.inr.inr => exact withId_same fun _ => by split <;> rfl
  all_goals rfl

/-! ### Requests -/

/-- Every request command takes its request under an owner that keeps the run table and the links. -/
theorem exists_tableKeeper {c : Instr} {k : ReqKind} {r : Req} (hc : c.request? = some (k, r)) :
    ∃ f : State → Reply × State, (∀ s, exec c s = .next (s.takeRequest k r f)) ∧ ∀ s, KeepsTable s (f s).2 := by
  have quiet {f : State → Reply × State} (he : ∀ s, exec c s = .next (s.takeRequest k r f))
      (hf : ∀ s, (f s).2.ledger = s.ledger) : ∃ f : State → Reply × State,
      (∀ s, exec c s = .next (s.takeRequest k r f)) ∧ ∀ s, KeepsTable s (f s).2 := ⟨f, he, fun s => .of_eq (hf s)⟩
  have served {f : State → Reply × State} (he : ∀ s, exec c s = .next (s.takeRequest k r fun s => thenServe s (f s)))
      (hf : ∀ s, KeepsTable s (f s).2) : ∃ f : State → Reply × State,
      (∀ s, exec c s = .next (s.takeRequest k r f)) ∧ ∀ s, KeepsTable s (f s).2 :=
    ⟨_, he, fun s => keepsTable_thenServe (hf s)⟩
  cases c with
  | defineTimingPoint | defineSegment | defineRoute | defineMerge | defineSubstation | defineSection
  | defineTrainClass | defineZoneGroup | defineDeskClass | mapIncidentKind =>
    cases hc; exact quiet (fun _ => rfl) fun s => settleDefine_ledger s _ _ fun _ _ => onLds_ledger s rfl
  | defineClient => cases hc; exact quiet (fun _ => rfl) fun s => settleDefine_ledger s _ _ fun _ _ => writeClient_ledger ..
  | defineHeadwayBands => cases hc; exact quiet (fun _ => rfl) (settleDefineHeadwayBands_ledger r)
  | setLineParameter => cases hc; exact served (fun _ => rfl) fun s => (regulated_settleParam s r).keeps
  | enterService => cases hc; exact ⟨_, fun _ => rfl, keepsTable_settleEnterService r⟩
  | returnToSetup => cases hc; exact ⟨_, fun _ => rfl, keepsTable_settleReturnToSetup r⟩
  | setClock => cases hc; exact quiet (fun _ => rfl) (settleSetClock_ledger r)
  | endDay => cases hc; exact ⟨_, fun _ => rfl, keepsTable_settleEndDay r⟩
  | loadRun => cases hc; exact ⟨_, fun _ => rfl, keepsTable_settleLoadRun r⟩
  | amendRun =>
    cases hc
    exact served (fun _ => rfl) fun s => keepsTable_withRun fun i x _ => (regulated_settleAmend s r i x).keeps
  | cancelRun =>
    cases hc
    exact served (fun _ => rfl) fun s => keepsTable_withRun fun i x hx => (regulated_settleCancel hx).keeps
  | retireRun =>
    cases hc
    exact ⟨_, fun _ => rfl, fun s => keepsTable_withRun fun i x hx => keepsTable_settleRetire hx⟩
  | clearCounters => cases hc; exact quiet (fun _ => rfl) (settleClearCounters_ledger r)
  | holdRun =>
    cases hc
    exact served (fun _ => rfl) fun s => keepsTable_withRun fun i x hx => (regulated_settleHold hx).keeps
  | unholdRun =>
    cases hc
    exact ⟨_, fun _ => rfl, fun s => keepsTable_withRun fun i x _ => .of_eq (settleUnhold_ledger s i x)⟩
  | releaseRun =>
    cases hc
    exact ⟨_, fun _ => rfl, fun s => keepsTable_withRun fun i x hx => (regulated_settleRelease hx).keeps⟩
  | setRegulation => cases hc; exact served (fun _ => rfl) fun s => (regulated_settleAction s r).keeps
  | setWithhold => cases hc; exact ⟨_, fun _ => rfl, fun s => (regulated_settleSetWithhold r s).keeps⟩
  | isolateSection =>
    cases hc
    exact served (fun _ => rfl) fun s => keepsTable_withId fun i => (regulated_isolate s i).keeps
  | energiseSection =>
    cases hc
    exact served (fun _ => rfl) fun s => keepsTable_withId fun i => (regulated_energise s i).keeps
  | raiseIncident => cases hc; exact served (fun _ => rfl) fun s => keepsTable_settleRaise s r
  | ackIncident =>
    cases hc
    exact ⟨_, fun _ => rfl, fun s => keepsTable_withInc fun i y _ => .of_eq (settleAck_ledger s r i y)⟩
  | addRestriction =>
    cases hc
    exact served (fun _ => rfl) fun s => keepsTable_withInc fun i y _ => (regulated_settleAdd s r i y).keeps
  | liftRestriction =>
    cases hc
    exact served (fun _ => rfl) fun s => keepsTable_withInc fun i y _ => (regulated_settleLift s r i y).keeps
  | linkRun =>
    cases hc
    exact ⟨_, fun _ => rfl, fun s => keepsTable_withInc fun i y hy => keepsTable_settleLinkRun hy r⟩
  | linkAnnouncement =>
    cases hc
    exact ⟨_, fun _ => rfl, fun s => keepsTable_withInc fun i y _ => .of_eq (settleLinkAnn_ledger s r i y)⟩
  | clearIncident =>
    cases hc
    exact served (fun _ => rfl) fun s => keepsTable_withInc fun i y _ => (regulated_settleClear s r i y).keeps
  | retireIncident =>
    cases hc
    exact ⟨_, fun _ => rfl, fun s => keepsTable_withInc fun i y hy => keepsTable_settleRetireInc hy r⟩
  | postAnnouncement => cases hc; exact quiet (fun _ => rfl) (settlePostAnnouncement_ledger r)
  | withdrawAnnouncement =>
    cases hc
    exact ⟨_, fun _ => rfl, fun s => keepsTable_withAnn fun i a => .of_eq (settleWithdraw_ledger s r i a)⟩
  | setClassMap => cases hc; exact quiet (fun _ => rfl) (settleSetClassMap_ledger r)
  | enableChannel => cases hc; exact quiet (fun _ => rfl) (settleEnableChannel_ledger r)
  | disableChannel => cases hc; exact quiet (fun _ => rfl) (settleDisableChannel_ledger r)
  | setChannelPolicy => cases hc; exact quiet (fun _ => rfl) (settleSetChannelPolicy_ledger r)
  | setZoneBlock => cases hc; exact quiet (fun _ => rfl) (settleSetZoneBlock_ledger r)
  | lineStatus => cases hc; exact quiet (fun _ => rfl) fun _ => rfl
  | lookupLine | lookupRun | findRun | lookupCounters | lookupPoint | lookupSegment | lookupRegulation
  | lookupSubstation | lookupSection | lookupIncident | lookupDesk | lookupAnnouncement | lookupChannel | lookupZones
  | lookupBoard =>
    cases hc; exact quiet (fun _ => rfl) fun s => congrArg State.ledger (lookup_same (by simp) r s)
  | _ => cases hc

/-! ### Reports (R102, R116, R157, R158, R165) -/

/-- The receiver's count moves on, the report is settled, and its event ends. -/
theorem keepsTable_report {n : Nat} {u : State} (h : KeepsTable (s.received n) u)
    (ht : (Host.Outcome.next u.finish : Host.Outcome State Fault Refusal) = .next t) : KeepsTable s t := by
  cases ht
  exact KeepsTable.trans (.of_eq (received_ledger s n)) (h.trans (.of_eq (finish_ledger u)))

theorem regulated_supplyReport (s : State) (k : Nat) (y : SupplyState) : Regulated s (s.supplyReport k y) := by
  unfold State.supplyReport
  split
  · exact .of_eq (countUnmatched_ledger s)
  · split
    · exact .refl s
    · split
      · exact .refl s
      · exact regulated_supplyChanged ..

theorem keepsTable_breakerOpened (s : State) (k : Nat) (y : SecLive) : KeepsTable s (s.breakerOpened k y) := by
  unfold State.breakerOpened
  cases y.state with
  | unknown => exact (regulated_moveSection ..).keeps
  | energised => exact (regulated_forceOut ..).keeps.trans (keepsTable_requestAuto ..)
  | draining => exact (Regulated.after (stopDrain_ledger s k) (regulated_forceOut ..)).keeps
  | opening => exact (Regulated.after (confirm_ledger s k) (regulated_moveSection ..)).keeps
  | isolated | closing | tripped => exact .refl s

theorem keepsTable_breakerClosed (s : State) (k : Nat) (y : SecLive) : KeepsTable s (s.breakerClosed k y) := by
  unfold State.breakerClosed
  cases y.state with
  | unknown =>
    dsimp only
    split
    · exact (regulated_moveSection ..).keeps
    · exact (regulated_startDrain s k).keeps
  | isolated =>
    dsimp only
    split
    · exact (regulated_moveSection ..).keeps
    · exact (regulated_moveSection ..).keeps.trans (keepsTable_requestAuto ..)
  | closing => exact (Regulated.after (confirm_ledger s k) (regulated_moveSection ..)).keeps
  | tripped => exact (regulated_moveSection ..).keeps
  | energised | draining | opening => exact .refl s

theorem keepsTable_breakerReport (s : State) (k : Nat) (p : BreakerPos) : KeepsTable s (s.breakerReport k p) := by
  unfold State.breakerReport
  split
  · exact .of_eq (countUnmatched_ledger s)
  · split
    · exact .refl s
    · refine KeepsTable.trans ?_ (regulated_serveLeft _ s).keeps
      cases p with
      | isOpen => exact keepsTable_breakerOpened ..
      | isClosed => exact keepsTable_breakerClosed ..

theorem returnOnAir_ledger (s : State) (c : Nat) : (s.returnOnAir c).ledger = s.ledger := by
  unfold State.returnOnAir
  split
  · rfl
  · rw [enqueue_ledger, modChan_ledger]

theorem settlePaStatus_ledger (s : State) (c : Nat) (y : PaStatus) : (s.settlePaStatus c y).ledger = s.ledger := by
  unfold State.settlePaStatus
  dsimp only
  cases y with
  | ready =>
    dsimp only
    unfold State.reportReady
    split
    · rw [makeReady_ledger, modChan_ledger]
    all_goals rfl
  | notReady =>
    dsimp only
    unfold State.reportNotReady
    split
    · rw [returnOnAir_ledger, setChan_ledger, modChan_ledger]
    · rw [returnOnAir_ledger, setChan_ledger, modChan_ledger]
    all_goals rfl

theorem settlePaDone_ledger (s : State) (c token : Nat) : (s.settlePaDone c token).ledger = s.ledger := by
  unfold State.settlePaDone
  split
  · exact countUnmatched_ledger s
  · rw [serveOrHalt_ledger, occurrenceDone_ledger, modChan_ledger]

theorem settlePaTaken_ledger (s : State) (c : Nat) (n : Half) : (s.settlePaTaken c n).ledger = s.ledger := by
  unfold State.settlePaTaken
  dsimp only
  split
  · exact countUnmatched_ledger s
  · split
    · rfl
    · rw [serveOrHalt_ledger, modChan_ledger]

/-! ### Timers and the events of a slot -/

theorem becomeDue_ledger (s : State) (i : Nat) (a : Announcement) : (s.becomeDue i a).ledger = s.ledger := by
  rw [State.becomeDue, serveChannel_ledger, enqueue_ledger]

theorem regulated_placementExpiry (hx : s.runAt i = some x) (hp : x.state = .planned) :
    Regulated s (s.placementExpiry i x) := by
  unfold State.placementExpiry
  split
  · exact regulated_placeRun hx hp
  · exact .of_eq (modRun_placement_ledger s i (fun _ => none) fun _ => true)

theorem regulated_drainExpiry (s : State) (k : Nat) : Regulated s (s.drainExpiry k) :=
  .after (((orderOpen_ledger ..).trans (stopDrain_ledger s k))) (regulated_forceOut ..)

theorem keepsTable_confirmExpiry (s : State) (k : Nat) (o : BreakerOrder) : KeepsTable s (s.confirmExpiry k o) :=
  KeepsTable.trans (.of_eq (modSec_ledger s k _)) (keepsTable_requestAuto ..)

/-- A DWELLING run does not wait for credits: its release event is an attempt (R81). -/
theorem regulated_releaseEvent (hx : s.runAt i = some x) (hd : x.state = .dwelling) : Regulated s (s.attempt i) := by
  obtain ⟨links, sound⟩ := attempt_keeps hx (by simp [hd]) (by simp [hd, RunState.onTrack])
  exact ⟨links, fun hs => sound hs (hs.not_waiting (ledger_run hx) (by simp [Run.entry, hd]))⟩

/-- A run that waits for credits is HELD for POWER alone: a run whose cause set is empty waits nowhere. -/
theorem not_waiting_of_retry (hw : WaitingRuns s) (hx : s.runAt i = some x) (hc : x.causes = Causes.none) (k : Nat) :
    s.runHandle i ∉ s.ledger.wait k := fun hk => by
  simp only [State.ledger] at hk
  cases hz : s.sub k with
  | none => simp [hz] at hk
  | some z =>
    rw [hz] at hk
    obtain ⟨e, he, hh⟩ := List.mem_map.1 hk
    obtain ⟨j, y, hl, hy, -, causes⟩ := (hw.1 k z hz).2 e he
    rw [hh, resolveRun_runHandle hx] at hl
    cases hl
    rw [hx] at hy
    cases hy
    rw [hc] at causes
    exact absurd causes (by decide)

/-- The outcome of a command that leads to `g s`. -/
theorem keepsTable_event {c : Instr} {g : State → State} (hc : ∀ s, exec c s = .next (g s)) (hg : KeepsTable s (g s))
    (h : exec c s = .next t) : KeepsTable s t := by
  rw [hc s] at h
  cases h
  exact hg

theorem KeepsTable.finish (h : KeepsTable s t) : KeepsTable s t.finish := h.trans (.of_eq (finish_ledger t))

/-- An event of a run's slot, other than the retry. -/
theorem keepsTable_ofRun {c : Instr} (h : c ∈ [.placementTimerExpiry i, .releaseEvent i, .departureTimeout i,
    .skipMarkingOnLoad i]) (ht : exec c s = .next t) : KeepsTable s t := by
  simp only [List.mem_cons, List.not_mem_nil, or_false] at h
  rcases h with rfl | rfl | rfl | rfl
  case inl =>
    refine keepsTable_event (fun _ => rfl) ?_ ht
    split
    · next x hx =>
      split
      · next due => exact (regulated_placementExpiry hx due.1).keeps.finish
      · exact .refl s
    · exact .refl s
  case inr.inl =>
    refine keepsTable_event (fun _ => rfl) ?_ ht
    split
    · next x hx =>
      split
      · next due => exact (regulated_releaseEvent hx due.1).keeps.finish
      · exact .refl s
    · exact .refl s
  case inr.inr.inl =>
    refine keepsTable_event (fun _ => rfl) ?_ ht
    split
    · next x hx =>
      split
      · next due => exact ((regulated_timeout hx due.1).trans (regulated_serveLeft ..)).keeps.finish
      · exact .refl s
    · exact .refl s
  case inr.inr.inr =>
    refine keepsTable_event (fun _ => rfl) ?_ ht
    split
    · exact ((regulated_remark s (mark_entry _) _).trans (regulated_serveLeft ..)).keeps.finish
    · exact .refl s

/-- An event of another record's slot. -/
theorem keepsTable_ofSlot {c : Instr} (h : c ∈ [.claimTimerExpiry i, .drainTimerExpiry i, .confirmTimerExpiry i,
    .escalationTimerExpiry i, .mergeFreeTimerExpiry i]) (ht : exec c s = .next t) : KeepsTable s t := by
  simp only [List.mem_cons, List.not_mem_nil, or_false] at h
  rcases h with rfl | rfl | rfl | rfl | rfl
  case inl =>
    refine keepsTable_event (fun _ => rfl) ?_ ht
    split
    · split
      · exact (Regulated.after (returnClaim_ledger s i) (regulated_serveLeft ..)).keeps.finish
      · exact .refl s
    · exact .refl s
  case inr.inl =>
    refine keepsTable_event (fun _ => rfl) ?_ ht
    split
    · split
      · exact ((regulated_drainExpiry s i).trans (regulated_serveLeft ..)).keeps.finish
      · exact .refl s
    · exact .refl s
  case inr.inr.inl =>
    refine keepsTable_event (fun _ => rfl) ?_ ht
    split
    · split
      · split
        · exact (keepsTable_confirmExpiry ..).finish
        · exact .refl s
      · exact .refl s
    · exact .refl s
  case inr.inr.inr.inl =>
    refine keepsTable_event (fun _ => rfl) ?_ ht
    split
    · split
      · refine KeepsTable.finish (.of_eq ?_)
        rw [ite_ledger, escalate_ledger, goOverdue_ledger, ite_self]
      · exact .refl s
    · exact .refl s
  case inr.inr.inr.inr =>
    refine keepsTable_event (fun _ => rfl) ?_ ht
    split
    · exact KeepsTable.finish (.of_eq ((chooseHolder_ledger ..).trans (modArbiter_ledger ..)))
    · exact .refl s

/-- An event of an announcement's slot. -/
theorem keepsTable_ofAnn {c : Instr} (h : c ∈ [.startTimerExpiry i, .repeatTimerExpiry i, .announcementExpiry i])
    (ht : exec c s = .next t) : KeepsTable s t := by
  simp only [List.mem_cons, List.not_mem_nil, or_false] at h
  rcases h with rfl | rfl | rfl
  all_goals
    refine keepsTable_event (fun _ => rfl) ?_ ht
    split
    · split
      · refine KeepsTable.finish (.of_eq ?_)
        simp only [becomeDue_ledger, endAndServe_ledger]
      · exact .refl s
    · exact .refl s

theorem keepsTable_minuteBoundary (ht : exec .minuteBoundary s = .next t) : KeepsTable s t := by
  refine keepsTable_event (fun _ => rfl) ?_ ht
  split
  · split
    · exact KeepsTable.finish (.of_eq ((markAllBoards_ledger _).trans (evalHorizon_ledger _)))
    · exact .of_eq rfl
  · exact .refl s

theorem keepsTable_clock {c : Instr} (h : c ∈ [.clockEnd, .clockAdvance]) (ht : exec c s = .next t) :
    KeepsTable s t := by
  simp only [List.mem_cons, List.not_mem_nil, or_false] at h
  rcases h with rfl | rfl
  all_goals
    refine keepsTable_event (fun _ => rfl) ?_ ht
    split
    · exact .of_eq rfl
    · exact (keepsTable_rollover ..).finish

theorem keepsTable_powerOn (ht : exec .powerOn s = .next t) : KeepsTable s t := by
  obtain ⟨-, -, -, -, -, -, -, waiting, -, table, links⟩ := reset_invariants
  refine keepsTable_event (fun _ => rfl) ⟨fun _ => ?_, fun _ => ?_⟩ ht
  · exact sound_of_runTableSound (s := { State.reset with pending := s.pending }) waiting table
  · exact links

/-- The retry: of a run that waits nowhere, where the wait queues are as they should be (R81, R84). -/
theorem retry_keeps (ht : exec (.retry i) s = .next t) :
    (WaitingRuns s → s.ledger.Sound → t.ledger.Sound) ∧ t.ledger.links = s.ledger.links := by
  have event : t = match s.runAt i with
      | some x => if x.state = .held ∧ x.causes = Causes.none then (s.attempt i).finish else s
      | none => s := by
    cases ht
    rfl
  split at event
  · next x hx =>
    split at event
    · next due =>
      obtain ⟨links, sound⟩ := attempt_keeps hx (by simp [due.1]) (by simp [due.1, RunState.onTrack])
      rw [event, finish_ledger]
      exact ⟨fun hw hs => sound hs (not_waiting_of_retry hw hx due.2), links⟩
    · rw [event]; exact ⟨fun _ => id, rfl⟩
  · rw [event]; exact ⟨fun _ => id, rfl⟩

/-! ### The statement -/

/-- Every command but the retry keeps the run table and the links. -/
theorem exec_keepsTable {c : Instr} (hc : ∀ i, c ≠ .retry i) (h : exec c s = .next t) : KeepsTable s t := by
  cases hr : c.request? with
  | some p =>
    obtain ⟨f, he, hf⟩ := exists_tableKeeper hr
    exact keepsTable_event he (keepsTable_takeRequest hf s _ _) h
  | none =>
    cases c with
    | malformedRequest =>
      refine keepsTable_event (fun _ => rfl) (.of_eq ?_) h
      unfold State.takeMalformed
      split <;> rfl
    | arrived => exact keepsTable_report (keepsTable_takeMovement _ _ _ fun _ _ _ p hx => keepsTable_settleArrived hx p) h
    | departed =>
      exact keepsTable_report (keepsTable_takeMovement _ _ _ fun _ _ _ p hx => keepsTable_settleDeparted hx p) h
    | passed => exact keepsTable_report (keepsTable_takeMovement _ _ _ fun _ _ _ p hx => keepsTable_settlePassed hx p) h
    | breaker => exact keepsTable_report (keepsTable_breakerReport ..) h
    | substation => exact keepsTable_report (regulated_supplyReport ..).keeps h
    | paStatus | paDone =>
      refine keepsTable_report (n := 2) (.of_eq ?_) h
      rw [ite_ledger, countUnmatched_ledger]
      simp only [settlePaStatus_ledger, settlePaDone_ledger, ite_self]
    | paTaken =>
      refine keepsTable_report (n := 3) (.of_eq ?_) h
      rw [ite_ledger, countUnmatched_ledger, settlePaTaken_ledger, ite_self]
    | badFrame | frameTransmitEnd => cases h; exact .of_eq (onFli_ledger ..)
    | requestProducerWrite | answerConsumerWrite | portReset | noticeWrite => cases h; exact .of_eq (onCrp_ledger ..)
    | discardedRegisterWrite => cases h; exact .refl s
    | powerOn => exact keepsTable_powerOn h
    | minuteBoundary => exact keepsTable_minuteBoundary h
    | clockEnd | clockAdvance => exact keepsTable_clock (by simp) h
    | describerStaleTimerExpiry =>
      refine keepsTable_event (fun _ => rfl) ?_ h
      split
      · exact ((keepsTable_staleExpiry s).trans (regulated_serveLeft ..).keeps).finish
      · exact .refl s
    | placementTimerExpiry i | releaseEvent i | departureTimeout i | skipMarkingOnLoad i =>
      exact keepsTable_ofRun (i := i) (by simp) h
    | claimTimerExpiry i | drainTimerExpiry i | confirmTimerExpiry i | escalationTimerExpiry i
    | mergeFreeTimerExpiry i => exact keepsTable_ofSlot (i := i) (by simp) h
    | startTimerExpiry i | repeatTimerExpiry i | announcementExpiry i => exact keepsTable_ofAnn (i := i) (by simp) h
    | retry i => exact absurd rfl (hc i)
    | _ => cases hr

/-- Every command keeps a sound run table, the wait queues being as they should be, and the links. -/
theorem exec_keeps {c : Instr} (h : exec c s = .next t) :
    (WaitingRuns s → s.ledger.Sound → t.ledger.Sound) ∧ (LinksAgree s → LinksAgree t) := by
  by_cases hc : ∃ i, c = .retry i
  · obtain ⟨i, rfl⟩ := hc
    obtain ⟨sound, links⟩ := retry_keeps h
    exact ⟨sound, fun hs => agree_iff.2 (by rw [links]; exact agree_iff.1 hs)⟩
  · obtain ⟨sound, agree⟩ := exec_keepsTable (fun i hi => hc ⟨i, hi⟩) h
    exact ⟨fun _ => sound, agree⟩

theorem step_keeps (h : step s = .next t) :
    (WaitingRuns s → s.ledger.Sound → t.ledger.Sound) ∧ (LinksAgree s → LinksAgree t) := by
  unfold step at h
  cases hq : s.pending with
  | nil => rw [hq] at h; cases h; exact ⟨fun _ => id, id⟩
  | cons c rest =>
    rw [hq] at h
    exact exec_keeps (s := s.withPending rest) h

/-- Settles O11: the ledger of a state is what the invariants read; every part of an event keeps it sound and its links
agreed. -/
theorem runTableKept : Obligations.RunTableKept :=
  ⟨fun _ _ hw hs h => runTableSound_of_sound ((step_keeps h).1 hw (sound_of_runTableSound hw hs)),
    fun _ _ hs h => (step_keeps h).2 hs⟩

end Sys2Proof.Machine
end

/-! ## Handles that do not resolve (R31, R127, R139, R140, R149) -/

section
namespace Sys2Proof.Machine
variable {s : State} {r : Req} {code : AnswerCode} {h : Nat}

/-! ### The resolution of a handle and the table's refusals -/

/-- A handle that a table refuses resolves to nothing, and the refusal carries the table's code. -/
theorem resolveIn_refusal {x : HandleTable} {liveGen : Nat → Option Nat} (live : ∀ i, x.live i = (liveGen i).isSome)
    (handle : ∀ i g, liveGen i = some g → x.handle i = mkHandle g i)
    (range : ∀ i g, liveGen i = some g → 1 ≤ i ∧ i ≤ x.slots) (hr : x.refuses h code) :
    (resolveIn x.slots liveGen h).refusal = some code := by
  unfold resolveIn
  cases code with
  | noEffect =>
    have hr : h = 0 := hr
    rw [if_pos hr]
    rfl
  | notFound =>
    obtain ⟨nonzero, hr⟩ := hr
    rw [if_neg nonzero]
    split
    · rfl
    · next inside =>
      obtain h0 | hn | dead := hr
      · exact absurd (.inl h0) inside
      · exact absurd (.inr hn) inside
      · rw [live] at dead
        rw [Option.isSome_eq_false_iff.1 dead |> Option.isNone_iff_eq_none.1]
        rfl
  | stale =>
    obtain ⟨here, other⟩ := hr
    rw [live] at here
    obtain ⟨g, hg⟩ := Option.isSome_iff_exists.1 here
    obtain ⟨low, high⟩ := range _ g hg
    rw [if_neg (by rintro rfl; exact absurd low (by decide)), if_neg (by omega), hg]
    have gen : g ≠ h / 256 := by
      rintro rfl
      refine other ((handle _ _ hg).trans ?_)
      unfold mkHandle
      omega
    exact congrArg Resolved.refusal (if_neg gen)
  | _ => exact absurd hr id

theorem runTable_refusal (hr : s.runTable.refuses h code) : (s.resolveRun h).refusal = some code := by
  refine resolveIn_refusal (x := s.runTable) (fun i => ?_) (fun i g hg => ?_) (fun i g hg => ?_) hr
  · show (s.runAt i).isSome = _
    unfold State.runAt
    cases get1 s.rtb.slots i with
    | none => rfl
    | some y => cases hy : y.run <;> simp [hy]
  all_goals obtain ⟨y, hy, hx⟩ := Option.bind_eq_some_iff.1 hg
  · obtain ⟨x, -, rfl⟩ := Option.map_eq_some_iff.1 hx
    show s.runHandle i = _
    simp [State.runHandle, hy]
  · exact get1_some_range hy

theorem incTable_refusal (hr : s.incTable.refuses h code) : (s.resolveInc h).refusal = some code := by
  refine resolveIn_refusal (x := s.incTable) (fun i => ?_) (fun i g hg => ?_) (fun i g hg => ?_) hr
  · show (s.incAt i).isSome = _
    unfold State.incAt
    cases get1 s.itb.slots i with
    | none => rfl
    | some y => cases hy : y.inc <;> simp [hy]
  all_goals obtain ⟨y, hy, hx⟩ := Option.bind_eq_some_iff.1 hg
  · obtain ⟨x, -, rfl⟩ := Option.map_eq_some_iff.1 hx
    show s.incHandle i = _
    simp [State.incHandle, hy]
  · exact get1_some_range hy

theorem annTable_refusal (hr : s.annTable.refuses h code) : (s.resolveAnn h).refusal = some code := by
  refine resolveIn_refusal (x := s.annTable) (fun i => ?_) (fun i g hg => ?_) (fun i g hg => ?_) hr
  · show (s.annAt i).isSome = _
    unfold State.annAt
    cases get1 s.piu.slots i with
    | none => rfl
    | some y => cases hy : y.ann <;> simp [hy]
  all_goals obtain ⟨y, hy, hx⟩ := Option.bind_eq_some_iff.1 hg
  · obtain ⟨x, -, rfl⟩ := Option.map_eq_some_iff.1 hx
    show s.annHandle i = _
    simp [State.annHandle, hy]
  · exact get1_some_range hy

/-! ### The owner's reply -/

theorem withRun_refused {f : Nat → Run → Reply × State} (hr : (s.resolveRun r.principal).refusal = some code) :
    s.withRun r f = s.reply code := by
  unfold State.withRun
  cases hl : s.resolveRun r.principal with
  | live => rw [hl] at hr; cases hr
  | zero | notFound | stale => rw [hl] at hr; cases hr; rfl

theorem withInc_refused {f : Nat → Incident → Reply × State} (hr : (s.resolveInc r.principal).refusal = some code) :
    s.withInc r f = s.reply code := by
  unfold State.withInc
  cases hl : s.resolveInc r.principal with
  | live => rw [hl] at hr; cases hr
  | zero | notFound | stale => rw [hl] at hr; cases hr; rfl

theorem withAnn_refused {f : Nat → Announcement → Reply × State}
    (hr : (s.resolveAnn r.principal).refusal = some code) : s.withAnn r f = s.reply code := by
  unfold State.withAnn
  cases hl : s.resolveAnn r.principal with
  | live => rw [hl] at hr; cases hr
  | zero | notFound | stale => rw [hl] at hr; cases hr; rfl

/-- The owner of a live run's request settles it for the run. -/
theorem withRun_live {f : Nat → Run → Reply × State} {i : Nat} {x : Run} (hl : s.resolveRun r.principal = .live i)
    (hx : s.runAt i = some x) : s.withRun r f = f i x := by
  simp only [State.withRun, hl, hx]

theorem withInc_live {f : Nat → Incident → Reply × State} {i : Nat} {x : Incident}
    (hl : s.resolveInc r.principal = .live i) (hx : s.incAt i = some x) : s.withInc r f = f i x := by
  simp only [State.withInc, hl, hx]

/-- A refusal by the owner of a request that names a handle answers with that handle and changes nothing else. -/
theorem next_replyNamed {k : ReqKind} {f : State → Reply × State} (hp : Passes s k r) (he : BetweenEvents s)
    (hk : k.namesHandle = true) (hf : f (s.recordRequest k.code r) = (s.recordRequest k.code r).reply code) :
    (Host.Outcome.next (s.takeRequest k r f) : Host.Outcome State Fault Refusal) =
      .next (answered s k r code r.principal []) :=
  next_answered hp he hf (by simp [hk])

/-- A principal handle that does not resolve is refused (R31, R127, R149). -/
theorem exec_principalRefused {c : Instr} {k : ReqKind} (he : BetweenEvents s) (hp : Passes s k r)
    (hc : c.request? = some (k, r)) {x : HandleTable} (hx : s.principalTable k = some x)
    (hr : x.refuses r.principal code) : exec c s = .next (answered s k r code r.principal []) := by
  cases c with
  | retireRun | unholdRun | releaseRun =>
    cases hc; cases hx
    exact next_replyNamed hp he rfl (withRun_refused (s := s.recordRequest _ r) (runTable_refusal hr))
  | amendRun | cancelRun | holdRun =>
    cases hc; cases hx
    exact next_replyNamed hp he rfl ((congrArg (thenServe _)
      (withRun_refused (s := s.recordRequest _ r) (runTable_refusal hr))).trans (thenServe_reply ..))
  | ackIncident | linkRun | linkAnnouncement | retireIncident =>
    cases hc; cases hx
    exact next_replyNamed hp he rfl (withInc_refused (s := s.recordRequest _ r) (incTable_refusal hr))
  | addRestriction | liftRestriction | clearIncident =>
    cases hc; cases hx
    exact next_replyNamed hp he rfl ((congrArg (thenServe _)
      (withInc_refused (s := s.recordRequest _ r) (incTable_refusal hr))).trans (thenServe_reply ..))
  | withdrawAnnouncement =>
    cases hc; cases hx
    exact next_replyNamed hp he rfl (withAnn_refused (s := s.recordRequest _ r) (annTable_refusal hr))
  | _ => cases hc <;> cases hx

/-! ### The second handle (R139, R140) -/

theorem settleLinkRun_refused {i : Nat} {x : Incident} (hr : (s.resolveRun (r.u16 0)).refusal = some code) :
    s.settleLinkRun r i x = s.reply code := by
  simp only [State.settleLinkRun, hr]

theorem settleLinkAnn_refused {i : Nat} {x : Incident} (hr : (s.resolveAnn (r.u16 0)).refusal = some code) :
    s.settleLinkAnn r i x = s.reply code := by
  simp only [State.settleLinkAnn, hr]

theorem exec_secondRefused {c : Instr} {k : ReqKind} (he : BetweenEvents s) (hp : Passes s k r)
    (hc : c.request? = some (k, r)) {i : Nat} {x : Incident} (hk : k = .linkRun ∨ k = .linkAnnouncement)
    (hi : s.resolveInc r.principal = .live i) (hx : s.incAt i = some x)
    (hr : (if k = .linkRun then s.runTable else s.annTable).refuses (r.u16 0) code) :
    exec c s = .next (answered s k r code r.principal []) := by
  cases c with
  | linkRun =>
    cases hc
    rw [if_pos rfl] at hr
    exact next_replyNamed hp he rfl ((withInc_live (s := s.recordRequest _ r) hi hx).trans
      (settleLinkRun_refused (s := s.recordRequest _ r) (runTable_refusal hr)))
  | linkAnnouncement =>
    cases hc
    rw [if_neg (by decide)] at hr
    exact next_replyNamed hp he rfl ((withInc_live (s := s.recordRequest _ r) hi hx).trans
      (settleLinkAnn_refused (s := s.recordRequest _ r) (annTable_refusal hr)))
  | _ => cases hc <;> simp at hk

/-- Settles O15: the owner of each request resolves the handle first, and a resolution that fails is its reply. -/
theorem handlesRefused : Obligations.HandlesRefused :=
  fun _ _ _ _ _ he hp hc => ⟨fun _ hx hr => exec_principalRefused he hp hc hx hr,
    fun _ _ hk hi hx hr => exec_secondRefused he hp hc hk hi hx hr⟩

end Sys2Proof.Machine
end

/-! ## LINK_RUN and LINK_ANNOUNCEMENT (R46, R139, R140) -/

section
namespace Sys2Proof.Machine
variable {s : State} {r : Req} {i j : Nat} {x : Incident}

/-- What a link request's action byte says. -/
theorem readLink_none {n : Nat} (h : n = 0 ∨ 2 < n) : readLink n = none := by
  match n, h with
  | 0, _ => rfl
  | n + 3, _ => rfl

/-! ### The outcomes by the two records -/

section
variable {run : Run}

theorem linkRun_made (stands : x.state ≠ .cleared) (absent : s.runHandle j ∉ x.runs) (room : x.runs.length < 4)
    (room' : run.incidents.length < 4) : s.linkRun i x j run = (Reply.just .ok, s.linkBoth i j) := by
  rw [State.linkRun, if_neg stands, if_neg (by simpa using absent), if_neg (not_le.2 room), if_neg (not_le.2 room')]

theorem linkRun_listed (stands : x.state ≠ .cleared) (listed : s.runHandle j ∈ x.runs) :
    s.linkRun i x j run = s.reply .noEffect := by
  rw [State.linkRun, if_neg stands, if_pos (by simpa using listed)]

theorem linkRun_full (stands : x.state ≠ .cleared) (absent : s.runHandle j ∉ x.runs) (full : 4 ≤ x.runs.length) :
    s.linkRun i x j run = s.reply .full := by
  rw [State.linkRun, if_neg stands, if_neg (by simpa using absent), if_pos full]

theorem linkRun_runFull (stands : x.state ≠ .cleared) (absent : s.runHandle j ∉ x.runs) (room : x.runs.length < 4)
    (full : 4 ≤ run.incidents.length) : s.linkRun i x j run = s.replyHandle .full (s.runHandle j) := by
  rw [State.linkRun, if_neg stands, if_neg (by simpa using absent), if_neg (not_le.2 room), if_pos full]

theorem linkRun_cleared (cleared : x.state = .cleared) : s.linkRun i x j run = s.reply .badState := by
  rw [State.linkRun, if_pos cleared]

theorem unlinkRunFrom_made (listed : s.runHandle j ∈ x.runs) :
    s.unlinkRunFrom i x j = (Reply.just .ok, s.unlinkBoth i j) := by
  rw [State.unlinkRunFrom, if_pos (by simpa using listed)]

theorem unlinkRunFrom_absent (absent : s.runHandle j ∉ x.runs) : s.unlinkRunFrom i x j = s.reply .noEffect := by
  rw [State.unlinkRunFrom, if_neg (by simpa using absent)]

variable {a : Announcement}

theorem linkAnn_made (stands : x.state ≠ .cleared) (absent : s.annHandle j ∉ x.anns) (free : a.linkedInc = none)
    (room : x.anns.length < 4) : s.linkAnn i x j a = (Reply.just .ok,
      (s.modInc i fun y => { y with anns := y.anns ++ [s.annHandle j] }).modAnn j fun y =>
        { y with linkedInc := some (s.incHandle i) }) := by
  rw [State.linkAnn, if_neg stands, if_neg (by simpa using absent), if_neg (by simp [free]), if_neg (not_le.2 room)]

theorem linkAnn_listed (stands : x.state ≠ .cleared) (listed : s.annHandle j ∈ x.anns) :
    s.linkAnn i x j a = s.reply .noEffect := by
  rw [State.linkAnn, if_neg stands, if_pos (by simpa using listed)]

theorem linkAnn_bad (bad : x.state = .cleared ∨ (s.annHandle j ∉ x.anns ∧ a.linkedInc ≠ none)) :
    s.linkAnn i x j a = s.reply .badState := by
  rw [State.linkAnn]
  by_cases cleared : x.state = .cleared
  · rw [if_pos cleared]
  · obtain ⟨absent, linked⟩ := bad.resolve_left cleared
    rw [if_neg cleared, if_neg (by simpa using absent), if_pos (Option.isSome_iff_ne_none.2 linked)]

theorem linkAnn_full (stands : x.state ≠ .cleared) (absent : s.annHandle j ∉ x.anns) (free : a.linkedInc = none)
    (full : 4 ≤ x.anns.length) : s.linkAnn i x j a = s.reply .full := by
  rw [State.linkAnn, if_neg stands, if_neg (by simpa using absent), if_neg (by simp [free]), if_pos full]

theorem unlinkAnnFrom_made (listed : s.annHandle j ∈ x.anns) : s.unlinkAnnFrom i x j = (Reply.just .ok,
    (s.modInc i fun y => { y with anns := y.anns.filter (· != s.annHandle j) }).modAnn j fun y =>
      { y with linkedInc := none }) := by
  rw [State.unlinkAnnFrom, if_pos (by simpa using listed)]

theorem unlinkAnnFrom_absent (absent : s.annHandle j ∉ x.anns) : s.unlinkAnnFrom i x j = s.reply .noEffect := by
  rw [State.unlinkAnnFrom, if_neg (by simpa using absent)]

end

/-! ### LINK_RUN (R139) -/

section
variable {run : Run} (hl : s.resolveRun (r.u16 0) = .live j) (hr : s.runAt j = some run)
include hl

theorem settleLinkRun_other (h : r.u8 2 = 0 ∨ 2 < r.u8 2) : s.settleLinkRun r i x = s.reply .outOfRange := by
  simp only [State.settleLinkRun, hl, Resolved.refusal, Resolved.slot?, readLink_none h]

theorem settleLinkRun_unlink (h : r.u8 2 = 2) : s.settleLinkRun r i x = s.unlinkRunFrom i x j := by
  simp only [State.settleLinkRun, hl, Resolved.refusal, Resolved.slot?, h, readLink]

include hr

theorem settleLinkRun_link (h : r.u8 2 = 1) : s.settleLinkRun r i x = s.linkRun i x j run := by
  simp only [State.settleLinkRun, hl, Resolved.refusal, Resolved.slot?, h, readLink, hr]

/-- LINK_RUN taken with an incident and a run that resolve, by the run's part of the statement. -/
theorem exec_linkRun (he : BetweenEvents s) (hi : s.resolveInc r.principal = .live i) (hx : s.incAt i = some x)
    (hp : Passes s .linkRun r) :
    (r.u8 2 = 1 → x.state ≠ .cleared → s.runHandle j ∉ x.runs → x.runs.length < 4 → run.incidents.length < 4 →
      exec (.linkRun r) s = .next (answered
        ((s.modInc i fun y => { y with runs := y.runs ++ [s.runHandle j] }).modRun j fun y =>
          { y with incidents := y.incidents ++ [s.incHandle i] }) .linkRun r .ok r.principal [])) ∧
    (r.u8 2 = 2 → s.runHandle j ∈ x.runs →
      exec (.linkRun r) s = .next (answered
        ((s.modInc i fun y => { y with runs := y.runs.filter (· != s.runHandle j) }).modRun j fun y =>
          { y with incidents := y.incidents.filter (· != s.incHandle i) }) .linkRun r .ok r.principal [])) ∧
    (r.u8 2 = 1 ∧ x.state ≠ .cleared ∧ s.runHandle j ∈ x.runs ∨ r.u8 2 = 2 ∧ s.runHandle j ∉ x.runs →
      exec (.linkRun r) s = .next (answered s .linkRun r .noEffect r.principal [])) ∧
    (r.u8 2 = 1 → x.state ≠ .cleared → s.runHandle j ∉ x.runs → 4 ≤ x.runs.length →
      exec (.linkRun r) s = .next (answered s .linkRun r .full r.principal [])) ∧
    (r.u8 2 = 1 → x.state ≠ .cleared → s.runHandle j ∉ x.runs → x.runs.length < 4 → 4 ≤ run.incidents.length →
      exec (.linkRun r) s = .next (answered s .linkRun r .full (s.runHandle j) [])) ∧
    (r.u8 2 = 1 → x.state = .cleared →
      exec (.linkRun r) s = .next (answered s .linkRun r .badState r.principal [])) ∧
    (r.u8 2 = 0 ∨ 2 < r.u8 2 →
      exec (.linkRun r) s = .next (answered s .linkRun r .outOfRange r.principal [])) := by
  have owner : settleLinkRun r (s.recordRequest ReqKind.linkRun.code r) =
      (s.recordRequest ReqKind.linkRun.code r).settleLinkRun r i x :=
    withInc_live (s := s.recordRequest ReqKind.linkRun.code r) hi hx
  have link (h : r.u8 2 = 1) := owner.trans (settleLinkRun_link (s := s.recordRequest _ r) hl hr h)
  have unlink (h : r.u8 2 = 2) := owner.trans (settleLinkRun_unlink (s := s.recordRequest _ r) hl h)
  refine ⟨fun h1 stands absent room room' => ?_, fun h2 listed => ?_, ?_, fun h1 stands absent full => ?_,
    fun h1 stands absent room full => ?_, fun h1 cleared => ?_, fun h => ?_⟩
  · exact next_answered hp (by exact he)
      ((link h1).trans (linkRun_made (s := s.recordRequest _ r) stands absent room room')) rfl
  · exact next_answered hp (by exact he) ((unlink h2).trans (unlinkRunFrom_made (s := s.recordRequest _ r) listed)) rfl
  · rintro (⟨h1, stands, listed⟩ | ⟨h2, absent⟩)
    · exact next_replyNamed hp he rfl ((link h1).trans (linkRun_listed (s := s.recordRequest _ r) stands listed))
    · exact next_replyNamed hp he rfl ((unlink h2).trans (unlinkRunFrom_absent (s := s.recordRequest _ r) absent))
  · exact next_replyNamed hp he rfl ((link h1).trans (linkRun_full (s := s.recordRequest _ r) stands absent full))
  · exact next_answered_handle hp (by exact he)
      ((link h1).trans (linkRun_runFull (s := s.recordRequest _ r) stands absent room full))
  · exact next_replyNamed hp he rfl ((link h1).trans (linkRun_cleared cleared))
  · exact next_replyNamed hp he rfl (owner.trans (settleLinkRun_other (s := s.recordRequest _ r) hl h))

end

/-! ### LINK_ANNOUNCEMENT (R140) -/

section
variable {a : Announcement} (hl : s.resolveAnn (r.u16 0) = .live j) (ha : s.annAt j = some a)
include hl

theorem settleLinkAnn_other (h : r.u8 2 = 0 ∨ 2 < r.u8 2) : s.settleLinkAnn r i x = s.reply .outOfRange := by
  simp only [State.settleLinkAnn, hl, Resolved.refusal, Resolved.slot?, readLink_none h]

theorem settleLinkAnn_unlink (h : r.u8 2 = 2) : s.settleLinkAnn r i x = s.unlinkAnnFrom i x j := by
  simp only [State.settleLinkAnn, hl, Resolved.refusal, Resolved.slot?, h, readLink]

include ha

theorem settleLinkAnn_link (h : r.u8 2 = 1) : s.settleLinkAnn r i x = s.linkAnn i x j a := by
  simp only [State.settleLinkAnn, hl, Resolved.refusal, Resolved.slot?, h, readLink, ha]

/-- LINK_ANNOUNCEMENT taken with an incident and an announcement that resolve, by its part of the statement. -/
theorem exec_linkAnnouncement (he : BetweenEvents s) (hi : s.resolveInc r.principal = .live i)
    (hx : s.incAt i = some x) (hp : Passes s .linkAnnouncement r) :
    (r.u8 2 = 1 → x.state ≠ .cleared → s.annHandle j ∉ x.anns → a.linkedInc = none → x.anns.length < 4 →
      exec (.linkAnnouncement r) s = .next (answered
        ((s.modInc i fun y => { y with anns := y.anns ++ [s.annHandle j] }).modAnn j fun y =>
          { y with linkedInc := some (s.incHandle i) }) .linkAnnouncement r .ok r.principal [])) ∧
    (r.u8 2 = 2 → s.annHandle j ∈ x.anns →
      exec (.linkAnnouncement r) s = .next (answered
        ((s.modInc i fun y => { y with anns := y.anns.filter (· != s.annHandle j) }).modAnn j fun y =>
          { y with linkedInc := none }) .linkAnnouncement r .ok r.principal [])) ∧
    (r.u8 2 = 1 ∧ x.state ≠ .cleared ∧ s.annHandle j ∈ x.anns ∨ r.u8 2 = 2 ∧ s.annHandle j ∉ x.anns →
      exec (.linkAnnouncement r) s = .next (answered s .linkAnnouncement r .noEffect r.principal [])) ∧
    (r.u8 2 = 1 → x.state = .cleared ∨ (s.annHandle j ∉ x.anns ∧ a.linkedInc ≠ none) →
      exec (.linkAnnouncement r) s = .next (answered s .linkAnnouncement r .badState r.principal [])) ∧
    (r.u8 2 = 1 → x.state ≠ .cleared → s.annHandle j ∉ x.anns → a.linkedInc = none → 4 ≤ x.anns.length →
      exec (.linkAnnouncement r) s = .next (answered s .linkAnnouncement r .full r.principal [])) ∧
    (r.u8 2 = 0 ∨ 2 < r.u8 2 →
      exec (.linkAnnouncement r) s = .next (answered s .linkAnnouncement r .outOfRange r.principal [])) := by
  have owner : settleLinkAnnouncement r (s.recordRequest ReqKind.linkAnnouncement.code r) =
      (s.recordRequest ReqKind.linkAnnouncement.code r).settleLinkAnn r i x :=
    withInc_live (s := s.recordRequest ReqKind.linkAnnouncement.code r) hi hx
  have link (h : r.u8 2 = 1) := owner.trans (settleLinkAnn_link (s := s.recordRequest _ r) hl ha h)
  have unlink (h : r.u8 2 = 2) := owner.trans (settleLinkAnn_unlink (s := s.recordRequest _ r) hl h)
  refine ⟨fun h1 stands absent free room => ?_, fun h2 listed => ?_, ?_, fun h1 bad => ?_,
    fun h1 stands absent free full => ?_, fun h => ?_⟩
  · exact next_answered hp (by exact he)
      ((link h1).trans (linkAnn_made (s := s.recordRequest _ r) stands absent free room)) rfl
  · exact next_answered hp (by exact he) ((unlink h2).trans (unlinkAnnFrom_made (s := s.recordRequest _ r) listed)) rfl
  · rintro (⟨h1, stands, listed⟩ | ⟨h2, absent⟩)
    · exact next_replyNamed hp he rfl ((link h1).trans (linkAnn_listed (s := s.recordRequest _ r) stands listed))
    · exact next_replyNamed hp he rfl ((unlink h2).trans (unlinkAnnFrom_absent (s := s.recordRequest _ r) absent))
  · exact next_replyNamed hp he rfl ((link h1).trans (linkAnn_bad (s := s.recordRequest _ r) bad))
  · exact next_replyNamed hp he rfl ((link h1).trans (linkAnn_full (s := s.recordRequest _ r) stands absent free full))
  · exact next_replyNamed hp he rfl (owner.trans (settleLinkAnn_other (s := s.recordRequest _ r) hl h))

end

/-- Settles O52: each link request by its owner, which reads the two records and writes both sides or refuses. -/
theorem incidentsLinked : Obligations.IncidentsLinked :=
  fun _ _ _ _ he hi hx => ⟨fun _ _ hp hl hr => exec_linkRun hl hr he hi hx hp,
    fun _ _ hp hl ha => exec_linkAnnouncement hl ha he hi hx hp⟩

end Sys2Proof.Machine
end

/-! ## LOAD_RUN (R35, R36, R37, R50) -/

section
namespace Sys2Proof.Machine
variable {s : State} {r : Req} {i : Nat} {b : LoadBody}

/-! ### A valid body (R36) -/

theorem nonDecreasing_iff (l : List Nat) : nonDecreasing l = true ↔ l.Pairwise (· ≤ ·) := by
  induction l with
  | nil => simp [nonDecreasing]
  | cons a l ih =>
    cases l with
    | nil => simp [nonDecreasing]
    | cons c l =>
      rw [nonDecreasing, Bool.and_eq_true, ih, decide_eq_true_eq, List.pairwise_cons (a := a)]
      refine and_congr_left fun h => ⟨fun hac x hx => ?_, fun h => h c List.mem_cons_self⟩
      obtain rfl | hx := List.mem_cons.1 hx
      · exact hac
      · exact hac.trans ((List.pairwise_cons.1 h).1 x hx)

theorem consecutiveIn_iff (l tps : List Nat) :
    consecutiveIn l tps = true ↔ ∃ k, k < l.length ∧ (l.drop k).take tps.length = tps := by
  simp [consecutiveIn]

theorem timesFit_iff {n k : Nat} {kind : StopKind} {arr dep : Option Nat} : timesFit n k kind arr dep = true ↔
    (arr.isSome = true ↔ 1 < k) ∧ (dep.isSome = true ↔ k < n) ∧ (kind = .pass → arr = dep) := by
  have passes : (kind == .stop || arr == dep) = true ↔ (kind = .pass → arr = dep) := by cases kind <;> simp
  have known (o : Option Nat) (p : Prop) [Decidable p] : (o.isSome == decide p) = true ↔ (o.isSome = true ↔ p) := by
    by_cases hp : p <;> simp [hp]
  rw [timesFit, Bool.and_eq_true, Bool.and_eq_true, passes, and_assoc, known, known]

theorem stopsValid_iff (stops : List Stop) : stopsValid stops = true ↔
    (∀ k st, stops[k]? = some st → (st.kind = .stop ∨ (0 < k ∧ k + 1 < stops.length)) ∧
      (st.schedArr.isSome = true ↔ 0 < k) ∧ (st.schedDep.isSome = true ↔ k + 1 < stops.length) ∧
      (st.kind = .pass → st.schedArr = st.schedDep)) ∧ (schedule stops).Pairwise (· ≤ ·) := by
  rw [stopsValid, Bool.and_eq_true, nonDecreasing_iff, List.all_eq_true]
  refine and_congr_left fun _ => ?_
  have stop (k : Nat) (st : Stop) : ((st.kind == .stop || (decide (0 < k) && decide (k + 1 < stops.length))) &&
      timesFit stops.length (k + 1) st.kind st.schedArr st.schedDep) = true ↔
        (st.kind = .stop ∨ (0 < k ∧ k + 1 < stops.length)) ∧ (st.schedArr.isSome = true ↔ 0 < k) ∧
        (st.schedDep.isSome = true ↔ k + 1 < stops.length) ∧ (st.kind = .pass → st.schedArr = st.schedDep) := by
    rw [Bool.and_eq_true, timesFit_iff]
    simp
  refine ⟨fun h k st hk => (stop k st).1 (h (st, k) (List.mem_zipIdx_iff_getElem?.2 hk)), fun h x hx => ?_⟩
  exact (stop x.2 x.1).2 (h x.2 x.1 (List.mem_zipIdx_iff_getElem?.1 hx))

theorem loadValid_iff (s : State) (b : LoadBody) : s.loadValid b = true ↔ LoadFits s b := by
  have route : (s.routeDef b.route).any (fun l => consecutiveIn l (b.stops.map (·.tp))) = true ↔
      ∃ l k, s.routeDef b.route = some l ∧ k < l.length ∧ (l.drop k).take b.stops.length = b.stops.map (·.tp) := by
    simp [Option.any_eq_true, consecutiveIn_iff]
  simp only [State.loadValid, Bool.and_eq_true, decide_eq_true_eq, route, stopsValid_iff, LoadFits, and_assoc]

/-! ### The slot (R35) -/

/-- No slot is free. -/
theorem freeRun_eq_none (h : ∀ i, 1 ≤ i → i ≤ 128 → s.runAt i ≠ none) : s.freeRun = none := by
  refine List.find?_eq_none.2 fun i hi => ?_
  obtain ⟨low, high⟩ := mem_ids.1 hi
  have := h i low high
  simp only [State.runAt] at this
  cases hz : get1 s.rtb.slots i with
  | none => simp
  | some z => simpa [hz, Option.isNone_iff_eq_none] using this

/-- The free slot is the lowest one that is not live. -/
theorem freeRun_eq (low : 1 ≤ i) (high : i ≤ 128) (free : s.runAt i = none)
    (before : ∀ j, 1 ≤ j → j < i → s.runAt j ≠ none) : s.freeRun = some i := by
  have test (j : Nat) (lj : 1 ≤ j) (hj : j ≤ 128) :
      ((get1 s.rtb.slots j).any fun x => x.run.isNone) = true ↔ s.runAt j = none := by
    obtain ⟨z, hz⟩ := get1_isSome s.rtb.slots lj hj
    simp [State.runAt, hz]
  rw [State.freeRun, List.find?_eq_some_iff_getElem]
  refine ⟨(test i low high).2 free, i - 1, by simp [ids]; omega, by simp [ids]; omega, fun k hk => ?_⟩
  simp only [ids, List.getElem_map, List.getElem_range, Bool.not_eq_true', ← Bool.not_eq_true]
  exact mt (test (k + 1) (by omega) (by omega)).1 (before (k + 1) (by omega) (by omega))

/-! ### The outcomes -/

theorem settleLoadRun_setup (hs : s.inService = false) : settleLoadRun r s = s.reply .badState := by
  rw [settleLoadRun, if_pos (by simp [hs])]

theorem settleLoadRun_unreadable (hs : s.inService = true) (h : r.load = none) :
    settleLoadRun r s = s.reply .outOfRange := by
  rw [settleLoadRun, if_neg (by simp [hs]), h]

theorem settleLoadRun_invalid (hs : s.inService = true) (hb : r.load = some b) (h : ¬ LoadFits s b) :
    settleLoadRun r s = s.reply .outOfRange := by
  have invalid : s.loadValid b = false := by rw [← Bool.not_eq_true, loadValid_iff]; exact h
  rw [settleLoadRun, if_neg (by simp [hs]), hb]
  simp [invalid]

/-- A valid body in SERVICE: the number and the free slot decide. -/
theorem settleLoadRun_valid (hs : s.inService = true) (hb : r.load = some b) (h : LoadFits s b) : settleLoadRun r s =
    if (s.runNumbered b.number).isSome then s.reply .duplicate
    else match s.freeRun with
      | none => s.reply .full
      | some i => (⟨.ok, some (s.runHandle i), []⟩, s.loadIn i b) := by
  rw [settleLoadRun, if_neg (by simp [hs]), hb]
  simp only [(loadValid_iff s b).2 h, Bool.not_true, Bool.false_eq_true, if_false] <;> rfl

theorem runNumbered_isSome {n : Nat} : (s.runNumbered n).isSome = true ↔ ∃ j x, s.runAt j = some x ∧ x.number = n := by
  constructor
  · intro h
    obtain ⟨⟨j, x⟩, hx⟩ := Option.isSome_iff_exists.1 h
    exact ⟨j, x, runNumbered_runAt hx, by simpa using List.find?_some hx⟩
  · rintro ⟨j, x, hx, hn⟩
    exact List.find?_isSome.2 ⟨(j, x), mem_liveRuns.2 hx, by simp [hn]⟩

/-- A run loaded into a slot, before the horizon watch looks. -/
def State.loaded (s : State) (i : Nat) (b : LoadBody) : State :=
  (s.onRtb fun x => { x with slots := mod1 x.slots i fun y => { y with run := some (s.newRun b) } }).modReg i
    fun _ => RegRec.clear

theorem loaded_runAt_self (low : 1 ≤ i) (high : i ≤ 128) : (s.loaded i b).runAt i = some (s.newRun b) := by
  obtain ⟨z, hz⟩ := get1_isSome s.rtb.slots low high
  show (get1 (mod1 s.rtb.slots i _) i).bind _ = _
  rw [get1_mod1_self, hz]
  rfl

theorem loaded_runAt_ne {j : Nat} (h : j ≠ i) : (s.loaded i b).runAt j = s.runAt j := by
  show (get1 (mod1 s.rtb.slots i _) j).bind _ = _
  rw [get1_mod1_ne _ (Ne.symm h)]
  rfl

theorem loaded_runHandle (j : Nat) : (s.loaded i b).runHandle j = s.runHandle j := by
  show mkHandle ((get1 (mod1 s.rtb.slots i _) j).elim 0 (·.gen)) j = _
  rw [get1_mod1]
  split
  · simp only [State.runHandle]
    cases get1 s.rtb.slots j <;> rfl
  · rfl

/-- The run is loaded: the answer, and the state that the event leaves. -/
theorem exec_loadRun_made (he : BetweenEvents s) (hp : Passes s .loadRun r) (hs : s.inService = true)
    (hb : r.load = some b) (h : LoadFits s b) (hn : ∀ j x, s.runAt j = some x → x.number ≠ b.number) (low : 1 ≤ i)
    (high : i ≤ 128) (free : s.runAt i = none) (before : ∀ j, 1 ≤ j → j < i → s.runAt j ≠ none) :
    ∃ l c, exec (.loadRun r) s = .next { (s.loaded i b).watched l with crp := c, fli := s.fli.startFrame } ∧
      c = { exchanged s.crp (requestBytes ReqKind.loadRun.code r)
        (answerBytes ReqKind.loadRun.code r AnswerCode.ok.code (s.runHandle i) []) with notices := l } ∧
      ∀ k x, get0 s.lds.clients k = some x → get0 l k = (get0 s.crp.notices k).map fun c =>
        (s.timetableNotice s.rtb.armed (s.loaded i b).horizon).foldl
          (fun c n => if x.configured && n.2 k x then c.join n.1 else c) c := by
  obtain ⟨l, hl, posted⟩ := evalHorizon_watched (s := (s.recordRequest ReqKind.loadRun.code r).loaded i b) hs
  have settled : settleLoadRun r (s.recordRequest ReqKind.loadRun.code r) =
      (⟨.ok, some (s.runHandle i), []⟩, ((s.recordRequest ReqKind.loadRun.code r).loaded i b).watched l) := by
    have number : ¬ (s.runNumbered b.number).isSome = true := fun h => by
      obtain ⟨j, x, hx, hnum⟩ := runNumbered_isSome.1 h
      exact hn j x hx hnum
    refine (settleLoadRun_valid (s := s.recordRequest ReqKind.loadRun.code r) hs hb h).trans ((if_neg number).trans ?_)
    have slot : (s.recordRequest ReqKind.loadRun.code r).freeRun = some i := freeRun_eq low high free before
    rw [slot, ← hl]
    rfl
  have clean : (((s.recordRequest ReqKind.loadRun.code r).loaded i b).watched l).piu.dirty = [] := he
  refine ⟨l, _, ?_, rfl, posted⟩
  show Host.Outcome.next (s.takeRequest .loadRun r (settleLoadRun r)) = _
  rw [takeRequest_passes s _ r _ hp, settled, finish_clean _ (by exact clean)]
  rfl

/-- Settles O29: the body's conditions are those of R36, the refusals come in their order, and the run is loaded into the
lowest free slot. -/
theorem runLoaded : Obligations.RunLoaded := by
  refine ⟨loadValid_iff, fun s r he hp => ⟨fun hs => ?_, fun hs h => ?_, fun b hs hb h => ⟨fun dup => ?_,
    fun hn full => ?_, fun i hn low high free before => ?_⟩⟩⟩
  · exact next_reply hp he rfl (settleLoadRun_setup (s := s.recordRequest _ r) hs)
  · obtain h | ⟨b, hb, h⟩ := h
    · exact next_reply hp he rfl (settleLoadRun_unreadable (s := s.recordRequest _ r) hs h)
    · exact next_reply hp he rfl (settleLoadRun_invalid (s := s.recordRequest _ r) hs hb h)
  · exact next_reply hp he rfl ((settleLoadRun_valid (s := s.recordRequest _ r) hs hb h).trans
      (if_pos (runNumbered_isSome.2 dup)))
  · have number : ¬ (s.runNumbered b.number).isSome = true := fun h => by
      obtain ⟨j, x, hx, hnum⟩ := runNumbered_isSome.1 h
      exact hn j x hx hnum
    refine next_reply hp he rfl ((settleLoadRun_valid (s := s.recordRequest _ r) hs hb h).trans
      ((if_neg number).trans ?_))
    have none : (s.recordRequest ReqKind.loadRun.code r).freeRun = Option.none := freeRun_eq_none full
    rw [none]
  · obtain ⟨l, c, ht, hc, posted⟩ := exec_loadRun_made he hp hs hb h hn low high free before
    have horizon : State.horizon { (s.loaded i b).watched l with crp := c, fli := s.fli.startFrame } =
        (s.loaded i b).horizon := horizon_of_eq rfl rfl rfl
    refine ⟨_, ht, ⟨l, hc⟩, ⟨rfl, rfl, rfl, by simp, by simp⟩, ⟨s.newRun b, loaded_runAt_self low high, rfl, rfl, rfl,
      rfl, rfl, rfl, rfl, rfl, rfl, rfl, rfl, rfl, rfl⟩, fun j hj => loaded_runAt_ne hj, loaded_runHandle, rfl,
      horizon.symm, ?_, fun k x hx => ?_, rfl, rfl, rfl, rfl, rfl, rfl⟩
    · rw [horizon]; rfl
    · rw [horizon, hc]; exact posted k x hx

end Sys2Proof.Machine
end

/-! ## RETIRE_RUN and CLEAR_COUNTERS (R30, R45, R46, R52, R74) -/

section
namespace Sys2Proof.Machine
variable {s t u : State} {r : Req} {i j : Nat} {x : Run}

/-! ### An event's end, block by block -/

/-- Two states with the same blocks, but for the boards, the port and the line. -/
structure SameBlocks (t u : State) : Prop where
  lds : t.lds = u.lds
  lck : t.lck = u.lck
  rtb : t.rtb = u.rtb
  mvt : t.mvt = u.mvt
  drg : t.drg = u.drg
  tpc : t.tpc = u.tpc
  itb : t.itb = u.itb

section
variable (h : SameBlocks t u)
include h

theorem SameBlocks.runAt (i : Nat) : t.runAt i = u.runAt i := by rw [State.runAt, h.rtb]; rfl
theorem SameBlocks.runHandle (i : Nat) : t.runHandle i = u.runHandle i := by rw [State.runHandle, h.rtb]; rfl
theorem SameBlocks.reg (i : Nat) : t.reg i = u.reg i := by rw [State.reg, h.drg]; rfl
theorem SameBlocks.tp (p : Nat) : t.tp p = u.tp p := by rw [State.tp, h.mvt]; rfl
theorem SameBlocks.seg (g : Nat) : t.seg g = u.seg g := by rw [State.seg, h.mvt]; rfl
theorem SameBlocks.mergeList (m : Nat) : t.mergeList m = u.mergeList m := by rw [State.mergeList, h.mvt]; rfl
theorem SameBlocks.sub (k : Nat) : t.sub k = u.sub k := by rw [State.sub, h.tpc]; rfl
theorem SameBlocks.claim (i : Nat) : t.claim i = u.claim i := by rw [State.claim, h.tpc]; rfl
theorem SameBlocks.ledger : t.ledger = u.ledger := ledger_of_blocks h.lds h.rtb h.mvt h.drg h.tpc h.itb

theorem SameBlocks.horizon : t.horizon = u.horizon := horizon_of_eq (by rw [h.rtb]) h.lck (by rw [h.lds])

end

theorem sameBlocks_finish (s : State) : SameBlocks s.finish s :=
  ⟨finish_lds s, finish_lck s, finish_rtb s, finish_mvt s, finish_drg s, finish_tpc s, finish_itb s⟩

theorem sameBlocks_answer (s : State) (b : List Byte) : SameBlocks (s.writeAnswer b).finish s :=
  ⟨finish_lds _, finish_lck _, finish_rtb _, finish_mvt _, finish_drg _, finish_tpc _, finish_itb _⟩

/-- The blocks' work is steady work. -/
theorem steady_of_kept (h : u.kept = s.kept) : Steady s u :=
  ⟨lds_of_kept h, lck_of_kept h, (congrArg State.pending h :), (congrArg (fun x => x.fli.rx) h :),
    (congrArg (fun x => x.fli.badFrames) h :)⟩

/-- The end of an event is steady. -/
theorem Steady.finish (h : Steady s u) : Steady s u.finish := by
  obtain ⟨hlds, hlck, hpending, hrx, hbad⟩ := h
  exact ⟨by simp [hlds], by simp [hlck], by simp [hpending], by simp [hrx], by simp [hbad]⟩

/-- A request that names a handle and is done: it is answered OK, and its event leaves the blocks as its owner does. -/
theorem next_done {k : ReqKind} {f : State → Reply × State} (hp : Passes s k r) (hn : k.namesHandle = true)
    (hf : f (s.recordRequest k.code r) = (Reply.just .ok, u)) (hk : u.kept = (s.recordRequest k.code r).kept) :
    ∃ t, (Host.Outcome.next (s.takeRequest k r f) : Host.Outcome State Fault Refusal) = .next t ∧
      Answers s t k r .ok r.principal [] ∧ Steady s t ∧ SameBlocks t u ∧
      t = (u.writeAnswer (answerBytes k.code r AnswerCode.ok.code r.principal [])).finish := by
  obtain ⟨t, ht, done, answers⟩ := next_answers hp hf (crp_of_kept hk) (if_pos hn)
  have steady : Steady s u := steady_of_kept (s := s.recordRequest k.code r) hk
  refine ⟨t, ht, answers, ?_, ?_, done⟩
  · subst done; exact Steady.finish (u := u.writeAnswer _) steady
  · subst done; exact sameBlocks_answer u _

/-! ### The horizon watch and the ends of announcements -/

/-- The horizon watch writes its count and its mark, and posts. -/
theorem evalHorizon_eq (s : State) : ∃ n a l, s.evalHorizon =
    { s with rtb := { s.rtb with horizonCount := n, armed := a }, crp := { s.crp with notices := l } } := by
  by_cases hs : s.inService = true
  · obtain ⟨l, hl, -⟩ := evalHorizon_watched hs
    exact ⟨_, _, l, hl⟩
  · exact ⟨_, _, s.crp.notices, by rw [State.evalHorizon, if_neg hs]⟩

/-- The end of a run ends announcements. -/
theorem Played.endRun (h : Played s t) (i : Nat) : Played s (t.endRun i) := by
  unfold State.endRun
  split
  · exact h
  · exact (h.withdrawAll _).markRun _ _

@[simp] theorem withdrawAll_outline (s : State) (ks : List Nat) : (s.withdrawAll ks).outline = s.outline := by
  refine foldl_outline _ (fun t h => ?_) _ s
  unfold State.withdrawServing State.endServing
  (repeat' split) <;> simp

@[simp] theorem endRun_outline (s : State) (i : Nat) : (s.endRun i).outline = s.outline := by
  unfold State.endRun
  split <;> simp

/-! ### A slot's run and generation, by the outline -/

theorem runHandle_of_outlineAt (h : t.outlineAt j = s.outlineAt j) : t.runHandle j = s.runHandle j := by
  have gen (u : State) : u.runHandle j = mkHandle ((u.outlineAt j).elim 0 (·.gen)) j := by
    unfold State.runHandle State.outlineAt
    cases get1 u.rtb.slots j <;> rfl
  rw [gen, gen, h]

theorem plan_of_outlineAt (h : t.outlineAt j = s.outlineAt j) :
    (t.runAt j).map Run.plan = (s.runAt j).map Run.plan := by
  have plan (u : State) : (u.runAt j).map Run.plan = ((u.runAt j).map Run.outline).map Run.plan := by
    rw [Option.map_map]; rfl
  rw [plan, plan, runAt_outline, runAt_outline, h]

theorem gen_of_outlineAt {y z : RunSlot} (h : t.outlineAt i = s.outlineAt i) (hy : get1 s.rtb.slots i = some y)
    (hz : get1 t.rtb.slots i = some z) : z.gen = y.gen := by
  unfold State.outlineAt at h
  rw [hy, hz] at h
  simpa using congrArg (Option.map RunSlot.gen) h

theorem outlineAt_of_outline (h : t.outline = s.outline) (j : Nat) : t.outlineAt j = s.outlineAt j :=
  congrFun (congrArg (fun o => o.2.2) h) j

/-! ### Emptying a slot -/

theorem retireRunSlot_runAt (s : State) (i : Nat) : (s.retireRunSlot i).runAt i = none := by
  show (get1 (mod1 s.rtb.slots i _) i).bind _ = none
  rw [get1_mod1_self]
  cases get1 s.rtb.slots i <;> rfl

theorem retireRunSlot_slot (s : State) (i : Nat) : get1 (s.retireRunSlot i).rtb.slots i =
    (get1 s.rtb.slots i).map fun y => ⟨nextGen y.gen, none⟩ := get1_mod1_self ..

theorem retireRunSlot_outlineAt (h : j ≠ i) : (s.retireRunSlot i).outlineAt j = s.outlineAt j :=
  congrArg (Option.map _) (get1_mod1_ne s.rtb.slots h.symm _)

theorem retireRunSlot_reg (s : State) (i : Nat) : (s.retireRunSlot i).reg i = RegRec.clear := by
  show (get1 (mod1 s.drg.recs i _) i).getD _ = _
  rw [get1_mod1_self]
  cases get1 s.drg.recs i <;> rfl

/-! ### RETIRE_RUN (R45) -/

@[simp] theorem unlinkRun_outline (s : State) (h : Nat) (ks : List Nat) : (s.unlinkRun h ks).outline = s.outline :=
  foldl_outline _ (fun t k => modIncOf_outline t k _) ks s

/-- Unlinking a run changes the incidents alone. -/
theorem unlinkRun_onItb (s : State) (h : Nat) (ks : List Nat) : ∃ b, s.unlinkRun h ks = { s with itb := b } := by
  induction ks generalizing s with
  | nil => exact ⟨s.itb, rfl⟩
  | cons k ks ih =>
    have one : ∃ b, s.modIncOf k (fun x => { x with runs := x.runs.filter (· != h) }) = { s with itb := b } := by
      unfold State.modIncOf
      split
      · exact ⟨_, rfl⟩
      · exact ⟨s.itb, rfl⟩
    obtain ⟨b, hb⟩ := one
    obtain ⟨c, hc⟩ := ih (s.modIncOf k _)
    exact ⟨c, hc.trans (by rw [hb])⟩

/-- The state in which a retired run's slot is emptied: announcements have ended, and the incidents have lost the run. -/
theorem retire_eq (s : State) (i : Nat) (x : Run) : ∃ v : State, s.retire i x = (v.retireRunSlot i).evalHorizon ∧
    v.outline = s.outline ∧ v.drg = s.drg ∧ v.tpc = s.tpc ∧ v.rtb.counters = s.rtb.counters ∧ v.ledger.links =
      (s.ledger.links.1, Links.onThose s.ledger.links.2 x.incidents (·.filter (· != s.runHandle i))) := by
  obtain ⟨v, hv⟩ : ∃ v, v = if x.state = .planned then s.endRun i else s := ⟨_, rfl⟩
  have ended : Played s v := by
    rw [hv]
    split
    · exact (Played.refl s).endRun i
    · exact .refl s
  obtain ⟨w, hw⟩ : ∃ w, w = v.unlinkRun (s.runHandle i) x.incidents := ⟨_, rfl⟩
  obtain ⟨b, hb⟩ := unlinkRun_onItb v (s.runHandle i) x.incidents
  have left := ((Played.refl w).withdrawAll (w.announcementsOf (s.runHandle i))).quiet
  refine ⟨w.withdrawAll (w.announcementsOf (s.runHandle i)), by rw [hw, hv]; rfl, ?_, ?_, ?_, ?_, ?_⟩
  · rw [withdrawAll_outline, hw, unlinkRun_outline, hv, ite_outline, endRun_outline, ite_self]
  · exact (congrArg State.drg left :).trans ((congrArg State.drg (hw.trans hb)).trans (congrArg State.drg ended.quiet :))
  · exact (congrArg State.tpc left :).trans ((congrArg State.tpc (hw.trans hb)).trans (congrArg State.tpc ended.quiet :))
  · exact (congrArg (fun y => y.rtb.counters) left :).trans ((congrArg (fun y => y.rtb.counters) (hw.trans hb)).trans
      (congrArg (fun y => y.rtb.counters) ended.quiet :))
  · rw [withdrawAll_ledger, hw, unlinkRun_links, ledger_of_quiet ended.quiet]

/-- What the retirement of a run leaves. -/
theorem retire_leaves (s : State) (i : Nat) (x : Run) : (s.retire i x).runAt i = none ∧
    (∀ y z, get1 s.rtb.slots i = some y → get1 (s.retire i x).rtb.slots i = some z → z.gen = (y.gen + 1) % 256) ∧
    (∀ j, j ≠ i → (s.retire i x).outlineAt j = s.outlineAt j) ∧ (s.retire i x).reg i = RegRec.clear ∧
    (s.retire i x).rtb.counters = s.rtb.counters ∧ (s.retire i x).mvt = s.mvt ∧ (s.retire i x).tpc = s.tpc := by
  obtain ⟨v, hv, outline, drg, tpc, counters, -⟩ := retire_eq s i x
  obtain ⟨n, a, l, watched⟩ := evalHorizon_eq (v.retireRunSlot i)
  rw [hv, watched]
  refine ⟨retireRunSlot_runAt v i, fun y z hy hz => ?_, fun j hj => ?_, retireRunSlot_reg v i, counters,
    (congrArg Prod.fst outline :), tpc⟩
  · obtain ⟨w, hw, rfl⟩ := Option.map_eq_some_iff.1 ((retireRunSlot_slot v i).symm.trans hz)
    exact congrArg nextGen (gen_of_outlineAt (outlineAt_of_outline outline i) hy hw)
  · exact (retireRunSlot_outlineAt hj).trans (outlineAt_of_outline outline j)

/-- Where the links agree, the retired run's handle has left every incident's list, and no other. -/
theorem retire_incidents {y : Incident} (hx : s.runAt i = some x) (ha : LinksAgree s) (hy : s.incAt j = some y) :
    ∃ z, (s.retire i x).incAt j = some z ∧ z.runs = y.runs.filter (· != s.runHandle i) ∧
      (s.retire i x).incHandle j = s.incHandle j := by
  obtain ⟨v, hv, -, -, -, -, links⟩ := retire_eq s i x
  have listed : s.ledger.links.1 i = some (s.runHandle i, x.incidents) := links_run.2 ⟨x, hx, rfl, rfl⟩
  have after : (s.retire i x).ledger.links.2 = Links.onAll s.ledger.links.2 (·.filter (· != s.runHandle i)) := by
    rw [hv, evalHorizon_ledger, retireRunSlot_ledger, dropRun_links, links,
      (agree_iff.1 ha).symm.onThose_eq_onAll (distinct_runs s) listed]
  obtain ⟨z, hz, handle, runs⟩ := links_inc.1 ((congrFun after j).trans
    (onAll_eq_some.2 ⟨y.runs, links_inc.2 ⟨y, hy, rfl, rfl⟩, rfl⟩))
  exact ⟨z, hz, runs, handle⟩

theorem mayRetire_iff : s.mayRetire i x = true ↔
    x.state = .terminated ∨ x.state = .planned ∨ (x.state = .cancelled ∧ s.queueOf (s.runHandle i) = none) := by
  unfold State.mayRetire
  cases x.state <;> simp

/-- A run that may be retired is retired (R30, R45, R46). -/
theorem exec_retireRun_done (hp : Passes s .retireRun r) (hl : s.resolveRun r.principal = .live i)
    (hx : s.runAt i = some x)
    (h : x.state = .terminated ∨ x.state = .planned ∨ (x.state = .cancelled ∧ s.queueOf (s.runHandle i) = none)) :
    ∃ t, exec (.retireRun r) s = .next t ∧ Answers s t .retireRun r .ok r.principal [] ∧ Steady s t ∧
      SameBlocks t ((s.recordRequest ReqKind.retireRun.code r).retire i x) := by
  have settled : settleRetireRun r (s.recordRequest ReqKind.retireRun.code r) =
      (Reply.just .ok, (s.recordRequest ReqKind.retireRun.code r).retire i x) :=
    (withRun_live (s := s.recordRequest _ r) hl hx).trans (if_pos (mayRetire_iff.2 h))
  obtain ⟨t, ht, answers, steady, same, -⟩ := next_done hp rfl settled (retire_kept _ i x)
  exact ⟨t, ht, answers, steady, same⟩

/-! ### CLEAR_COUNTERS (R52) -/

theorem exec_clearCounters (he : BetweenEvents s) (hp : Passes s .clearCounters r) :
    exec (.clearCounters r) s = .next (if s.rtb.counters = zeroCounters then answered s .clearCounters r .noEffect 0 []
      else answered { s with rtb := { s.rtb with counters := zeroCounters } } .clearCounters r .ok 0 []) := by
  split
  · next clear => exact next_reply hp he rfl (if_pos clear)
  · next counted =>
    exact next_answered (u := { s with rtb := { s.rtb with counters := zeroCounters } }) hp he (if_neg counted) rfl

/-- Settles O32: what a retirement leaves of the slot, of the other runs and of the incidents' lists; the refusal; and
the counters. -/
theorem runRetired : Obligations.RunRetired := by
  refine fun s r he => ⟨fun i x hp hl hx => ⟨fun h => ?_, fun h => ?_⟩, exec_clearCounters he⟩
  · obtain ⟨t, ht, answers, steady, same⟩ := exec_retireRun_done hp hl hx h
    obtain ⟨gone, gen, others, reg, counters, mvt, tpc⟩ :=
      retire_leaves (s.recordRequest ReqKind.retireRun.code r) i x
    refine ⟨t, ht, answers, steady, (same.runAt i).trans gone, fun y z hy hz => ?_, fun j hj => ?_,
      (same.reg i).trans reg, ?_, same.mvt.trans mvt, same.tpc.trans tpc, fun ha j y hy => ?_, fun j y hj hy => ?_⟩
    · rw [same.rtb] at hz; exact gen y z hy hz
    · rw [same.runAt, same.runHandle]
      exact ⟨plan_of_outlineAt (others j hj), runHandle_of_outlineAt (others j hj)⟩
    · rw [same.rtb]; exact counters
    · rw [State.incAt, State.incHandle, same.itb]
      exact retire_incidents (s := s.recordRequest ReqKind.retireRun.code r) hx ha hy
    · obtain ⟨z, hz, outline⟩ := runAt_of_outlineAt (others j hj) hy
      rw [same.runAt, hz]
      exact congrArg some (congrArg Run.incidents outline :)
  · have refused : s.mayRetire i x = false := by
      rw [← Bool.not_eq_true, mayRetire_iff]
      rcases h with h | h | h | h | ⟨h, queued⟩ <;> simp [h]
      exact queued
    exact next_replyNamed hp he rfl ((withRun_live (s := s.recordRequest _ r) hl hx).trans
      (if_neg (Bool.not_eq_true _ ▸ refused)))

end Sys2Proof.Machine
end

/-! ## Placement and skip marking (R37, R38, R57, R76, R138) -/

section
namespace Sys2Proof.Machine
variable {s t u : State} {i j : Nat} {x y : Run}

/-! ### What announcements leave of a run -/

/-- A run without the handle of its delay announcement (R97). -/
def Run.quiet (x : Run) : Run := { x with autoDelay := none }

theorem quiet_runAt (s : State) (i : Nat) : s.quiet.runAt i = (s.runAt i).map Run.quiet := by
  show (get1 (s.rtb.slots.map RunSlot.quiet) i).bind _ = _
  rw [get1_map]
  unfold State.runAt
  cases get1 s.rtb.slots i <;> rfl

theorem runAt_map_quiet (h : t.quiet = s.quiet) (i : Nat) :
    (t.runAt i).map Run.quiet = (s.runAt i).map Run.quiet := by rw [← quiet_runAt, h, quiet_runAt]

/-- The run of a slot whose quiet part stays. -/
theorem runAt_of_quiet (h : t.quiet = s.quiet) (hx : s.runAt i = some x) :
    ∃ y, t.runAt i = some y ∧ y.quiet = x.quiet := by
  have hq := runAt_map_quiet h i
  rw [hx] at hq
  exact Option.map_eq_some_iff.1 hq

theorem plan_of_quiet (h : t.quiet = s.quiet) (j : Nat) :
    (t.runAt j).map Run.plan = (s.runAt j).map Run.plan := by
  have plan (u : State) : (u.runAt j).map Run.plan = ((u.runAt j).map Run.quiet).map Run.plan := by
    rw [Option.map_map]; rfl
  rw [plan, plan, runAt_map_quiet h]

section
variable (h : t.quiet = s.quiet)
include h

theorem mvt_of_quiet : t.mvt = s.mvt := (congrArg State.mvt h :)
theorem drg_of_quiet : t.drg = s.drg := (congrArg State.drg h :)
theorem tpc_of_quiet : t.tpc = s.tpc := (congrArg State.tpc h :)

end

theorem modRun_autoDelay_quiet (s : State) (i : Nat) (a : Option Nat) :
    (s.modRun i fun x => { x with autoDelay := a }).quiet = s.quiet := by
  have slots := map_mod1 s.rtb.slots i (f := fun x => { x with run := x.run.map fun r => { r with autoDelay := a } })
    (g := RunSlot.quiet) fun x => by cases hx : x.run <;> simp [RunSlot.quiet, hx]
  simp only [State.modRun, State.onRtb, State.quiet, slots]

/-! ### The delay announcement (R97, R98) -/

theorem createAnn_quiet (s : State) (a : AnnSpec) (o : Owner) (inc run : Option Nat) :
    (s.createAnn a o inc run).1.quiet = s.quiet := by
  unfold State.createAnn
  split
  · rfl
  · dsimp only
    split
    · rfl
    · exact ((Played.refl _).enqueue _ _ _).quiet

theorem postDelay_quiet (s : State) (i : Nat) (r : Run) : (s.postDelay i r).quiet = s.quiet := by
  have created := createAnn_quiet s (s.delaySpec (s.runHandle i)) .engine none (some (s.runHandle i))
  simp only [State.postDelay]
  split
  · rfl
  · split
    · next t a h =>
      rw [h] at created
      have marked := ((Played.refl (t.modRun i fun x => { x with autoDelay := some a })).markRun i r).quiet
      refine Eq.trans ?_ (marked.trans ((modRun_autoDelay_quiet t i _).trans created))
      unfold State.startAnn
      split
      · split
        · exact ((Played.refl _).serveChannel _).quiet
        · rfl
      · rfl
    · next t h => rw [h] at created; exact created

theorem compareDelay_quiet (s : State) (i : Nat) (late : Int) : (s.compareDelay i late).quiet = s.quiet := by
  unfold State.compareDelay
  split
  · rfl
  · split
    · split
      · exact postDelay_quiet s i _
      · rfl
    · split
      · exact ((Played.refl s).withdrawServing [] _).quiet
      · rfl

/-- Applying a release writes it to the run and to its timer; the rest is announcements. -/
theorem applyRelease_quiet (s : State) (i : Nat) (r : Run) (n : Nat) : (s.applyRelease i r n).quiet =
    ((s.modRun i fun x => x.withRelease n).modReg i fun x => { x with releaseTimer := some n }).quiet :=
  compareDelay_quiet ..

/-! ### Stops changed -/

theorem stopAt_modStop_self (x : Run) {k : Nat} (hk : k ≠ 0) (f : Stop → Stop) :
    (x.modStop k f).stopAt k = (x.stopAt k).map f := by
  simp [Run.modStop, Run.stopAt, hk]

theorem modStop_eq (x : Run) (k : Nat) (f : Stop → Stop) : x.modStop k f =
    { x with stops := if k = 0 then x.stops else x.stops.modify (k - 1) f } := by
  unfold Run.modStop
  split <;> rfl

theorem modStop_count (x : Run) (k : Nat) (f : Stop → Stop) : (x.modStop k f).count = x.count := by
  rw [modStop_eq]
  unfold Run.count
  split <;> simp

/-- A run that stands at its stop `k` with an arrival. -/
theorem arriveAt_eq (x : Run) (k now : Nat) : x.arriveAt k now =
    { x with
      stops := if k = 0 then x.stops else x.stops.modify (k - 1) fun st => { st with actArr := some now }
      state := .dwelling
      cur := k } := by
  unfold Run.arriveAt
  rw [modStop_eq]

/-! ### Placement (R37, R38, R57, R76) -/

/-- The run of a slot once it has been placed, before its release is computed. -/
def Run.placed (x : Run) (now : Nat) : Run := x.leavePlanned.arriveAt 1 now

/-- The state in which a placed run's release is computed. -/
def State.placed (s : State) (i : Nat) (x : Run) : State :=
  (s.modRun i fun y => y.placed s.now).occupy (x.tpAt 1) (s.runHandle i)

theorem placed_runAt (hx : s.runAt i = some x) (z : Run) : (s.placed i z).runAt i = some (x.placed s.now) := by
  show (s.modRun i fun y => y.placed s.now).runAt i = _
  rw [modRun_runAt, if_pos rfl, hx]
  rfl

theorem placed_runAt_ne (hj : j ≠ i) (z : Run) : (s.placed i z).runAt j = s.runAt j := by
  show (s.modRun i fun y => y.placed s.now).runAt j = _
  rw [modRun_runAt, if_neg hj.symm]

theorem placeRun_eq (hx : s.runAt i = some x) : s.placeRun i = ((s.placed i x).computeRelease i).evalHorizon := by
  simp only [State.placeRun, hx]
  rfl

/-- A computation for a run that waits for a release writes it; for another run it does nothing. -/
theorem computeRelease_cases (hx : s.runAt i = some x) :
    (x.computable = true ∧ ∃ n, (s.computeRelease i).quiet =
      ((s.modRun i fun y => y.withRelease n).modReg i fun y => { y with releaseTimer := some n }).quiet) ∨
    (x.computable = false ∧ s.computeRelease i = s) := by
  simp only [State.computeRelease, hx]
  cases hc : x.computable with
  | true => exact .inl ⟨rfl, _, applyRelease_quiet ..⟩
  | false => exact .inr ⟨rfl, rfl⟩

theorem modReg_reg_self (low : 1 ≤ i) (high : i ≤ 128) (f : RegRec → RegRec) : (s.modReg i f).reg i = f (s.reg i) := by
  obtain ⟨z, hz⟩ := get1_isSome s.drg.recs low high
  show (get1 (mod1 s.drg.recs i f) i).getD _ = f ((get1 s.drg.recs i).getD _)
  rw [get1_mod1_self, hz]
  rfl

theorem modReg_reg_ne (h : j ≠ i) (f : RegRec → RegRec) : (s.modReg i f).reg j = s.reg j := by
  show (get1 (mod1 s.drg.recs i f) j).getD _ = _
  rw [get1_mod1_ne _ h.symm]
  rfl

/-- What a computation leaves: the run but for its release and lateness, and everything else but the run's timer. -/
theorem computeRelease_leaves (hx : s.runAt i = some x) : ∃ y, (s.computeRelease i).runAt i = some y ∧
    y.plan = x.plan ∧ y.state = x.state ∧ y.cur = x.cur ∧ y.placeTimer = x.placeTimer ∧
    y.placeWaiting = x.placeWaiting ∧
    (x.computable = true → ∃ st, y.stopAt x.cur = some st ∧
      st.release = ((s.computeRelease i).reg i).releaseTimer ∧ st.release ≠ none) ∧
    (∀ j, j ≠ i → ((s.computeRelease i).runAt j).map Run.plan = (s.runAt j).map Run.plan) ∧
    (s.computeRelease i).mvt = s.mvt ∧ (s.computeRelease i).tpc = s.tpc := by
  obtain ⟨low, high⟩ := runAt_range hx
  obtain ⟨hc, n, quiet⟩ | ⟨hc, same⟩ := computeRelease_cases hx
  · have written : ((s.modRun i fun y => y.withRelease n).modReg i fun y => { y with releaseTimer := some n }).runAt i =
        some (x.withRelease n) := by
      show (s.modRun i _).runAt i = _
      rw [modRun_runAt, if_pos rfl, hx]
      rfl
    obtain ⟨y, hy, still⟩ := runAt_of_quiet quiet written
    have stops : y.stops = (x.withRelease n).stops := (congrArg Run.stops still :)
    obtain ⟨st, hst, release⟩ := withRelease_stop hc n
    refine ⟨y, hy, (congrArg Run.plan still :).trans (withRelease_plan x n), ?_, ?_, ?_, ?_,
      fun _ => ⟨st, ?_, ?_, by simp [release]⟩, fun j hj => ?_,
      (mvt_of_quiet quiet).trans rfl, (tpc_of_quiet quiet).trans rfl⟩
    · exact (congrArg Run.state still :).trans (withRelease_state x n)
    · exact (congrArg Run.cur still :).trans (withRelease_cur x n)
    · exact (congrArg Run.placeTimer still :).trans (by rw [withRelease_eq]; rfl)
    · exact (congrArg Run.placeWaiting still :).trans (by rw [withRelease_eq]; rfl)
    · rw [Run.stopAt, stops]; exact hst
    · rw [release, State.reg, drg_of_quiet quiet]
      exact (congrArg RegRec.releaseTimer (modReg_reg_self (s := s) low high fun y =>
        { y with releaseTimer := some n })).symm
    · rw [plan_of_quiet quiet]
      show ((s.modRun i _).runAt j).map _ = _
      rw [modRun_runAt, if_neg hj.symm]
  · rw [same]
    exact ⟨x, hx, rfl, rfl, rfl, rfl, rfl, fun h => by simp [hc] at h, fun _ _ => rfl, rfl, rfl⟩

/-- What a placement leaves (R38). -/
theorem placeRun_leaves (hx : s.runAt i = some x) (first : x.stopAt 1 ≠ none) : ∃ y st,
    (s.placeRun i).runAt i = some y ∧ y.state = .dwelling ∧ y.cur = 1 ∧ y.placeTimer = none ∧
    y.placeWaiting = false ∧ y.stopAt 1 = some st ∧ st.actArr = some s.lck.clock ∧ y.count = x.count ∧
    (s.placeRun i).mvt = { s.mvt with
      points := mod1 s.mvt.points (x.tpAt 1) fun p => { p with occupant := some (s.runHandle i) } } ∧
    (st.halts = true → 1 < x.count →
      st.release = ((s.placeRun i).reg i).releaseTimer ∧ st.release ≠ none) ∧
    (∀ j, j ≠ i → ((s.placeRun i).runAt j).map Run.plan = (s.runAt j).map Run.plan) ∧
    (s.placeRun i).tpc = s.tpc := by
  obtain ⟨y, hy, plan, state, cur, timer, waiting, release, others, mvt, tpc⟩ :=
    computeRelease_leaves (placed_runAt hx x)
  obtain ⟨old, hold⟩ := Option.ne_none_iff_exists'.1 first
  have there : (x.placed s.now).stopAt 1 = some { old with actArr := some s.now } := by
    have := stopAt_modStop_self x.leavePlanned (k := 1) (by simp) fun st => { st with actArr := some s.now }
    exact this.trans (congrArg (Option.map _) hold)
  have count : (x.placed s.now).count = x.count := modStop_count x.leavePlanned 1 _
  have length : y.count = (x.placed s.now).count := by simpa [Run.plan, Run.count] using congrArg List.length plan
  have read {α : Type} (f : Stop → α) (hf : ∀ st, f st.plan = f st) :
      (y.stopAt 1).map f = some (f { old with actArr := some s.now }) := by
    rw [stopAt_plan plan 1 f hf, there]
    rfl
  obtain ⟨st, hst, arrival⟩ := Option.map_eq_some_iff.1 (read (·.actArr) fun _ => rfl)
  have halting : st.halts = Stop.halts { old with actArr := some s.now } := by
    have := read Stop.halts fun _ => rfl
    rw [hst] at this
    exact Option.some.inj this
  obtain ⟨n, a, l, watched⟩ := evalHorizon_eq ((s.placed i x).computeRelease i)
  rw [placeRun_eq hx, watched]
  refine ⟨y, st, hy, state, cur, timer, waiting, hst, arrival, length.trans count, mvt, fun halts inner => ?_,
    fun j hj => ?_, tpc⟩
  · have computable : (x.placed s.now).computable = true := by
      have here : (x.placed s.now).curStop = some { old with actArr := some s.now } := there
      rw [Run.computable, here, count]
      simp only [Option.any_some, ← halting, halts, Bool.true_and, decide_eq_true_eq]
      exact inner
    obtain ⟨st', hst', released⟩ := release computable
    obtain rfl : st = st' := Option.some.inj (hst.symm.trans hst')
    exact released
  · exact (others j hj).trans (congrArg (Option.map _) (placed_runAt_ne hj x))

/-- The end of a timer's event is steady, and of the port it leaves all but the pending notices. -/
theorem steadyTimer_of_kept (h : u.kept = s.kept) : SteadyTimer s u.finish := by
  obtain ⟨n, hn⟩ := crp_of_kept h
  exact ⟨Steady.finish (steady_of_kept h), n, by rw [finish_crp, hn]⟩

theorem exec_placementTimerExpiry (hx : s.runAt i = some x) (planned : x.state = .planned)
    (due : s.reached x.placeTimer = true) :
    exec (.placementTimerExpiry i) s = .next (s.placementExpiry i x).finish := by
  show Host.Outcome.next _ = _
  rw [hx]
  exact congrArg _ (if_pos ⟨planned, due⟩)

/-! ### Skip marking (R138) -/

/-- Dropping holders changes only HELD runs, in their causes, and the arbiters. -/
theorem modRun_runAt_held {f : Run → Run} (hx : s.runAt i = some x) (hn : x.state ≠ .held)
    (hj : ∀ y, s.runAt j = some y → y.state = .held) : (s.modRun j f).runAt i = some x := by
  rw [modRun_runAt, if_neg, hx]
  rintro rfl
  exact hn (hj x hx)

theorem chooseHolder_runAt (hx : s.runAt i = some x) (hn : x.state ≠ .held) (m : Nat) :
    (s.chooseHolder m).runAt i = some x := by
  unfold State.chooseHolder
  split
  · split
    · next w hw =>
      have chosen : w ∈ s.contenders m := mem_sortBy.1 (List.mem_of_mem_head? hw)
      obtain ⟨y, hy, held⟩ := mem_runSlots.1 chosen
      have held : y.state = .held := by simp at held; exact held.1.1
      unfold State.nameHolder
      dsimp only
      split
      · refine modRun_runAt_held (s := s.modArbiter m _) hx hn fun z hz => ?_
        obtain rfl : y = z := Option.some.inj (hy.symm.trans hz)
        exact held
      · exact hx
    · exact hx
  · exact hx

@[simp] theorem chooseHolder_tpc (s : State) (m : Nat) : (s.chooseHolder m).tpc = s.tpc := by
  unfold State.chooseHolder State.nameHolder
  (repeat' split) <;> rfl

theorem loseHolderAt_runAt (hx : s.runAt i = some x) (hn : x.state ≠ .held) (h m : Nat) :
    (s.loseHolderAt h m).runAt i = some x := by
  unfold State.loseHolderAt
  split
  · exact chooseHolder_runAt (s := s.modArbiter m _) hx hn m
  · exact hx

/-- Dropping the holders whose spans have lost their merges leaves the outline, the power and every run not HELD. -/
theorem dropSpanlessHolders_leaves (l : List Nat) (s : State) : (l.foldl State.dropSpanlessHolder s).outline = s.outline ∧
    (l.foldl State.dropSpanlessHolder s).tpc = s.tpc ∧
    ∀ i x, s.runAt i = some x → x.state ≠ .held → (l.foldl State.dropSpanlessHolder s).runAt i = some x := by
  induction l generalizing s with
  | nil => exact ⟨rfl, rfl, fun _ _ hx _ => hx⟩
  | cons m l ih =>
    obtain ⟨outline, tpc, runs⟩ := ih (s.dropSpanlessHolder m)
    have step : (s.dropSpanlessHolder m).outline = s.outline ∧ (s.dropSpanlessHolder m).tpc = s.tpc ∧
        ∀ i x, s.runAt i = some x → x.state ≠ .held → (s.dropSpanlessHolder m).runAt i = some x := by
      unfold State.dropSpanlessHolder
      split
      · split
        · exact ⟨rfl, rfl, fun _ _ hx _ => hx⟩
        · refine ⟨?_, ?_, fun i x hx hn => loseHolderAt_runAt hx hn _ m⟩
          · unfold State.loseHolderAt; split <;> simp
          · unfold State.loseHolderAt; split <;> simp
      · exact ⟨rfl, rfl, fun _ _ hx _ => hx⟩
    obtain ⟨outline', tpc', runs'⟩ := step
    exact ⟨outline.trans outline', tpc.trans tpc', fun i x hx hn => runs i x (runs' i x hx hn) hn⟩

/-- Marking a PLANNED run writes its marks; no other run's stops change, nor the track or the power. -/
theorem remark_planned (hx : s.runAt i = some x) (planned : x.state = .planned) (cov : Nat → Bool) :
    (s.remark (Run.mark cov) [i]).runAt i = some (x.mark cov) ∧
    (∀ j, j ≠ i → ((s.remark (Run.mark cov) [i]).runAt j).map (·.stops) = (s.runAt j).map (·.stops)) ∧
    (s.remark (Run.mark cov) [i]).mvt = s.mvt ∧ (s.remark (Run.mark cov) [i]).tpc = s.tpc := by
  obtain ⟨v, changed, hv, run, others, mvt, tpc⟩ : ∃ (v : State) (changed : List Nat),
      s.remark (Run.mark cov) [i] = v.spansChanged changed ∧ v.runAt i = some (x.mark cov) ∧
      (∀ j, j ≠ i → v.runAt j = s.runAt j) ∧ v.mvt = s.mvt ∧ v.tpc = s.tpc ∧ ∀ j ∈ changed, j = i := by
    by_cases hc : (x.mark cov).stops = x.stops
    · have same : x.mark cov = x := congrArg (fun l => { x with stops := l }) hc
      refine ⟨s, [], ?_, by rw [same, hx], fun _ _ => rfl, rfl, rfl, by simp⟩
      simp [State.remark, hx, hc]
    · refine ⟨s.modRun i (Run.mark cov), [i], ?_, ?_, fun j hj => ?_, rfl, rfl, by simp⟩
      · simp [State.remark, hx, hc]
      · rw [modRun_runAt, if_pos rfl, hx]; rfl
      · rw [modRun_runAt, if_neg hj.symm]
  obtain ⟨tpc, only⟩ := tpc
  have idle : changed.filter (fun j => (v.runAt j).any fun r => r.state == .held) = [] := by
    refine List.filter_eq_nil_iff.2 fun j hj => ?_
    rw [only j hj, run]
    simp [Run.mark, planned]
  have spans : v.spansChanged changed = (ids 2).foldl State.dropSpanlessHolder v := by
    rw [State.spansChanged, idle]; rfl
  obtain ⟨outline, tpc', runs⟩ := dropSpanlessHolders_leaves (ids 2) v
  rw [hv, spans]
  refine ⟨runs i _ run (by simp [Run.mark, planned]), fun j hj => ?_, (congrArg Prod.fst outline :).trans mvt,
    tpc'.trans tpc⟩
  have stops (u : State) : (u.runAt j).map (·.stops) = ((u.runAt j).map Run.outline).map (·.stops) := by
    rw [Option.map_map]; rfl
  rw [← others j hj, stops, stops, runAt_outline, runAt_outline, outlineAt_of_outline outline j]

/-- The marks of a run, stop by stop. -/
theorem mark_stops (cov : Nat → Bool) (x : Run) (k : Nat) (st : Stop) : (x.mark cov).stops[k]? = some st ↔
    ∃ st', x.stops[k]? = some st' ∧ st =
      if st'.kind = .stop ∧ st'.actArr = none ∧ 0 < k ∧ k + 1 < x.count ∧ cov st'.tp = true
      then { st' with skipped := true } else st' := by
  have marks (st' : Stop) (h : x.stops[k]? = some st') : (x.markable (k + 1) && cov st'.tp) = true ↔
      st'.kind = .stop ∧ st'.actArr = none ∧ 0 < k ∧ k + 1 < x.count ∧ cov st'.tp = true := by
    simp only [Run.markable, Run.stopAt, Nat.add_one_ne_zero, if_false, Nat.add_sub_cancel, h, Option.any_some,
      Bool.and_eq_true, decide_eq_true_eq, beq_iff_eq, Option.isNone_iff_eq_none, Nat.lt_add_left_iff_pos]
    tauto
  simp only [Run.mark, List.getElem?_map, List.getElem?_zipIdx, Option.map_map, Option.map_eq_some_iff,
    Function.comp_apply, Nat.zero_add]
  refine exists_congr fun st' => and_congr_right fun h => ?_
  simp only [marks st' h]
  exact eq_comm

theorem serveLeft_of_tpc (h : t.tpc = s.tpc) : t.serveLeft s = t :=
  serveLeft_of_waiting fun k => by simp only [State.waiting, State.sub, h]

/-- Settles O33: the placement at a free platform and its deferral at an occupied one; the marks of a loaded run. -/
theorem runPlacedAndMarked : Obligations.RunPlacedAndMarked := by
  refine ⟨fun s i x he hx planned due first => ⟨fun free => ?_, fun taken => ?_⟩, fun s i x he hx planned => ?_⟩
  · obtain ⟨y, st, hy, state, cur, timer, waiting, hst, arrival, count, mvt, release, others, tpc⟩ :=
      placeRun_leaves hx first
    have same := sameBlocks_finish (s.placeRun i)
    have placed : exec (.placementTimerExpiry i) s = .next (s.placeRun i).finish := by
      rw [exec_placementTimerExpiry hx planned due, State.placementExpiry, if_pos (by simp [free])]
    refine ⟨_, y, st, placed, steadyTimer_of_kept (placeRun_kept s i), (same.runAt i).trans hy, state, cur, timer,
      waiting, hst, arrival, count, same.mvt.trans mvt, fun halts inner => ?_, fun j hj => ?_, same.tpc.trans tpc⟩
    · rw [same.reg]; exact release halts inner
    · rw [same.runAt]; exact others j hj
  · rw [exec_placementTimerExpiry hx planned due, State.placementExpiry,
      if_neg (by simpa [Option.isNone_iff_eq_none] using taken), finish_clean (s.modRun i _) he]
    rfl
  · obtain ⟨run, others, mvt, tpc⟩ := remark_planned hx planned s.covered
    have same := sameBlocks_finish (s.remark (Run.mark s.covered) [i])
    have marked : exec (.skipMarkingOnLoad i) s = .next (s.remark (Run.mark s.covered) [i]).finish := by
      show Host.Outcome.next _ = _
      rw [hx]
      exact congrArg (fun u : State => Host.Outcome.next u.finish) (serveLeft_of_tpc tpc)
    refine ⟨_, (x.mark s.covered).stops, marked, steadyTimer_of_kept (remark_kept ..), (same.runAt i).trans run,
      by simp [Run.mark], mark_stops s.covered x, fun j hj => ?_, same.mvt.trans mvt, same.tpc.trans tpc⟩
    rw [same.runAt]
    exact others j hj

end Sys2Proof.Machine
end

/-! ## Work on other runs leaves a run alone (R76 to R112) -/

section
namespace Sys2Proof.Machine

/-! ### The relation -/

/-- A handle stands in no wait queue. -/
def State.unqueued (s : State) (h : Nat) : Prop := ∀ k z, s.sub k = some z → ∀ e ∈ z.queue, e.run ≠ h

/-- A run slot's generation and its run's number. -/
def RunSlot.name (z : RunSlot) : Nat × Option Nat := (z.gen, z.run.map (·.number))

/-- Work on other runs leads from `s` to `t`. The run in slot `i` is as it was but for its delay announcement, with its
regulation record and its claim. Its handle joins no wait queue, no merge's order list and no platform. The slots keep
their handles and run numbers, the segments their queues and the routes their counters; RELEASE orders join the stream.
Where no run waits for credits, none is released. -/
structure Apart (i : Nat) (s t : State) : Prop where
  kept : t.kept = s.kept
  names : t.rtb.slots.map RunSlot.name = s.rtb.slots.map RunSlot.name
  run : (t.runAt i).map Run.quiet = (s.runAt i).map Run.quiet
  reg : t.reg i = s.reg i
  claim : t.claim i = s.claim i
  waits : s.unqueued (s.runHandle i) → t.unqueued (s.runHandle i)
  merges : ∀ m, s.runHandle i ∉ s.mergeList m → s.runHandle i ∉ t.mergeList m
  points : ∀ p, (t.tp p).ld = (s.tp p).ld ∧ (t.tp p).lastDeparted = (s.tp p).lastDeparted ∧
    ((s.tp p).occupant ≠ some (s.runHandle i) → (t.tp p).occupant ≠ some (s.runHandle i))
  segs : t.mvt.segs = s.mvt.segs
  counters : t.rtb.counters = s.rtb.counters
  orders : ∃ l, t.fli.releaseQ = s.fli.releaseQ ++ l
  idle : NobodyWaits s →
    NobodyWaits t ∧ t.drg.releasedCount = s.drg.releasedCount ∧ t.drg.mode = s.drg.mode

variable {s t u : State} {i j : Nat} {x y : Run}

theorem Apart.refl (i : Nat) (s : State) : Apart i s s where
  kept := rfl
  names := rfl
  run := rfl
  reg := rfl
  claim := rfl
  waits h := h
  merges _ h := h
  points _ := ⟨rfl, rfl, id⟩
  segs := rfl
  counters := rfl
  orders := ⟨[], by simp⟩
  idle h := ⟨h, rfl, rfl⟩

/-! ### What it says of the slots -/

theorem runHandle_of_names (h : t.rtb.slots.map RunSlot.name = s.rtb.slots.map RunSlot.name) (j : Nat) :
    t.runHandle j = s.runHandle j := by
  have read (u : State) :
      u.runHandle j = mkHandle ((get1 (u.rtb.slots.map RunSlot.name) j).elim 0 (·.1)) j := by
    rw [get1_map]
    unfold State.runHandle
    cases get1 u.rtb.slots j <;> rfl
  rw [read, read, h]

/-- The run with a number is found in the same slot. -/
theorem runNumbered_of_names (h : t.rtb.slots.map RunSlot.name = s.rtb.slots.map RunSlot.name) (n : Nat) :
    (t.runNumbered n).map (·.1) = (s.runNumbered n).map (·.1) := by
  have numbered (u : State) : u.liveRuns.map (fun p => (p.1, p.2.number)) =
      (u.rtb.slots.map RunSlot.name).toList.zipIdx.filterMap fun p => p.1.2.map fun m => (p.2 + 1, m) := by
    rw [State.liveRuns, List.map_filterMap, Vector.toList_map, List.zipIdx_map, List.filterMap_map]
    refine List.filterMap_congr fun p _ => ?_
    rcases p with ⟨⟨g, _ | r⟩, k⟩ <;> rfl
  have found (u : State) : (u.runNumbered n).map (·.1) =
      ((u.liveRuns.map fun p => (p.1, p.2.number)).find? fun q => q.2 == n).map (·.1) := by
    rw [List.find?_map, Option.map_map]
    rfl
  rw [found, found, numbered, numbered, h]

theorem Apart.runHandle (h : Apart i s t) (j : Nat) : t.runHandle j = s.runHandle j := runHandle_of_names h.names j

theorem Apart.runAt (h : Apart i s t) (hx : s.runAt i = some x) : ∃ y, t.runAt i = some y ∧ y.quiet = x.quiet := by
  have hq := h.run
  rw [hx] at hq
  exact Option.map_eq_some_iff.1 hq

theorem state_of_quiet (h : y.quiet = x.quiet) : y.state = x.state := (congrArg Run.state h :)

/-- A run that stands at no stop and is not PLANNED: the work on other runs does not take it up. -/
def State.aside (s : State) (i : Nat) : Prop :=
  ∃ x, s.runAt i = some x ∧ x.state ≠ .planned ∧ x.state ≠ .dwelling ∧ x.state ≠ .held

theorem Apart.aside (h : Apart i s t) (hs : s.aside i) : t.aside i := by
  obtain ⟨x, hx, notPlanned, notDwelling, notHeld⟩ := hs
  obtain ⟨y, hy, quiet⟩ := h.runAt hx
  have state := state_of_quiet quiet
  exact ⟨y, hy, state ▸ notPlanned, state ▸ notDwelling, state ▸ notHeld⟩

/-- A run that is taken up is another one. -/
theorem State.aside.ne (hs : s.aside i) (hx : s.runAt j = some x)
    (h : x.state = .planned ∨ x.state = .dwelling ∨ x.state = .held) : j ≠ i := by
  rintro rfl
  obtain ⟨y, hy, notPlanned, notDwelling, notHeld⟩ := hs
  obtain rfl : x = y := Option.some.inj (hx.symm.trans hy)
  rcases h with h | h | h
  · exact notPlanned h
  · exact notDwelling h
  · exact notHeld h

/-! ### The named updates -/

/-- Announcements, notices and marks of boards. -/
theorem Apart.quiet (h : Apart i s t) (hq : u.quiet = t.quiet) : Apart i s u := by
  have slot (v : State) : v.rtb.slots.map RunSlot.name = v.quiet.rtb.slots.map RunSlot.name := by
    show _ = (v.rtb.slots.map RunSlot.quiet).map RunSlot.name
    rw [Vector.map_map]
    refine congrArg (fun f => v.rtb.slots.map f) (funext fun z => ?_)
    rcases z with ⟨g, _ | r⟩ <;> rfl
  have tpc := tpc_of_quiet hq
  have mvt := mvt_of_quiet hq
  have drg := drg_of_quiet hq
  have same : u.sub = t.sub := funext fun k => by rw [State.sub, tpc]; rfl
  refine ⟨(congrArg State.kept hq :).trans h.kept, (by rw [slot u, hq, ← slot t]; exact h.names),
    (runAt_map_quiet hq i).trans h.run, (by rw [State.reg, drg]; exact h.reg),
    (by rw [State.claim, tpc]; exact h.claim), (by unfold State.unqueued; rw [same]; exact h.waits),
    (by simp only [State.mergeList, mvt]; exact h.merges), (by simp only [State.tp, mvt]; exact h.points),
    (by rw [mvt]; exact h.segs), (congrArg (fun v => v.rtb.counters) hq :).trans h.counters, ?_,
    (by unfold NobodyWaits; rw [same, drg]; exact h.idle)⟩
  obtain ⟨l, hl⟩ := h.orders
  exact ⟨l, (congrArg (fun v => v.fli.releaseQ) hq :).trans hl⟩

theorem Apart.markBoard (h : Apart i s t) (p : Nat) : Apart i s (t.markBoard p) :=
  h.quiet ((Played.refl t).markBoard p).quiet

theorem Apart.markAllBoards (h : Apart i s t) : Apart i s t.markAllBoards :=
  Apart.quiet (u := t.markAllBoards) h rfl

theorem Apart.modRun (h : Apart i s t) (hj : j ≠ i) {f : Run → Run} (hf : ∀ x, (f x).number = x.number) :
    Apart i s (t.modRun j f) :=
  { h with
    names := (map_mod1 t.rtb.slots j fun z => by rcases z with ⟨g, _ | r⟩ <;> simp [RunSlot.name, hf]).trans h.names
    run := by rw [modRun_runAt, if_neg hj]; exact h.run }

theorem Apart.modReg (h : Apart i s t) (hj : j ≠ i) (f : RegRec → RegRec) : Apart i s (t.modReg j f) :=
  { h with reg := (modReg_reg_ne hj.symm f).trans h.reg }

theorem Apart.modArbiter (h : Apart i s t) (m : Nat) (f : Arbiter → Arbiter) : Apart i s (t.modArbiter m f) := { h with }

theorem Apart.putClaim (h : Apart i s t) (hj : j ≠ i) (c : Option Claim) : Apart i s (t.putClaim j c) :=
  { h with claim := (look_put_ne t.tpc.claims hj c).trans h.claim }

/-- A substation's record changes, and its wait queue gains nothing. -/
theorem Apart.modSub (h : Apart i s t) (k : Nat) {f : SubLive → SubLive} (hf : ∀ z, (f z).queue ⊆ z.queue) :
    Apart i s (t.modSub k f) := by
  have old {l : Nat} {w : SubLive} (hw : (t.modSub k f).sub l = some w) :
      ∃ z, t.sub l = some z ∧ w.queue ⊆ z.queue := by
    have hw : look (modLook t.tpc.subs k f) l = some w := hw
    rw [look_modLook] at hw
    split at hw
    · obtain ⟨z, hz, rfl⟩ := Option.map_eq_some_iff.1 hw
      exact ⟨z, hz, hf z⟩
    · exact ⟨w, hw, List.Subset.refl _⟩
  refine { h with waits := fun hs l w hw e he => ?_, idle := fun hs => ?_ }
  · obtain ⟨z, hz, sub⟩ := old hw
    exact h.waits hs l z hz e (sub he)
  · obtain ⟨none, count, mode⟩ := h.idle hs
    refine ⟨fun l w hw => ?_, count, mode⟩
    obtain ⟨z, hz, sub⟩ := old hw
    rw [none l z hz] at sub
    exact List.subset_nil.1 sub

theorem modMergeList_mergeList (s : State) (m n : Nat) (f : List Nat → List Nat) : (s.modMergeList m f).mergeList n =
    if m = n then ((get1 s.mvt.mergeLists n).map f).getD [] else s.mergeList n := by
  show (get1 (mod1 s.mvt.mergeLists m f) n).getD _ = _
  rw [get1_mod1]
  split <;> rfl

theorem Apart.modMergeList (h : Apart i s t) (m : Nat) {f : List Nat → List Nat}
    (hf : ∀ l, s.runHandle i ∉ l → s.runHandle i ∉ f l) : Apart i s (t.modMergeList m f) := by
  refine { h with merges := fun n hn => ?_ }
  have before := h.merges n hn
  rw [modMergeList_mergeList]
  split
  · unfold State.mergeList at before
    cases hg : get1 t.mvt.mergeLists n with
    | none => simp
    | some l => rw [hg] at before; exact hf l before
  · exact before

theorem modTp_tp (s : State) (p q : Nat) (f : TpLive → TpLive) : (s.modTp p f).tp q =
    if p = q then ((get1 s.mvt.points q).map f).getD TpLive.empty else s.tp q := by
  show (get1 (mod1 s.mvt.points p f) q).getD _ = _
  rw [get1_mod1]
  split <;> rfl

theorem Apart.modTp (h : Apart i s t) (p : Nat) {f : TpLive → TpLive} (hf : ∀ z, (f z).ld = z.ld ∧
    (f z).lastDeparted = z.lastDeparted ∧
    (z.occupant ≠ some (s.runHandle i) → (f z).occupant ≠ some (s.runHandle i))) : Apart i s (t.modTp p f) := by
  refine { h with points := fun q => ?_ }
  obtain ⟨ld, last, occupant⟩ := h.points q
  rw [modTp_tp]
  split
  · unfold State.tp at ld last occupant
    cases hg : get1 t.mvt.points q with
    | none => rw [hg] at ld last occupant; exact ⟨ld, last, occupant⟩
    | some z =>
      rw [hg] at ld last occupant
      obtain ⟨ld', last', occupant'⟩ := hf z
      exact ⟨ld'.trans ld, last'.trans last, fun ho => occupant' (occupant ho)⟩
  · exact ⟨ld, last, occupant⟩

theorem Apart.order (h : Apart i s t) (o : Order) : Apart i s (t.order o) := by
  obtain ⟨l, hl⟩ := h.orders
  refine { h with kept := (order_kept t o).trans h.kept, orders := ?_ }
  cases o with
  | release a b c => exact ⟨l ++ [.release a b c], by rw [← List.append_assoc, ← hl]; rfl⟩
  | revoke a b c => exact ⟨l ++ [.revoke a b c], by rw [← List.append_assoc, ← hl]; rfl⟩
  | _ => exact ⟨l, hl⟩

theorem Apart.postWhere (h : Apart i s t) (n : Notice) (p : Client → Bool) : Apart i s (t.postWhere n p) := by
  obtain ⟨l, hl⟩ := postWhere_onCrp t n p
  exact h.quiet (by rw [hl]; rfl)

theorem Apart.evalHorizon (h : Apart i s t) : Apart i s t.evalHorizon := by
  have kept := (evalHorizon_kept t).trans h.kept
  obtain ⟨n, a, l, hn⟩ := evalHorizon_eq t
  rw [hn] at kept ⊢
  exact { h with kept := kept }

theorem Apart.foldl {α : Type} {f : State → α → State} (hf : ∀ {u}, Apart i s u → ∀ a, Apart i s (f u a))
    (h : Apart i s t) (l : List α) : Apart i s (l.foldl f t) := by
  induction l generalizing t with
  | nil => exact h
  | cons a l ih => exact ih (hf h a)

/-! ### Announcements and releases computed for other runs -/

theorem Apart.endRun (h : Apart i s t) (j : Nat) : Apart i s (t.endRun j) :=
  h.quiet ((Played.refl t).endRun j).quiet

theorem withRelease_number (x : Run) (n : Nat) : (x.withRelease n).number = x.number := by rw [withRelease_eq]

theorem Apart.applyRelease (h : Apart i s t) (hj : j ≠ i) (r : Run) (n : Nat) : Apart i s (t.applyRelease j r n) :=
  Apart.quiet ((h.modRun hj fun x => withRelease_number x n).modReg hj _) (applyRelease_quiet t j r n)

theorem Apart.computeRelease (h : Apart i s t) (hj : j ≠ i) : Apart i s (t.computeRelease j) := by
  unfold State.computeRelease
  split
  · split
    · exact h.applyRelease hj _ _
    · exact h
  · exact h

/-! ### The platforms (R38, R39, R57) -/

section
variable (high : i ≤ 128)
include high

theorem Apart.placeRun (h : Apart i s t) (hj : j ≠ i) : Apart i s (t.placeRun j) := by
  cases hx : t.runAt j with
  | none => simp only [State.placeRun, hx]; exact h
  | some r =>
    rw [placeRun_eq hx]
    have moved : Apart i s (t.modRun j fun y => y.placed t.now) :=
      h.modRun hj fun y => by rw [Run.placed, arriveAt_eq]; rfl
    have occupied : Apart i s (t.placed j r) := moved.modTp (r.tpAt 1)
      (f := fun z => { z with occupant := some (t.runHandle j) }) fun z =>
        ⟨rfl, rfl, fun _ e => runHandle_ne (runAt_range hx).2 high hj (Option.some.inj e)⟩
    exact (occupied.computeRelease hj).evalHorizon

theorem Apart.clearOccupant (h : Apart i s t) (hs : s.aside i) (p : Nat) : Apart i s (t.clearOccupant p) := by
  have cleared : Apart i s (t.modTp p fun z => { z with occupant := none }) :=
    h.modTp p fun z => ⟨rfl, rfl, fun _ => by simp⟩
  unfold State.clearOccupant
  dsimp only
  split
  · next j hj =>
    obtain ⟨y, hy, planned⟩ := waitingAt_planned hj
    exact cleared.placeRun high ((cleared.aside hs).ne hy (.inl planned))
  · exact cleared

theorem Apart.vacate (h : Apart i s t) (hs : s.aside i) (p k : Nat) : Apart i s (t.vacate p k) := by
  unfold State.vacate
  split
  · exact h.clearOccupant high hs p
  · exact h

/-- A run that vacates its platform is not its occupant. -/
theorem vacate_occupant (hs : s.aside i) (p : Nat) :
    ((s.vacate p (s.runHandle i)).tp p).occupant ≠ some (s.runHandle i) := by
  unfold State.vacate
  split
  · obtain ⟨v, hv⟩ : ∃ v, v = s.modTp p fun z => { z with occupant := none } := ⟨_, rfl⟩
    have free : (v.tp p).occupant = none := by
      rw [hv, modTp_tp, if_pos rfl]
      cases get1 s.mvt.points p <;> rfl
    have aside : v.aside i := by rw [hv]; exact hs
    have handle : v.runHandle i = s.runHandle i := by rw [hv]; rfl
    have apart : Apart i v (s.clearOccupant p) := by
      unfold State.clearOccupant
      rw [← hv]
      dsimp only
      split
      · next j hj =>
        obtain ⟨y, hy, planned⟩ := waitingAt_planned hj
        exact (Apart.refl i v).placeRun high (aside.ne hy (.inl planned))
      · exact .refl i v
    obtain ⟨-, -, occupant⟩ := apart.points p
    rw [handle] at occupant
    exact occupant (by rw [free]; simp)
  · assumption

end

/-! ### Wait queues and merges (R95, R96, R111) -/

theorem Apart.leaveQueues (h : Apart i s t) (k : Nat) : Apart i s (t.leaveQueues k) :=
  Apart.foldl (fun hu a => hu.modSub a (f := fun z => { z with queue := z.queue.filter fun e => e.run != k }) fun _ =>
    List.filter_subset_self _) h (ids 8)

theorem first_mem {m w : Nat} {l : List Nat} (h : s.first m l = some w) : w ∈ l :=
  mem_sortBy.1 (List.mem_of_mem_head? h)

theorem contenders_held {m w : Nat} (h : w ∈ s.contenders m) : ∃ x, s.runAt w = some x ∧ x.state = .held := by
  obtain ⟨x, hx, held⟩ := mem_runSlots.1 h
  simp at held
  exact ⟨x, hx, held.1.1⟩

theorem Apart.nameHolder (h : Apart i s t) {w : Nat} (hw : w ≠ i) (m : Nat) : Apart i s (t.nameHolder m w) := by
  unfold State.nameHolder
  dsimp only
  split
  · exact (h.modArbiter m _).modRun hw fun _ => rfl
  · exact h.modArbiter m _

section
variable (hs : s.aside i)
include hs

theorem Apart.chooseHolder (h : Apart i s t) (m : Nat) : Apart i s (t.chooseHolder m) := by
  unfold State.chooseHolder
  split
  · split
    · next w hw =>
      obtain ⟨x, hx, held⟩ := contenders_held (first_mem hw)
      exact h.nameHolder ((h.aside hs).ne hx (.inr (.inr held))) m
    · exact h
  · exact h

theorem Apart.loseHolderAt (h : Apart i s t) (k m : Nat) : Apart i s (t.loseHolderAt k m) := by
  unfold State.loseHolderAt
  split
  · exact (h.modArbiter m _).chooseHolder hs m
  · exact h

theorem Apart.loseHolder (h : Apart i s t) (k : Nat) : Apart i s (t.loseHolder k) :=
  Apart.foldl (fun hu m => hu.loseHolderAt hs k m) h _

theorem Apart.settleMerge (h : Apart i s t) (j : Nat) : Apart i s (t.settleMerge j) := by
  unfold State.settleMerge
  split
  · split
    · split
      · exact h.chooseHolder hs _
      · exact h
    · exact h
  · exact h

theorem Apart.evalMerge (h : Apart i s t) (j : Nat) (r : Run) (others : Bool) :
    Apart i s (t.evalMerge j r others).1 := by
  unfold State.evalMerge
  split
  · exact h
  · next m _ _ =>
    split
    · exact h
    · split
      · exact h
      · split
        · exact h
        · split
          · exact h
          · split
            · exact h
            · next w hw =>
              split
              · exact h.modArbiter m _
              · next hne =>
                have contends : w ∈ t.contenders m := by
                  have hw := first_mem hw
                  exact (List.mem_filter.1 ((List.mem_cons.1 hw).resolve_left hne)).1
                obtain ⟨x, hx, held⟩ := contenders_held contends
                exact h.nameHolder ((h.aside hs).ne hx (.inr (.inr held))) m

theorem Apart.gates (h : Apart i s t) (j : Nat) (r : Run) : Apart i s (t.gates j r).1 := h.evalMerge hs j r _

theorem Apart.holdFor (h : Apart i s t) (hj : j ≠ i) (g : Causes) : Apart i s (t.holdFor j g) := by
  have held : Apart i s (t.modRun j fun x => { x with state := .held, causes := g }) := h.modRun hj fun _ => rfl
  exact ((held.modReg hj _).loseHolder hs _).settleMerge hs j

/-! ### Rechecks (R84, R85) -/

theorem Apart.recheckWaiting (h : Apart i s t) (hj : j ≠ i) (r : Run) : Apart i s (t.recheckWaiting j r) := by
  have gated := h.gates hs j r
  unfold State.recheckWaiting
  dsimp only
  split
  · exact gated
  · exact (gated.leaveQueues _).holdFor hs hj _

theorem Apart.recheckRun (h : Apart i s t) (mask : Causes) (j : Nat) : Apart i s (State.recheckRun mask t j) := by
  unfold State.recheckRun
  split
  · exact h
  · next r hr =>
    split
    · exact h
    · next held =>
      have hj : j ≠ i := (h.aside hs).ne hr (.inr (.inr (not_not.1 held)))
      split
      · exact h.recheckWaiting hs hj r
      · have merged : Apart i s (if mask.merge && r.causes.merge then t.evalMerge j r (!(t.plainGates j r).isEmpty)
            else (t, false)).1 := by
          split
          · exact h.evalMerge hs j r _
          · exact h
        revert merged
        dsimp only
        generalize (if mask.merge && r.causes.merge then t.evalMerge j r (!(t.plainGates j r).isEmpty) else (t, false)) = y
        intro merged
        split
        · exact merged
        · exact merged.modRun hj fun _ => rfl

theorem Apart.settleMerges (h : Apart i s t) (v : State) (l : List Nat) : Apart i s (t.settleMerges v l) := by
  refine Apart.foldl (fun hu j => ?_) h l
  split
  · exact hu
  · exact hu.settleMerge hs j

theorem Apart.recheck (h : Apart i s t) (mask : Causes) (l : List Nat) : Apart i s (t.recheck mask l) :=
  (Apart.foldl (fun hu j => hu.recheckRun hs mask j) h l).settleMerges hs _ _

/-! ### Releases computed again (R79, R80) -/

theorem Apart.returnToDwelling (h : Apart i s t) (hj : j ≠ i) (r : Run) (n : Nat) :
    Apart i s (t.returnToDwelling j r n) := by
  have dwelling : Apart i s (t.modRun j fun x => { x with state := .dwelling, causes := Causes.none }) :=
    h.modRun hj fun _ => rfl
  exact ((dwelling.leaveQueues _).loseHolder hs _).applyRelease hj r n

theorem Apart.recomputeRun (h : Apart i s t) (j : Nat) : Apart i s (t.recomputeRun j) := by
  unfold State.recomputeRun
  split
  · exact h
  · next r hr =>
    split
    · exact h
    · split
      · next dwelling => exact h.applyRelease ((h.aside hs).ne hr (.inr (.inl dwelling))) _ _
      · next held =>
        split
        · exact h
        · exact h.returnToDwelling hs ((h.aside hs).ne hr (.inr (.inr held))) _ _
      · exact h

theorem Apart.recompute (h : Apart i s t) (l : List Nat) : Apart i s (t.recompute l) :=
  Apart.foldl (fun hu j => hu.recomputeRun hs j) h l

theorem Apart.followerChange (h : Apart i s t) (p : Nat) : Apart i s (t.followerChange p) :=
  (h.recompute hs _).markBoard p

theorem Apart.queueChanged (h : Apart i s t) (g : Nat) : Apart i s (t.queueChanged g) :=
  (h.recheck hs _ _).followerChange hs _

theorem Apart.staleChanged (h : Apart i s t) (e : LineEvent) : Apart i s (t.staleChanged e) := by
  have posted : Apart i s (t.postLineEvent e) := h.postWhere _ _
  exact (posted.recompute hs _).markAllBoards

theorem Apart.restartStale (h : Apart i s t) : Apart i s t.restartStale := by
  have timed : Apart i s (t.onMvt fun m => { m with staleTimer := some (t.after t.lds.params.tStale), stale := false }) :=
    { h with }
  unfold State.restartStale
  dsimp only
  split
  · exact timed.staleChanged hs _
  · exact timed

end

/-! ### The service of the wait queues (R83, R105, R112) -/

theorem Apart.recordClaim (h : Apart i s t) (hj : j ≠ i) (sub sec cost : Nat) :
    Apart i s (t.recordClaim j sub sec cost) :=
  Apart.modRun ((h.putClaim hj (some ⟨sub, sec, cost, t.now, none⟩)).modSub sub
    (f := fun z => { z with inUse := z.inUse + cost }) fun _ => List.Subset.refl _) hj
    (f := fun r => { r with claimPresent := true }) fun _ => rfl

section
variable (high : i ≤ 128)
include high

theorem Apart.recordGrant (h : Apart i s t) (hx : t.runAt j = some x) (hj : j ≠ i) (r : Run) :
    Apart i s (t.recordGrant j r) := by
  unfold State.recordGrant
  dsimp only
  split
  · exact h
  · split
    · refine ((h.modMergeList _ fun l hl => ?_).modArbiter _ _).modReg hj _
      have other : s.runHandle i ≠ t.runHandle j := runHandle_ne high (runAt_range hx).2 hj.symm
      split
      · exact hl
      · simp [hl, other]
    · exact h

/-- Another run is released where some run waits for credits. -/
theorem Apart.completeRelease (h : Apart i s t) (busy : ¬ NobodyWaits s) (hj : j ≠ i) :
    Apart i s (t.completeRelease j) := by
  unfold State.completeRelease
  split
  · exact h
  · next r hr =>
    have granted := (h.recordGrant high hr hj r).order (.release r.number (r.tpAt r.cur) (t.firstSegment r))
    have stamped := granted.modTp (r.tpAt r.cur) (f := fun z => { z with lr := some t.now }) fun z => ⟨rfl, rfl, id⟩
    have released : Apart i s _ := stamped.modRun hj (f := fun x => { x with state := .released, causes := Causes.none })
      fun _ => rfl
    exact { released.modReg hj (fun z => { z with
        releaseTimer := none
        departureTimer := some (t.after t.lds.params.tDep)
        dispatcherHold := false
        releaseSegment := some (t.firstSegment r) }) with idle := fun hn => absurd hn busy }

variable (free : s.unqueued (s.runHandle i))
include free

theorem Apart.grantHead (h : Apart i s t) {k : Nat} {z : SubLive} {e : WaitEntry} (hz : t.sub k = some z)
    (he : z.queue.head? = some e) : Apart i s (t.grantHead k e) := by
  have waits : e ∈ z.queue := List.mem_of_mem_head? he
  have dropped : Apart i s (t.modSub k fun x => { x with queue := x.queue.drop 1 }) :=
    h.modSub k fun x => List.drop_subset 1 x.queue
  have busy : ¬ NobodyWaits s := fun hn => by
    have none := (h.idle hn).1 k z hz
    rw [none] at waits
    cases waits
  unfold State.grantHead
  dsimp only
  split
  · next j hj =>
    obtain ⟨handle, -⟩ := resolveRun_live (slot?_eq_some hj)
    have other : j ≠ i := by
      rintro rfl
      exact h.waits free k z hz e waits (handle.trans (dropped.runHandle j))
    exact (dropped.recordClaim other _ _ _).completeRelease high busy other
  · exact dropped

theorem Apart.serveQueue (h : Apart i s t) (k n : Nat) : Apart i s (State.serveQueue k n t) := by
  induction n generalizing t with
  | zero => exact h
  | succ n ih =>
    unfold State.serveQueue
    split
    · exact h
    · next e he =>
      obtain ⟨z, hz, he⟩ := Option.bind_eq_some_iff.1 he
      split
      · exact ih (h.grantHead high free hz he)
      · exact h

theorem Apart.serveLeft (h : Apart i s t) (v : State) : Apart i s (t.serveLeft v) := by
  refine Apart.foldl (fun hu k => ?_) h (ids 8)
  split
  · exact hu
  · exact hu.serveQueue high free k _

end

end Sys2Proof.Machine
end

/-! ## CANCEL_RUN (R43, R74) -/

section
namespace Sys2Proof.Machine
variable {s t u v w : State} {r : Req} {i j : Nat} {x y : Run}

/-! ### A claim returned, a grant withdrawn, the released count lowered (R75, R95, R109) -/

theorem returnClaim_claim (high : i ≤ 128) (low : 1 ≤ i) (s : State) : (s.returnClaim i).claim i = none := by
  unfold State.returnClaim
  split
  · assumption
  · exact look_put_self s.tpc.claims low high none

/-- A claim returned changes the power, and of the runs only whether the run shows a claim. -/
theorem returnClaim_eq (s : State) (i : Nat) : ∃ p f, s.returnClaim i = ({ s with tpc := p } : State).modRun i f ∧
    (∀ x, f x = x ∨ f x = { x with claimPresent := false }) ∧
    ∀ h, s.unqueued h → ({ s with tpc := p } : State).unqueued h := by
  unfold State.returnClaim
  split
  · refine ⟨s.tpc, id, ?_, fun x => .inl rfl, fun h hs => hs⟩
    have slots : mod1 s.rtb.slots i (fun y => { y with run := y.run.map id }) = s.rtb.slots := by
      have := map_mod1 s.rtb.slots i (f := fun y => { y with run := y.run.map id }) (g := id) fun y => by simp
      simpa using this
    show s = { s with rtb := { s.rtb with slots := mod1 s.rtb.slots i _ } }
    rw [slots]
  · next c _ =>
    refine ⟨_, _, rfl, fun x => .inr rfl, fun h hs k z hz e he => ?_⟩
    have hz : look (modLook s.tpc.subs c.sub fun y => { y with inUse := y.inUse - c.cost }) k = some z := hz
    rw [look_modLook] at hz
    split at hz
    · obtain ⟨y, hy, rfl⟩ := Option.map_eq_some_iff.1 hz
      exact hs k y hy e he
    · exact hs k z hz e he

/-- A run withdraws from the merge that its release was granted: it leaves that merge's order list. -/
theorem withdrawGrant_leaves (s : State) (i : Nat) : ∃ l d, s.withdrawGrant i =
    { s with mvt := { s.mvt with mergeLists := l }, drg := d } ∧
    ∀ m, (s.reg i).grantedMerge = some m → s.runHandle i ∉ (s.withdrawGrant i).mergeList m := by
  unfold State.withdrawGrant
  dsimp only
  cases hg : (s.reg i).grantedMerge with
  | none => exact ⟨_, _, rfl, fun m hm => by cases hm⟩
  | some n =>
    refine ⟨_, _, rfl, fun m hm => ?_⟩
    cases hm
    show _ ∉ (s.modMergeList n fun l => l.filter (· != s.runHandle i)).mergeList n
    rw [modMergeList_mergeList, if_pos rfl]
    cases get1 s.mvt.mergeLists n <;> simp

/-- The released count falls; a halt that waits for it completes, with its notice. -/
theorem lowerReleased_eq (s : State) : ∃ l, s.lowerReleased = { s with
    drg := { s.drg with
      releasedCount := s.drg.releasedCount - 1
      mode := if s.drg.releasedCount - 1 = 0 ∧ s.drg.mode = .halting then .manual else s.drg.mode }
    crp := { s.crp with notices := l } } := by
  simp only [State.lowerReleased, onDrg_drg]
  by_cases h : s.drg.releasedCount - 1 = 0 ∧ s.drg.mode = .halting
  · obtain ⟨l, hl⟩ := postWhere_onCrp ((s.onDrg fun d => { d with releasedCount := d.releasedCount - 1 }).onDrg fun d =>
      { d with mode := .manual }) ⟨.halted, 0, 0⟩ fun c => c.role == .dispatch || c.role == .supervisor
    refine ⟨l, ?_⟩
    simp only [if_pos h, hl]
    rfl
  · refine ⟨s.crp.notices, ?_⟩
    simp only [h, if_false]
    rfl

/-- A handle that leaves the wait queues stands in none. -/
theorem leaveQueues_unqueued (s : State) (h : Nat) : (s.leaveQueues h).unqueued h := by
  intro k z hz e he
  have waits : e.run ∈ (s.leaveQueues h).ledger.wait k := by
    show e.run ∈ ((s.leaveQueues h).sub k).elim [] fun x => x.queue.map (·.run)
    rw [hz]
    exact List.mem_map_of_mem he
  rw [leaveQueues_ledger] at waits
  simpa [Ledger.unwait] using (List.mem_filter.1 waits).2

/-! ### A cancelled run -/

/-- The run `x` of slot `i` of `s` is cancelled and counted in `t`, with its stops as they were, and every segment keeps
its queue. -/
structure Cancelled (s : State) (i : Nat) (x : Run) (t : State) : Prop where
  run : ∃ y, t.runAt i = some y ∧ y.state = .cancelled ∧ y.causes = Causes.none ∧ y.stops = x.stops ∧ y.cur = x.cur ∧
    y.placeTimer = none ∧ y.placeWaiting = false
  handle : t.runHandle i = s.runHandle i
  counters : t.rtb.counters = mod1 s.rtb.counters x.route fun c => { c with cancelled := satInc c.cancelled }
  segs : t.mvt.segs = s.mvt.segs

theorem Cancelled.aside (h : Cancelled s i x t) : t.aside i := by
  obtain ⟨y, hy, state, -⟩ := h.run
  exact ⟨y, hy, by simp [state]⟩

/-- It stays so while other runs are worked on. -/
theorem Cancelled.apart (h : Cancelled s i x t) (ha : Apart i t u) : Cancelled s i x u := by
  obtain ⟨y, hy, state, causes, stops, cur, timer, waiting⟩ := h.run
  obtain ⟨z, hz, quiet⟩ := ha.runAt hy
  exact ⟨⟨z, hz, (congrArg Run.state quiet :).trans state, (congrArg Run.causes quiet :).trans causes,
    (congrArg Run.stops quiet :).trans stops, (congrArg Run.cur quiet :).trans cur,
    (congrArg Run.placeTimer quiet :).trans timer, (congrArg Run.placeWaiting quiet :).trans waiting⟩,
    (ha.runHandle i).trans h.handle, ha.counters.trans h.counters, ha.segs.trans h.segs⟩

/-- It does not depend on the regulator, the power, the port or the line. -/
theorem Cancelled.of_blocks (h : Cancelled s i x t) (hr : u.rtb = t.rtb) (hm : u.mvt.segs = t.mvt.segs) :
    Cancelled s i x u := by
  refine ⟨?_, ?_, (congrArg Rtb.counters hr).trans h.counters, hm.trans h.segs⟩
  · rw [State.runAt, hr]; exact h.run
  · rw [State.runHandle, hr]; exact h.handle

theorem Cancelled.returnClaim (h : Cancelled s i x t) : Cancelled s i x (t.returnClaim i) := by
  obtain ⟨p, f, he, hf, -⟩ := returnClaim_eq t i
  obtain ⟨y, hy, fields⟩ := h.run
  rw [he]
  refine ⟨⟨f y, ?_, ?_⟩, (modRun_runHandle ..).trans h.handle, h.counters, h.segs⟩
  · rw [modRun_runAt, if_pos rfl]
    exact congrArg (Option.map f) hy
  · rcases hf y with hf | hf <;> rw [hf] <;> exact fields

/-- The state in which the effects of a cancellation start: the run is CANCELLED and counted. -/
def State.cancelling (s : State) (i : Nat) (x : Run) : State :=
  (s.modRun i fun y => { y.leavePlanned with state := .cancelled, causes := Causes.none }).modCounters x.route fun c =>
    { c with cancelled := satInc c.cancelled }

theorem cancel_eq (s : State) (i : Nat) (x : Run) : s.cancel i x = ((s.cancelling i x).cancelEffects i x).endRun i := rfl

theorem cancelled_cancelling (hx : s.runAt i = some x) : Cancelled s i x (s.cancelling i x) := by
  refine ⟨⟨{ x.leavePlanned with state := .cancelled, causes := Causes.none }, ?_, rfl, rfl, rfl, rfl, rfl, rfl⟩,
    modRun_runHandle .., rfl, rfl⟩
  show (s.modRun i _).runAt i = _
  rw [modRun_runAt, if_pos rfl, hx]
  rfl

/-! ### The effects by the state in which it is taken -/

/-- A PLANNED run: nothing but the horizon watch and its announcements. -/
theorem cancel_planned (hx : s.runAt i = some x) (planned : x.state = .planned) :
    Cancelled s i x ((s.cancel i x).serveLeft s) := by
  have watched : (s.cancelling i x).cancelEffects i x = (s.cancelling i x).evalHorizon := by
    rw [State.cancelEffects, planned]
  have apart : Apart i (s.cancelling i x) (s.cancel i x) := by
    rw [cancel_eq, watched]
    exact (Apart.refl i _).evalHorizon.endRun i
  have tpc : (s.cancel i x).tpc = s.tpc := by
    obtain ⟨n, a, l, he⟩ := evalHorizon_eq (s.cancelling i x)
    rw [cancel_eq, watched, he]
    exact (tpc_of_quiet ((Played.refl _).endRun i).quiet).trans rfl
  rw [serveLeft_of_tpc tpc]
  exact (cancelled_cancelling hx).apart apart

/-- A run at a platform: it leaves regulation, the wait queues and the platform. -/
theorem cancel_standing (hx : s.runAt i = some x) (stands : x.state = .dwelling ∨ x.state = .held) :
    Cancelled s i x ((s.cancel i x).serveLeft s) ∧
    (((s.cancel i x).serveLeft s).reg i).releaseTimer = none ∧
    (((s.cancel i x).serveLeft s).reg i).dispatcherHold = false ∧
    ((s.cancel i x).serveLeft s).unqueued (s.runHandle i) ∧
    (((s.cancel i x).serveLeft s).tp (x.tpAt x.cur)).occupant ≠ some (s.runHandle i) := by
  obtain ⟨low, high⟩ := runAt_range hx
  have start := cancelled_cancelling hx
  obtain ⟨v, hv⟩ : ∃ v, v = ((s.cancelling i x).modReg i fun z =>
    { z with releaseTimer := none, dispatcherHold := false }).leaveQueues (s.runHandle i) := ⟨_, rfl⟩
  obtain ⟨w, hw⟩ : ∃ w, w = (v.loseHolder (s.runHandle i)).vacate (x.tpAt x.cur) (s.runHandle i) := ⟨_, rfl⟩
  have cancelled : (s.cancel i x) = w.endRun i := by
    have effects : (s.cancelling i x).cancelEffects i x = w := by
      rw [hw, hv, ← start.handle]
      rcases stands with h | h <;> simp only [State.cancelEffects, h] <;> rfl
    rw [cancel_eq, effects]
  have left : Apart i ((s.cancelling i x).modReg i fun z => { z with releaseTimer := none, dispatcherHold := false }) v :=
    hv ▸ (Apart.refl i _).leaveQueues _
  have timed : Cancelled s i x ((s.cancelling i x).modReg i fun z =>
      { z with releaseTimer := none, dispatcherHold := false }) := start.of_blocks rfl rfl
  have atV : Cancelled s i x v := timed.apart left
  have free : v.unqueued (v.runHandle i) := by rw [atV.handle, hv]; exact leaveQueues_unqueued _ _
  have lost : Apart i v (v.loseHolder (s.runHandle i)) := (Apart.refl i v).loseHolder atV.aside _
  have vacated : Apart i v w := hw ▸ lost.vacate high atV.aside _ _
  have all : Apart i v ((s.cancel i x).serveLeft s) := cancelled ▸ (vacated.endRun i).serveLeft high free s
  have atW : Cancelled s i x w := atV.apart vacated
  have freeW : w.unqueued (w.runHandle i) := by rw [vacated.runHandle]; exact vacated.waits free
  have rest : Apart i w ((s.cancel i x).serveLeft s) :=
    cancelled ▸ ((Apart.refl i w).endRun i).serveLeft high freeW s
  have platform : (w.tp (x.tpAt x.cur)).occupant ≠ some (w.runHandle i) := by
    have handle : (v.loseHolder (s.runHandle i)).runHandle i = s.runHandle i := (lost.runHandle i).trans atV.handle
    have := vacate_occupant high (lost.aside atV.aside) (x.tpAt x.cur)
    rw [handle, ← hw] at this
    rw [atW.handle]
    exact this
  have reg : ((s.cancel i x).serveLeft s).reg i =
      ((s.cancelling i x).modReg i fun z => { z with releaseTimer := none, dispatcherHold := false }).reg i :=
    all.reg.trans left.reg
  refine ⟨atV.apart all, ?_, ?_, ?_, ?_⟩
  · rw [reg, modReg_reg_self low high]
  · rw [reg, modReg_reg_self low high]
  · have := all.waits free
    rwa [atV.handle] at this
  · have := (rest.points (x.tpAt x.cur)).2.2 platform
    rwa [atW.handle] at this

/-- A RUNNING run: its claim is returned. -/
theorem cancel_running (hx : s.runAt i = some x) (running : x.state = .running) (free : s.unqueued (s.runHandle i)) :
    Cancelled s i x ((s.cancel i x).serveLeft s) ∧ ((s.cancel i x).serveLeft s).claim i = none := by
  obtain ⟨low, high⟩ := runAt_range hx
  have cancelled : s.cancel i x = ((s.cancelling i x).returnClaim i).endRun i := by
    rw [cancel_eq, State.cancelEffects, running]
  have returned := (cancelled_cancelling hx).returnClaim
  have free' : ((s.cancelling i x).returnClaim i).unqueued (((s.cancelling i x).returnClaim i).runHandle i) := by
    obtain ⟨p, f, he, -, stays⟩ := returnClaim_eq (s.cancelling i x) i
    rw [returned.handle, he]
    exact stays _ free
  have apart : Apart i ((s.cancelling i x).returnClaim i) ((s.cancel i x).serveLeft s) :=
    cancelled ▸ ((Apart.refl i _).endRun i).serveLeft high free' s
  exact ⟨returned.apart apart, apart.claim.trans (returnClaim_claim high low _)⟩

/-- The state of a cancelled RELEASED run before it vacates its platform. -/
def State.revoked (s : State) (i : Nat) (x : Run) : State :=
  (((((s.cancelling i x).revoke i).returnClaim i).withdrawGrant i).modReg i fun z =>
    { z with departureTimer := none, dispatcherHold := false, releaseSegment := none }).lowerReleased

/-- A RELEASED run is revoked: its REVOKE order, its claim, its grant and its regulation record. -/
theorem revoked_leaves (hx : s.runAt i = some x) (free : s.unqueued (s.runHandle i)) :
    Cancelled s i x (s.revoked i x) ∧ ((s.revoked i x).reg i).departureTimer = none ∧
    ((s.revoked i x).reg i).dispatcherHold = false ∧ ((s.revoked i x).reg i).releaseSegment = none ∧
    (s.revoked i x).claim i = none ∧
    (∀ m, (s.reg i).grantedMerge = some m → s.runHandle i ∉ (s.revoked i x).mergeList m) ∧
    (s.revoked i x).fli.releaseQ =
      s.fli.releaseQ ++ [.revoke x.number (x.tpAt x.cur) ((s.reg i).releaseSegment.getD 0)] ∧
    (s.revoked i x).unqueued (s.runHandle i) := by
  obtain ⟨low, high⟩ := runAt_range hx
  obtain ⟨a, ha⟩ : ∃ a, a = (s.cancelling i x).order
    (.revoke x.number (x.tpAt x.cur) ((s.reg i).releaseSegment.getD 0)) := ⟨_, rfl⟩
  have revoke : (s.cancelling i x).revoke i = a := by
    have run : (s.cancelling i x).runAt i =
        some { x.leavePlanned with state := .cancelled, causes := Causes.none } := by
      show (s.modRun i _).runAt i = _
      rw [modRun_runAt, if_pos rfl, hx]
      rfl
    rw [State.revoke, run, ha]
    rfl
  have atA : Cancelled s i x a := ha ▸ (cancelled_cancelling hx).of_blocks rfl rfl
  obtain ⟨p, f, hb, -, stays⟩ := returnClaim_eq a i
  have atB : Cancelled s i x (a.returnClaim i) := atA.returnClaim
  have claim := returnClaim_claim high low a
  obtain ⟨l, d, hc, merges⟩ := withdrawGrant_leaves (a.returnClaim i) i
  obtain ⟨n, hd⟩ := lowerReleased_eq (((a.returnClaim i).withdrawGrant i).modReg i fun z =>
    { z with departureTimer := none, dispatcherHold := false, releaseSegment := none })
  have reg : (s.revoked i x).reg i = { ((a.returnClaim i).withdrawGrant i).reg i with
      departureTimer := none, dispatcherHold := false, releaseSegment := none } := by
    rw [State.revoked, revoke, hd]
    exact modReg_reg_self (s := (a.returnClaim i).withdrawGrant i) low high _
  refine ⟨?_, by rw [reg], by rw [reg], by rw [reg], ?_, fun m hm => ?_, ?_, ?_⟩
  · rw [State.revoked, revoke, hd]
    exact atB.of_blocks (by rw [hc]; rfl) (by rw [hc]; rfl)
  · rw [State.revoked, revoke, hd]
    show ((a.returnClaim i).withdrawGrant i).claim i = none
    rw [hc]
    exact claim
  · have granted : ((a.returnClaim i).reg i).grantedMerge = some m := by rw [hb, ha]; exact hm
    have := merges m granted
    rw [atB.handle] at this
    rw [State.revoked, revoke, hd]
    exact this
  · rw [State.revoked, revoke, hd]
    show ((a.returnClaim i).withdrawGrant i).fli.releaseQ = _
    rw [hc, hb, ha]
    rfl
  · rw [State.revoked, revoke, hd]
    show ((a.returnClaim i).withdrawGrant i).unqueued _
    rw [hc, hb]
    exact stays _ (ha ▸ free)

theorem cancel_released (hx : s.runAt i = some x) (released : x.state = .released)
    (free : s.unqueued (s.runHandle i)) :
    Apart i (s.revoked i x) ((s.cancel i x).serveLeft s) := by
  obtain ⟨cancelled, -, -, -, -, -, -, waits⟩ := revoked_leaves hx free
  have effects : s.cancel i x =
      ((s.revoked i x).vacate (x.tpAt x.cur) (s.runHandle i)).endRun i := by
    rw [cancel_eq, ← (cancelled_cancelling hx).handle]
    simp only [State.cancelEffects, released]
    rfl
  rw [effects]
  obtain ⟨-, high⟩ := runAt_range hx
  exact (((Apart.refl i _).vacate high cancelled.aside _ _).endRun i).serveLeft high (by rw [cancelled.handle]; exact waits) s

/-- What a cancellation leaves, by the state in which it is taken. -/
theorem cancel_leaves (hx : s.runAt i = some x) (hu : u = (s.cancel i x).serveLeft s)
    (notCancelled : x.state ≠ .cancelled) (notTerminated : x.state ≠ .terminated)
    (nowhere : x.state = .released ∨ x.state = .running → s.unqueued (s.runHandle i)) : Cancelled s i x u ∧
    (x.state = .dwelling ∨ x.state = .held → (u.reg i).releaseTimer = none ∧ (u.reg i).dispatcherHold = false ∧
      u.unqueued (s.runHandle i) ∧ (u.tp (x.tpAt x.cur)).occupant ≠ some (s.runHandle i)) ∧
    (x.state = .released → (u.reg i).departureTimer = none ∧ (u.reg i).dispatcherHold = false ∧
      (u.reg i).releaseSegment = none ∧ u.claim i = none ∧
      (∀ m, (s.reg i).grantedMerge = some m → s.runHandle i ∉ u.mergeList m) ∧
      ∃ l, u.fli.releaseQ =
        s.fli.releaseQ ++ .revoke x.number (x.tpAt x.cur) ((s.reg i).releaseSegment.getD 0) :: l) ∧
    (x.state = .running → u.claim i = none) := by
  subst hu
  cases hs : x.state with
  | planned => exact ⟨cancel_planned hx hs, by simp, by simp, by simp⟩
  | dwelling | held =>
    obtain ⟨done, rest⟩ := cancel_standing hx (by simp [hs])
    exact ⟨done, fun _ => rest, by simp, by simp⟩
  | released =>
    have free := nowhere (.inl hs)
    obtain ⟨done, timer, hold, segment, claim, merges, orders, -⟩ := revoked_leaves hx free
    have apart := cancel_released hx hs free
    obtain ⟨l, hl⟩ := apart.orders
    refine ⟨done.apart apart, by simp, fun _ => ⟨?_, ?_, ?_, apart.claim.trans claim, fun m hm => ?_, l, ?_⟩, by simp⟩
    · rw [apart.reg, timer]
    · rw [apart.reg, hold]
    · rw [apart.reg, segment]
    · have := apart.merges m
      rw [done.handle] at this
      exact this (merges m hm)
    · rw [hl, orders, List.append_assoc]
      rfl
  | running =>
    obtain ⟨done, claim⟩ := cancel_running hx hs (nowhere (.inr hs))
    exact ⟨done, by simp, by simp, fun _ => claim⟩
  | terminated => exact absurd hs notTerminated
  | cancelled => exact absurd hs notCancelled

/-! ### The command -/

theorem settleCancelRun_live (hl : s.resolveRun r.principal = .live i) (hx : s.runAt i = some x) :
    settleCancelRun r s = thenServe s (s.settleCancel i x) :=
  congrArg (thenServe s) (withRun_live hl hx)

/-- A request is done and its event ends: RELEASE orders that it has created stand in the stream. -/
theorem created_of_answer {b : List Byte} {l : List Order} (hk : u.kept = s.kept)
    (hl : u.fli.releaseQ = s.fli.releaseQ ++ l) : Created s (u.writeAnswer b).finish .release l := by
  obtain ⟨boards, he, -⟩ := finish_eq (u.writeAnswer b)
  rw [he]
  exact created_of_startFrame rfl hl (congrArg (fun z => z.fli.sending) hk :)

/-- CANCEL_RUN of a run that is not at its end. -/
theorem exec_cancelRun_done (hp : Passes s .cancelRun r) (hl : s.resolveRun r.principal = .live i)
    (hx : s.runAt i = some x) (notCancelled : x.state ≠ .cancelled) (notTerminated : x.state ≠ .terminated) :
    ∃ t u, exec (.cancelRun r) s = .next t ∧ Answers s t .cancelRun r .ok r.principal [] ∧ Steady s t ∧
      SameBlocks t u ∧ u = ((s.recordRequest ReqKind.cancelRun.code r).cancel i x).serveLeft
        (s.recordRequest ReqKind.cancelRun.code r) ∧
      ∀ l, u.fli.releaseQ = s.fli.releaseQ ++ l → Created s t .release l := by
  have settled : settleCancelRun r (s.recordRequest ReqKind.cancelRun.code r) = (Reply.just .ok,
      ((s.recordRequest ReqKind.cancelRun.code r).cancel i x).serveLeft (s.recordRequest ReqKind.cancelRun.code r)) := by
    rw [settleCancelRun_live (s := s.recordRequest _ r) hl hx, State.settleCancel]
    cases hs : x.state with
    | cancelled => exact absurd hs notCancelled
    | terminated => exact absurd hs notTerminated
    | planned | dwelling | held | released | running => rfl
  have kept : (((s.recordRequest ReqKind.cancelRun.code r).cancel i x).serveLeft
      (s.recordRequest ReqKind.cancelRun.code r)).kept = (s.recordRequest ReqKind.cancelRun.code r).kept :=
    (serveLeft_kept ..).trans (cancel_kept ..)
  obtain ⟨t, ht, answers, steady, same, done⟩ := next_done hp rfl settled kept
  refine ⟨t, _, ht, answers, steady, same, rfl, fun l hr => ?_⟩
  rw [done]
  exact created_of_answer (s := s.recordRequest ReqKind.cancelRun.code r) kept hr

/-- Settles O31: each state in which a run can be cancelled has its effects; the work on other runs that follows them
leaves the run alone. -/
theorem runCancelled : Obligations.RunCancelled := by
  refine fun s r i x he hp hl hx => ⟨fun hs => ?_, fun hs => ?_, fun notCancelled notTerminated nowhere => ?_⟩
  · exact next_replyNamed hp he rfl ((settleCancelRun_live (s := s.recordRequest _ r) hl hx).trans
      (by rw [State.settleCancel, hs]; exact thenServe_reply ..))
  · exact next_replyNamed hp he rfl ((settleCancelRun_live (s := s.recordRequest _ r) hl hx).trans
      (by rw [State.settleCancel, hs]; exact thenServe_reply ..))
  · obtain ⟨t, u, ht, answers, steady, same, hu, created⟩ := exec_cancelRun_done hp hl hx notCancelled notTerminated
    obtain ⟨done, standing, released, running⟩ :=
      cancel_leaves (s := s.recordRequest ReqKind.cancelRun.code r) hx hu notCancelled notTerminated nowhere
    obtain ⟨y, hy, state, causes, stops, cur, timer, waiting⟩ := done.run
    have handle : u.runHandle i = s.runHandle i := done.handle
    have segs : u.mvt.segs = s.mvt.segs := done.segs
    have unwaited : u.unqueued (s.runHandle i) → WaitsNowhere t i := fun h => by
      unfold WaitsNowhere
      rw [same.runHandle, handle, show t.sub = u.sub from funext same.sub]
      exact h
    refine ⟨t, y, ht, answers, steady, (same.runAt i).trans hy, state, causes, stops, cur, ?_,
      fun _ => ⟨timer, waiting⟩, fun hs => ?_, fun hs => ?_, fun hs => (same.claim i).trans (running hs), fun g => ?_⟩
    · rw [same.rtb]; exact done.counters
    · obtain ⟨clear, hold, free, platform⟩ := standing hs
      exact ⟨by rw [same.reg]; exact clear, by rw [same.reg]; exact hold, unwaited free, by rw [same.tp]; exact platform⟩
    · obtain ⟨timer, hold, segment, claim, merges, l, orders⟩ := released hs
      rw [same.reg, same.claim, show t.mergeList = u.mergeList from funext same.mergeList]
      exact ⟨timer, hold, segment, claim, merges, l, created _ orders⟩
    · rw [State.seg, same.mvt, segs]; rfl

end Sys2Proof.Machine
end

/-! ## DEPARTED of a RELEASED run (R52, R55, R57, R64, R74, R75, R94, R108) -/

section
namespace Sys2Proof.Machine
variable {s t u v w : State} {i j p g : Nat} {x y : Run} {st : Stop}

/-! ### A taken report -/

/-- The end of a report's event is steady. -/
theorem steadyReport_of_kept {n : Nat} (h : u.kept = (s.received n).kept) : SteadyReport n s u.finish := by
  obtain ⟨l, hl⟩ := crp_of_kept h
  obtain ⟨lds, lck, pending, rx, bad⟩ := Steady.finish (steady_of_kept h)
  refine ⟨lds, lck, pending, ⟨l, by rw [finish_crp, hl]; rfl⟩, rx, bad.trans ?_⟩
  show (s.fli.received n).badFrames = _
  unfold Fli.received
  split <;> rfl

/-- A report for a live run at a known timing point is settled once the stale timer has been set again. -/
theorem takeMovement_eq {n : Nat} {f : State → Nat → Run → Nat → State} (known : s.point p ≠ none) (low : 1 ≤ n)
    (high : n ≤ 9999) (hr : s.restartStale.runNumbered n = some (i, x)) :
    s.takeMovement n p f = (f s.restartStale i x p).serveLeft s := by
  rw [State.takeMovement, if_neg]
  · simp only [hr]
  · rw [Option.isNone_iff_eq_none]
    rintro (h | h | h)
    · exact known h
    · omega
    · omega

/-! ### The parts of a departure -/

/-- A run that has left its stop `k` on the track. -/
def Run.departed (x : Run) (k now : Nat) : Run :=
  { x.modStop k fun z => { z with actDep := some now } with state := .running, cur := k + 1, causes := Causes.none }

theorem departed_stop (h : x.stopAt x.cur = some st) (now : Nat) :
    (x.departed x.cur now).stopAt x.cur = some { st with actDep := some now } := by
  have stands : x.cur ≠ 0 := by
    intro h0
    simp [Run.stopAt, h0] at h
  have := stopAt_modStop_self x stands fun z => { z with actDep := some now }
  rw [h] at this
  exact this

/-- The claim's timer starts at the departure that completes a release. -/
theorem startClaimTimer_leaves (low : 1 ≤ i) (high : i ≤ 128) (s : State) (x : Run) : ∃ c,
    s.startClaimTimer i x = { s with tpc := { s.tpc with claims := c } } ∧
    ∀ a, s.claim i = some a → (s.startClaimTimer i x).claim i =
      some { a with expiry := some (s.after ((look s.lds.classes x.cls).elim 0 (·.tStart))) } := by
  unfold State.startClaimTimer
  split
  · next c hc =>
    refine ⟨_, rfl, fun a ha => ?_⟩
    obtain rfl : c = a := Option.some.inj (hc.symm.trans ha)
    exact look_put_self s.tpc.claims low high _
  · next hn => exact ⟨_, rfl, fun a ha => by rw [hn] at ha; cases ha⟩

theorem countDeparture_eq (h : x.stopAt j = some st) : s.countDeparture i x j = if st.halts then
    (s.modRun i fun y => { y with lateness := some (lateness s.now (st.schedDep.getD 0)) }).modCounters x.route
      (·.count (lateness s.now (st.schedDep.getD 0)))
    else s := by
  simp only [State.countDeparture, h]

/-- A departure counted changes the run's lateness and, where the run halts there, its route's counters. -/
theorem countDeparture_leaves (h : x.stopAt j = some st) (hy : s.runAt i = some y) :
    ∃ b l, s.countDeparture i x j = { s with rtb := b } ∧
      (s.countDeparture i x j).runAt i = some { y with lateness := l } ∧
      (∀ k, (s.countDeparture i x j).runHandle k = s.runHandle k) ∧
      b.counters = if st.halts then
        mod1 s.rtb.counters x.route (·.count (lateness s.now (st.schedDep.getD 0))) else s.rtb.counters := by
  rw [countDeparture_eq h]
  split
  · refine ⟨_, some (lateness s.now (st.schedDep.getD 0)), rfl, ?_, fun k => modRun_runHandle .., rfl⟩
    show (s.modRun i _).runAt i = _
    rw [modRun_runAt, if_pos rfl, hy]
    rfl
  · exact ⟨s.rtb, y.lateness, rfl, hy, fun _ => rfl, rfl⟩

/-- The state of a departure that completes a release, before the platform is vacated. -/
def State.departed (s : State) (i : Nat) (x : Run) (p g : Nat) : State :=
  ((((((s.departInto i x.cur g .running).stampDeparture p (s.runHandle i)).modReg i fun z =>
    { z with departureTimer := none, dispatcherHold := false, releaseSegment := none }).lowerReleased).startClaimTimer i
      x).countDeparture i x x.cur)

theorem departReleased_eq (hg : (s.reg i).releaseSegment = some g) (room : (s.seg g).queue.length < 8) :
    s.departReleased i x p = ((s.departed i x p g).vacate p (s.runHandle i)).queueChanged g := by
  have free : s.segmentFull g = false := decide_eq_false (Nat.not_le.2 room)
  simp only [State.departReleased, hg, Option.getD_some, free]
  rfl

theorem departInto_runAt (hx : s.runAt i = some x) :
    (s.departInto i x.cur g .running).runAt i = some (x.departed x.cur s.now) := by
  unfold State.departInto
  rw [modRun_runAt, if_pos rfl]
  exact congrArg (Option.map _) hx

/-- What a completed departure leaves, before the platform is vacated. -/
theorem departed_leaves (hx : s.runAt i = some x) (hst : x.stopAt x.cur = some st) (gLow : 1 ≤ g) (gHigh : g ≤ 48)
    (pLow : 1 ≤ p) (pHigh : p ≤ 32) :
    (∃ l, (s.departed i x p g).runAt i = some { x.departed x.cur s.now with lateness := l }) ∧
    (s.departed i x p g).runHandle i = s.runHandle i ∧
    ((s.departed i x p g).seg g).queue = (s.seg g).queue ++ [s.runHandle i] ∧
    (∀ q, q ≠ g → (s.departed i x p g).seg q = s.seg q) ∧
    ((s.departed i x p g).tp p).ld = some s.now ∧
    ((s.departed i x p g).tp p).lastDeparted = some (s.runHandle i) ∧
    ((s.departed i x p g).reg i).departureTimer = none ∧ ((s.departed i x p g).reg i).releaseSegment = none ∧
    ((s.departed i x p g).reg i).dispatcherHold = false ∧
    (s.departed i x p g).drg.releasedCount = s.drg.releasedCount - 1 ∧
    (s.departed i x p g).drg.mode =
      (if s.drg.releasedCount - 1 = 0 ∧ s.drg.mode = .halting then .manual else s.drg.mode) ∧
    (∀ c, s.claim i = some c → (s.departed i x p g).claim i = some { c with
      expiry := some (s.after ((look s.lds.classes x.cls).elim 0 (·.tStart))) }) ∧
    (s.departed i x p g).rtb.counters = (if st.halts then
      mod1 s.rtb.counters x.route (·.count (lateness s.now (st.schedDep.getD 0))) else s.rtb.counters) ∧
    (∀ k, (s.departed i x p g).sub k = s.sub k) := by
  obtain ⟨low, high⟩ := runAt_range hx
  obtain ⟨a, ha⟩ : ∃ a, a = ((s.departInto i x.cur g .running).stampDeparture p (s.runHandle i)).modReg i fun z =>
    { z with departureTimer := none, dispatcherHold := false, releaseSegment := none } := ⟨_, rfl⟩
  obtain ⟨n, hb⟩ := lowerReleased_eq a
  obtain ⟨c, hc, claim⟩ := startClaimTimer_leaves low high a.lowerReleased x
  have run : (a.lowerReleased.startClaimTimer i x).runAt i = some (x.departed x.cur s.now) := by
    rw [hc, hb, ha]
    exact departInto_runAt hx
  obtain ⟨b, l, hd, runAt, handles, counters⟩ := countDeparture_leaves hst run
  have made : s.departed i x p g = (a.lowerReleased.startClaimTimer i x).countDeparture i x x.cur := by rw [ha]; rfl
  have seg (q : Nat) : (s.departed i x p g).seg q = (s.enterSegment g (s.runHandle i)).seg q := by
    rw [made, hd, hc, hb, ha]; rfl
  have tp : (s.departed i x p g).tp p =
      { s.tp p with ld := some s.now, lastDeparted := some (s.runHandle i) } := by
    obtain ⟨z, hz⟩ := get1_isSome s.mvt.points pLow pHigh
    have stamped : (s.departed i x p g).tp p = (s.stampDeparture p (s.runHandle i)).tp p := by
      rw [made, hd, hc, hb, ha]; rfl
    rw [stamped, State.stampDeparture, modTp_tp, if_pos rfl, State.tp, hz]
    rfl
  have reg : (s.departed i x p g).reg i =
      { s.reg i with departureTimer := none, dispatcherHold := false, releaseSegment := none } := by
    have set : (s.departed i x p g).reg i = (s.modReg i fun z =>
        { z with departureTimer := none, dispatcherHold := false, releaseSegment := none }).reg i := by
      rw [made, hd, hc, hb, ha]; rfl
    rw [set, modReg_reg_self low high]
  refine ⟨⟨l, by rw [made, runAt]⟩, ?_, ?_, fun q hq => ?_, by rw [tp], by rw [tp], by rw [reg], by rw [reg], by rw [reg],
    ?_, ?_, fun d hd' => ?_, ?_, fun k => ?_⟩
  · rw [made, handles, hc, hb, ha]
    exact departInto_runHandle ..
  · obtain ⟨z, hz⟩ := get1_isSome s.mvt.segs gLow gHigh
    rw [seg, State.enterSegment, modSeg_seg, if_pos rfl, State.seg, hz]
    rfl
  · rw [seg, State.enterSegment, modSeg_seg, if_neg hq.symm]
  · rw [made, hd, hc, hb, ha]; rfl
  · rw [made, hd, hc, hb, ha]; rfl
  · have same : a.lowerReleased.claim i = s.claim i := by rw [hb, ha]; rfl
    have := claim d (same.trans hd')
    rw [made, hd]
    refine Eq.trans ?_ (this.trans ?_)
    · rfl
    · rw [hb, ha]; rfl
  · rw [made, hd]
    refine counters.trans ?_
    rw [hc, hb, ha]
    rfl
  · rw [made, hd, hc, hb, ha]; rfl

/-! ### The report -/

/-- A DEPARTED report of a RELEASED run at its timing point: the stale timer is set again, the release is completed, and
the wait queues are served. -/
theorem exec_departed_released {run : Half} {point : Byte} (hr : Reported s run point.toNat i x)
    (released : x.state = .released) (hst : x.stopAt x.cur = some st) (hp : st.tp = point.toNat)
    (hg : (s.reg i).releaseSegment = some g) (room : (s.seg g).queue.length < 8) :
    ∃ y, Apart i (s.received 3) (s.received 3).restartStale ∧ (s.received 3).restartStale.runAt i = some y ∧
      y.quiet = x.quiet ∧ exec (.departed run point) s = .next (State.finish (State.serveLeft
        ((((s.received 3).restartStale.departed i y point.toNat g).vacate point.toNat (s.runHandle i)).queueChanged g)
        (s.received 3))) := by
  obtain ⟨-, known, low, high, numbered⟩ := hr
  have hx := runNumbered_runAt numbered
  have aside : (s.received 3).aside i := ⟨x, hx, by simp [released]⟩
  have apart := (Apart.refl i (s.received 3)).restartStale aside
  obtain ⟨y, hy, quiet⟩ := apart.runAt hx
  have found : (s.received 3).restartStale.runNumbered run.toNat = some (i, y) := by
    have slot := runNumbered_of_names apart.names run.toNat
    rw [show (s.received 3).runNumbered run.toNat = some (i, x) from numbered] at slot
    obtain ⟨⟨j, z⟩, hz, rfl⟩ := Option.map_eq_some_iff.1 slot
    rw [hz]
    exact congrArg (fun r => some (j, r)) (Option.some.inj ((runNumbered_runAt hz).symm.trans hy))
  have stops : y.stops = x.stops := (congrArg Run.stops quiet :)
  have cur : y.cur = x.cur := (congrArg Run.cur quiet :)
  have here : y.tpAt y.cur = point.toNat := by
    rw [Run.tpAt, Run.stopAt, stops, cur]
    show (x.stopAt x.cur).elim 0 _ = _
    rw [hst]
    exact hp
  have segment : ((s.received 3).restartStale.reg i).releaseSegment = some g := by rw [apart.reg]; exact hg
  have space : ((s.received 3).restartStale.seg g).queue.length < 8 := by
    rw [State.seg, apart.segs]; exact room
  have settled : (s.received 3).restartStale.settleDeparted i y point.toNat =
      (((s.received 3).restartStale.departed i y point.toNat g).vacate point.toNat (s.runHandle i)).queueChanged g := by
    rw [State.settleDeparted, (state_of_quiet quiet).trans released]
    dsimp only
    rw [if_pos here, departReleased_eq segment space, apart.runHandle]
    rfl
  refine ⟨y, apart, hy, quiet, ?_⟩
  show Host.Outcome.next (State.finish (State.takeMovement ..)) = _
  rw [takeMovement_eq (s := s.received 3) known low high found, settled]

/-- Settles O35: the departure by its parts; the work on other runs before and after it leaves the run alone. -/
theorem departureTaken : Obligations.DepartureTaken := by
  intro s run point i g x st hr released hst hp hg gLow gHigh room nowhere
  obtain ⟨z, before, hz, quiet, ht⟩ := exec_departed_released hr released hst hp hg room
  obtain ⟨he, known, -, -, numbered⟩ := hr
  obtain ⟨low, high⟩ := runAt_range (runNumbered_runAt numbered)
  obtain ⟨d, hd⟩ : ∃ d, s.point point.toNat = some d := Option.ne_none_iff_exists'.1 known
  have pointRange : 1 ≤ point.toNat ∧ point.toNat ≤ 32 := by
    unfold State.point at hd
    split at hd
    · exact look_some_range hd
    · cases hd
  have cur : z.cur = x.cur := (congrArg Run.cur quiet :)
  have stops : z.stops = x.stops := (congrArg Run.stops quiet :)
  have hst' : z.stopAt z.cur = some st := by rw [Run.stopAt, stops, cur]; exact hst
  obtain ⟨⟨l, hrun⟩, handle, queue, segs, ld, last, timer, segment, hold, count, mode, claim, counters, subs⟩ :=
    departed_leaves (g := g) hz hst' gLow gHigh pointRange.1 pointRange.2
  obtain ⟨v, hv⟩ : ∃ v, v = (s.received 3).restartStale.departed i z point.toNat g := ⟨_, rfl⟩
  rw [← hv] at ht hrun handle queue segs ld last timer segment hold count mode claim counters subs
  have handles : (s.received 3).restartStale.runHandle i = s.runHandle i := before.runHandle i
  have aside : v.aside i := ⟨_, hrun, by simp [Run.departed]⟩
  have free : v.unqueued (v.runHandle i) := by
    rw [handle, handles]
    unfold State.unqueued
    rw [show v.sub = (s.received 3).restartStale.sub from funext subs]
    exact before.waits nowhere
  have vacated := (Apart.refl i v).vacate high aside point.toNat (s.runHandle i)
  have after := (vacated.queueChanged aside g).serveLeft high free (s.received 3)
  obtain ⟨w, hw⟩ : ∃ w, w = v.vacate point.toNat (s.runHandle i) := ⟨_, rfl⟩
  rw [← hw] at ht vacated after
  obtain ⟨u, hu⟩ : ∃ u, u = (w.queueChanged g).serveLeft (s.received 3) := ⟨_, rfl⟩
  rw [← hu] at ht after
  have platform : (u.tp point.toNat).occupant ≠ some (s.runHandle i) := by
    have freeW : w.unqueued (w.runHandle i) := by rw [vacated.runHandle]; exact vacated.waits free
    have rest : Apart i w u :=
      hu ▸ ((Apart.refl i w).queueChanged (vacated.aside aside) g).serveLeft high freeW (s.received 3)
    have left := vacate_occupant high aside point.toNat
    rw [handle, handles, ← hw] at left
    have := (rest.points point.toNat).2.2
    rw [vacated.runHandle, handle, handles] at this
    exact this left
  have same := sameBlocks_finish u
  have clock : (s.received 3).restartStale.lck = s.lck := (lck_of_kept before.kept).trans rfl
  have line : (s.received 3).restartStale.lds = s.lds := (lds_of_kept before.kept).trans rfl
  have kept : u.kept = (s.received 3).kept := by
    refine after.kept.trans (Eq.trans ?_ before.kept)
    rw [hv]
    simp [State.departed]
  have seg (q : Nat) : u.finish.seg q = v.seg q := by rw [same.seg, State.seg, after.segs]; rfl
  obtain ⟨y, hy, still⟩ := after.runAt hrun
  have departedStop := departed_stop hst' (s.received 3).restartStale.now
  refine ⟨u.finish, y, { st with actDep := some s.lck.clock }, ht, steadyReport_of_kept kept, (same.runAt i).trans hy,
    (congrArg Run.state still :), (congrArg Run.cur still :).trans (congrArg (· + 1) cur), (congrArg Run.causes still :),
    ?_, rfl, rfl, ?_, fun q hq => ?_, ?_, ?_, by rw [same.tp]; exact platform, by rw [same.reg, after.reg]; exact timer,
    by rw [same.reg, after.reg]; exact segment, by rw [same.reg, after.reg]; exact hold, fun nobody => ?_, fun c hc => ?_, ?_⟩
  · have written : y.stops = (z.departed z.cur (s.received 3).restartStale.now).stops := (congrArg Run.stops still :)
    rw [Run.stopAt, written, ← cur]
    refine departedStop.trans ?_
    rw [State.now, clock]
  · rw [seg, queue, handles, State.seg, before.segs]
    rfl
  · rw [seg, segs q hq, State.seg, before.segs]
    rfl
  · rw [same.tp, (after.points _).1, ld, State.now, clock]
  · rw [same.tp, (after.points _).2.1, last, handles]
  · obtain ⟨nobody', count', mode'⟩ := before.idle nobody
    obtain ⟨-, count'', mode''⟩ := after.idle fun k y hy => nobody' k y ((subs k).symm.trans hy)
    rw [same.drg, count'', mode'', count, mode, count', mode']
    exact ⟨rfl, rfl⟩
  · rw [same.claim, after.claim, claim c (before.claim.trans hc), State.after, State.now, clock, line]
    exact congrArg (fun n => some { c with expiry := some (min (s.lck.clock + (look s.lds.classes n).elim 0 (·.tStart)) 107999) })
      (congrArg Run.cls quiet :)
  · rw [same.rtb, after.counters, counters, before.counters, State.now, clock]
    rw [show z.route = x.route from (congrArg Run.route quiet :)]
    rfl

end Sys2Proof.Machine
end

/-! ## AMEND_RUN (R41, R42, R50, R79, R80) -/

section
namespace Sys2Proof.Machine
variable {s t u v w : State} {r : Req} {i j k : Nat} {x y : Run} {es : List (Option Nat × Option Nat)}

/-! ### The amended stops -/

/-- A run with new scheduled times for the stops from index `k` on. -/
def Run.amend (x : Run) (k : Nat) (es : List (Option Nat × Option Nat)) : Run :=
  { x with stops := amendStops x.stops k es }

/-- An amendment changes nothing of a stop but its scheduled times. -/
theorem amend_stopAt (x : Run) (k : Nat) (es : List (Option Nat × Option Nat)) (j : Nat) {α : Type} (f : Stop → α)
    (hf : ∀ st a d, f { st with schedArr := a, schedDep := d } = f st) :
    ((x.amend k es).stopAt j).map f = (x.stopAt j).map f := by
  unfold Run.stopAt
  split
  · rfl
  · simp only [Run.amend, amendStops, List.getElem?_map, List.getElem?_zipIdx, Option.map_map]
    refine congrArg (fun g => Option.map g x.stops[j - 1]?) (funext fun st => ?_)
    simp only [Function.comp_apply]
    split
    · exact hf ..
    · rfl

theorem amend_count (x : Run) (k : Nat) (es : List (Option Nat × Option Nat)) : (x.amend k es).count = x.count := by
  simp [Run.amend, Run.count, amendStops]

theorem amend_computable (x : Run) (k : Nat) (es : List (Option Nat × Option Nat)) :
    (x.amend k es).computable = x.computable := by
  have halting (z : Run) : z.curStop.any Stop.halts = ((z.stopAt z.cur).map Stop.halts).getD false := by
    unfold Run.curStop
    cases z.stopAt z.cur <;> rfl
  rw [Run.computable, Run.computable, halting, halting, amend_count,
    amend_stopAt x k es (x.amend k es).cur Stop.halts fun _ _ _ => rfl]
  rfl

theorem curDep_plan (h : y.plan = x.plan) (hc : y.cur = x.cur) : y.curDep = x.curDep := by
  have read (z : Run) : z.curDep = ((z.stopAt z.cur).map (·.schedDep)).join.getD 0 := by
    unfold Run.curDep Run.curStop
    cases z.stopAt z.cur <;> rfl
  rw [read, read, hc, stopAt_plan h x.cur (·.schedDep) fun _ => rfl]

/-! ### The request's conditions (R36, R41) -/

/-- The entries of an amendment with the stops that they name. -/
theorem entries_all {p : Nat × Option Nat × Option Nat → Bool} :
    ((es.zipIdx.map fun e => (k + e.2, e.1)).all p) = true ↔ ∀ j e, es[j]? = some e → p (k + j, e) = true := by
  simp only [List.all_map, List.all_eq_true, Function.comp_apply]
  constructor
  · exact fun h j e he => h (e, j) (List.mem_zipIdx_iff_getElem?.2 he)
  · exact fun h e he => h e.2 e.1 (List.mem_zipIdx_iff_getElem?.1 he)

/-- The stops that an amendment names are stops of the run. -/
theorem stopAt_named {e : Option Nat × Option Nat} (low : 1 ≤ k) (high : k + es.length - 1 ≤ x.count)
    (he : es[j]? = some e) : ∃ st, x.stopAt (k + j) = some st := by
  obtain ⟨hj, -⟩ := List.getElem?_eq_some_iff.1 he
  have inside : k + j - 1 < x.stops.length := by unfold Run.count at high; omega
  exact ⟨x.stops[k + j - 1], (if_neg (by omega)).trans (List.getElem?_eq_getElem inside)⟩

/-- The times of every entry fit the stop that it names. -/
def timesAllFit (x : Run) (k : Nat) (es : List (Option Nat × Option Nat)) : Prop :=
  ∀ j e, es[j]? = some e → ∃ st, x.stopAt (k + j) = some st ∧ timesFit x.count (k + j) st.kind e.1 e.2 = true

theorem timesAllFit_iff : ((es.zipIdx.map fun e => (k + e.2, e.1)).all fun e =>
    (x.stopAt e.1).any fun st => timesFit x.count e.1 st.kind e.2.1 e.2.2) = true ↔ timesAllFit x k es := by
  rw [entries_all]
  simp [timesAllFit, Option.any_eq_true]

section
variable (open_ : ¬ (x.state = .terminated ∨ x.state = .cancelled)) (hb : r.amend = some (k, es))
include open_ hb

theorem settleAmend_range (h : k < 1 ∨ x.count < k + es.length - 1) : s.settleAmend r i x = s.reply .outOfRange := by
  simp only [State.settleAmend, if_neg open_, hb]
  rw [if_pos h]

variable (inside : ¬ (k < 1 ∨ x.count < k + es.length - 1))
include inside

theorem settleAmend_times (h : ¬ timesAllFit x k es ∨ nonDecreasing (schedule (amendStops x.stops k es)) = false) :
    s.settleAmend r i x = s.reply .outOfRange := by
  simp only [State.settleAmend, if_neg open_, hb, if_neg inside]
  split
  · rfl
  · next fit =>
    rw [Bool.not_eq_true', Bool.not_eq_false, timesAllFit_iff] at fit
    simp [h.resolve_left (not_not.2 fit)]

variable (fit : timesAllFit x k es) (order : nonDecreasing (schedule (amendStops x.stops k es)) = true)
include fit order

/-- With times that fit, the stops named and their present times decide. -/
theorem settleAmend_fits : s.settleAmend r i x =
    if !((es.zipIdx.map fun e => (k + e.2, e.1)).all fun e => x.amendable e.1 e.2.1) then s.reply .badState
    else if amendStops x.stops k es = x.stops then s.reply .noEffect
    else (Reply.just .ok, (s.modRun i fun y => { y with stops := amendStops x.stops k es }).amended i x (x.amend k es)) := by
  simp only [State.settleAmend, if_neg open_, hb, if_neg inside, timesAllFit_iff.2 fit, order, Bool.not_true,
    Bool.false_eq_true, if_false]
  rfl

theorem settleAmend_arrived (h : ∃ j e, es[j]? = some e ∧ x.amendable (k + j) e.1 = false) :
    s.settleAmend r i x = s.reply .badState := by
  obtain ⟨j, e, he, arrived⟩ := h
  rw [settleAmend_fits open_ hb inside fit order, if_pos]
  rw [Bool.not_eq_true', ← Bool.not_eq_true, entries_all]
  intro all
  have := all j e he
  simp [arrived] at this

variable (amendable : ∀ j e, es[j]? = some e → x.amendable (k + j) e.1 = true)
include amendable

theorem settleAmend_same (h : amendStops x.stops k es = x.stops) : s.settleAmend r i x = s.reply .noEffect := by
  have all := entries_all (p := fun e => x.amendable e.1 e.2.1).2 amendable
  rw [settleAmend_fits open_ hb inside fit order, all, if_neg (by simp), if_pos h]

theorem settleAmend_made (h : amendStops x.stops k es ≠ x.stops) : s.settleAmend r i x = (Reply.just .ok,
    (s.modRun i fun y => { y with stops := amendStops x.stops k es }).amended i x (x.amend k es)) := by
  have all := entries_all (p := fun e => x.amendable e.1 e.2.1).2 amendable
  rw [settleAmend_fits open_ hb inside fit order, all, if_neg (by simp), if_neg h]

end

/-! ### What an amendment leaves -/

/-- What an amendment leaves of the run `x` of slot `i`, which is `y` then; `new` is the run with the new times. -/
structure Amended (s u : State) (i : Nat) (x new y : Run) : Prop where
  run : u.runAt i = some y
  plan : y.plan = new.plan
  number : y.number = x.number
  cur : y.cur = x.cur
  planned : x.state = .planned → y.state = .planned ∧ y.placeTimer =
    if (y.stopAt 1).map (·.schedDep) = (x.stopAt 1).map (·.schedDep) then x.placeTimer
    else some (((y.stopAt 1).bind (·.schedDep)).getD 0 - (s.point (y.tpAt 1)).elim 0 (·.dMin))
  unmoved : x.state = .planned → (y.stopAt 1).map (·.schedDep) = (x.stopAt 1).map (·.schedDep) →
    y.placeWaiting = x.placeWaiting ∧ u.rtb.horizonCount = s.rtb.horizonCount ∧ Posted s u []
  moved : x.state = .planned → s.inService = true → (y.stopAt 1).map (·.schedDep) ≠ (x.stopAt 1).map (·.schedDep) →
    (y.placeWaiting = true ↔ x.placeWaiting = true ∧ ∀ e, y.placeTimer = some e → e ≤ s.lck.clock) ∧
    u.rtb.horizonCount = u.horizon ∧ Posted s u (s.timetableNotice s.rtb.armed u.horizon)
  releases : ∀ j, j ≠ x.cur → (y.stopAt j).map (·.release) = (x.stopAt j).map (·.release)
  stays : (x.state ≠ .dwelling ∧ x.state ≠ .held) ∨ y.curDep = x.curDep ∨ x.computable = false ∨
    x.causes.departureFailed = true → y.state = x.state ∧ y.stops = new.stops
  computed : y.curDep ≠ x.curDep → x.computable = true → x.causes.departureFailed = false →
    (x.state = .dwelling → y.state = .dwelling ∧
      (y.stopAt x.cur).bind (·.release) = some ((s.releaseInputs new).releaseTime s.lck.clock)) ∧
    (x.state = .held → if (s.releaseInputs new).limited ≤ (s.lck.clock : Int) then
        y.state = .held ∧ y.stops = new.stops
      else y.state = .dwelling ∧ (y.stopAt x.cur).bind (·.release) = some ((s.releaseInputs new).limited.toNat))
  others : ∀ j, j ≠ i → (u.runAt j).map Run.plan = (s.runAt j).map Run.plan
  counters : u.rtb.counters = s.rtb.counters
  segs : ∀ g, u.seg g = s.seg g

/-- The state with the new times written. -/
def State.retimed (s : State) (i : Nat) (x : Run) (k : Nat) (es : List (Option Nat × Option Nat)) : State :=
  s.modRun i fun y => { y with stops := amendStops x.stops k es }

theorem retimed_runAt (hx : s.runAt i = some x) : (s.retimed i x k es).runAt i = some (x.amend k es) := by
  rw [State.retimed, modRun_runAt, if_pos rfl, hx]
  rfl

theorem retimed_runAt_ne (hj : j ≠ i) (x : Run) : (s.retimed i x k es).runAt j = s.runAt j := by
  rw [State.retimed, modRun_runAt, if_neg hj.symm]

theorem amend_releases (x : Run) (k : Nat) (es : List (Option Nat × Option Nat)) (j : Nat) :
    ((x.amend k es).stopAt j).map (·.release) = (x.stopAt j).map (·.release) :=
  amend_stopAt x k es j (·.release) fun _ _ _ => rfl

theorem posted_nil (h : u.crp.notices = s.crp.notices) : Posted s u [] := fun _ _ _ => by simp [h]

/-- No computation follows the new times: nothing else changes. `idle` says why, for a run that stands at a stop. -/
theorem amended_idle (hx : s.runAt i = some x)
    (first : x.state = .planned → ((x.amend k es).stopAt 1).map (·.schedDep) = (x.stopAt 1).map (·.schedDep))
    (idle : x.state = .dwelling ∨ x.state = .held → (x.amend k es).curDep = x.curDep ∨ x.computable = false ∨
      x.causes.departureFailed = true ∨
      (x.state = .held ∧ (s.releaseInputs (x.amend k es)).limited ≤ (s.lck.clock : Int))) :
    Amended s (s.retimed i x k es) i x (x.amend k es) (x.amend k es) where
  run := retimed_runAt hx
  plan := rfl
  number := rfl
  cur := rfl
  planned hs := ⟨hs, (if_pos (first hs)).symm⟩
  unmoved _ _ := ⟨rfl, rfl, posted_nil rfl⟩
  moved hs _ hm := absurd (first hs) hm
  releases j _ := amend_releases x k es j
  stays _ := ⟨rfl, rfl⟩
  computed dep computable failed := by
    refine ⟨fun hs => ?_, fun hs => ?_⟩
    · rcases idle (.inl hs) with h | h | h | ⟨h, -⟩
      · exact absurd h dep
      · simp [computable] at h
      · simp [failed] at h
      · simp [hs] at h
    · rcases idle (.inr hs) with h | h | h | ⟨-, h⟩
      · exact absurd h dep
      · simp [computable] at h
      · simp [failed] at h
      · rw [if_pos h]; exact ⟨hs, rfl⟩
  others j hj := congrArg (Option.map _) (retimed_runAt_ne hj x)
  counters := rfl
  segs _ := rfl

/-- The run of a slot whose first departure has moved: a new placement time, and it goes on waiting where that is not
ahead. -/
def Run.replaced (x : Run) (t now : Nat) : Run :=
  { x with placeTimer := some t, placeWaiting := x.placeWaiting && decide (t ≤ now) }

/-- A PLANNED run whose first departure moves: its placement time is formed anew, and the horizon watch looks. -/
theorem amended_planned (hx : s.runAt i = some x) (planned : x.state = .planned)
    (first : ((x.amend k es).stopAt 1).map (·.schedDep) ≠ (x.stopAt 1).map (·.schedDep)) :
    Amended s (((s.retimed i x k es).modRun i fun y =>
      y.replaced (s.placementTime (x.amend k es)) s.now).evalHorizon) i x (x.amend k es)
      ((x.amend k es).replaced (s.placementTime (x.amend k es)) s.now) := by
  obtain ⟨v, hv⟩ : ∃ v, v = (s.retimed i x k es).modRun i fun y =>
    y.replaced (s.placementTime (x.amend k es)) s.now := ⟨_, rfl⟩
  obtain ⟨n, a, l, watched⟩ := evalHorizon_eq v
  have run : v.runAt i = some ((x.amend k es).replaced (s.placementTime (x.amend k es)) s.now) := by
    rw [hv, modRun_runAt, if_pos rfl, retimed_runAt hx]
    rfl
  have others (j : Nat) (hj : j ≠ i) : v.runAt j = s.runAt j := by
    rw [hv, modRun_runAt, if_neg hj.symm, retimed_runAt_ne hj]
  rw [← hv]
  refine ⟨by rw [watched]; exact run, rfl, rfl, rfl, fun _ => ⟨planned, (if_neg first).symm⟩,
    fun _ same => absurd same first, fun _ service _ => ?_, fun j _ => amend_releases x k es j, fun _ => ⟨rfl, rfl⟩,
    fun _ _ _ => ?_, fun j hj => ?_, by rw [watched, hv]; rfl, fun g => by rw [watched, hv]; rfl⟩
  · obtain ⟨l, hl, posted⟩ := evalHorizon_watched (s := v) (by rw [hv]; exact service)
    have horizon : v.evalHorizon.horizon = v.horizon := by rw [hl]; exact horizon_of_eq rfl rfl rfl
    refine ⟨?_, ?_, fun c z hz => ?_⟩
    · show (x.placeWaiting && decide (s.placementTime (x.amend k es) ≤ s.lck.clock)) = true ↔
        x.placeWaiting = true ∧ ∀ e, some (s.placementTime (x.amend k es)) = some e → e ≤ s.lck.clock
      simp
    · rw [horizon, hl]; rfl
    · rw [horizon, hl]
      subst hv
      exact posted c z hz
  · exact ⟨fun h => by simp [planned] at h, fun h => by simp [planned] at h⟩
  · rw [watched]
    exact congrArg (Option.map _) (others j hj)

/-! ### The computation that follows (R79, R80) -/

/-- A run that is not RUNNING is no follower candidate, whatever its stops. -/
theorem candidateOf_modRun {f : Run → Run} (hx : s.runAt i = some x) (hs : x.state ≠ .running)
    (hf : (f x).state ≠ .running) (g : Nat) : (s.modRun i f).candidateOf g = s.candidateOf g := by
  refine congrArg (fun o => (s.seg g).queue.findSome? o) (funext fun h => ?_)
  have resolved : (s.modRun i f).resolveRun h = s.resolveRun h := by
    refine congrArg (fun o => resolveIn 128 o h) (funext fun j => ?_)
    show (get1 (mod1 s.rtb.slots i _) j).bind _ = _
    rw [get1_mod1]
    split
    · rcases get1 s.rtb.slots j with _ | ⟨n, _ | y⟩ <;> rfl
    · rfl
  unfold State.runOf
  rw [resolved]
  cases (s.resolveRun h).slot? with
  | none => rfl
  | some j =>
    simp only [Option.bind_some, modRun_runAt]
    split
    · next e =>
      subst e
      simp [hx, hs, hf]
    · rfl

/-- The inputs of a run's computation do not depend on what a run not RUNNING has as its times. -/
theorem releaseInputs_modRun {f : Run → Run} (hx : s.runAt i = some x) (hs : x.state ≠ .running)
    (hf : (f x).state ≠ .running) (y : Run) : (s.modRun i f).releaseInputs y = s.releaseInputs y := by
  have follower : (s.modRun i f).followerArrival = s.followerArrival := funext fun p => by
    simp only [State.followerArrival, State.followers, candidateOf_modRun hx hs hf,
      predict_of_eq (s := s) (t := s.modRun i f) rfl rfl rfl rfl]
    rfl
  simp only [State.releaseInputs, follower]
  rfl

theorem leaveQueues_rtb (s : State) (h : Nat) : (s.leaveQueues h).rtb = s.rtb :=
  foldl_same State.rtb (fun t i => t.modSub i fun x => { x with queue := x.queue.filter fun e => e.run != h })
    (fun _ _ => rfl) (ids 8) s

theorem loseHolder_leaves (s : State) (h : Nat) :
    (s.loseHolder h).tpc = s.tpc ∧ (s.loseHolder h).rtb.counters = s.rtb.counters := by
  have chosen (u : State) (m : Nat) :
      (u.chooseHolder m).tpc = u.tpc ∧ (u.chooseHolder m).rtb.counters = u.rtb.counters := by
    refine ⟨chooseHolder_tpc u m, ?_⟩
    unfold State.chooseHolder State.nameHolder
    (repeat' split) <;> rfl
  have lost (u : State) (m : Nat) : ((u.loseHolderAt h m).tpc, (u.loseHolderAt h m).rtb.counters) =
      (u.tpc, u.rtb.counters) := by
    unfold State.loseHolderAt
    split
    · obtain ⟨tpc, counters⟩ := chosen (u.modArbiter m fun a => { a with holder := none }) m
      rw [tpc, counters]
      rfl
    · rfl
  have fold := foldl_same (fun u : State => (u.tpc, u.rtb.counters)) (fun t m => t.loseHolderAt h m) lost (ids 2) s
  exact ⟨(congrArg Prod.fst fold :), (congrArg Prod.snd fold :)⟩

/-- A release written at the current stop leaves the releases of the others. -/
theorem withRelease_releases (x : Run) (n : Nat) (hj : j ≠ x.cur) :
    ((x.withRelease n).stopAt j).map (·.release) = (x.stopAt j).map (·.release) := by
  rw [withRelease_eq]
  unfold Run.stopAt
  by_cases h0 : j = 0
  · simp [h0]
  · by_cases hc : x.cur = 0
    · simp [h0, hc]
    · simp only [h0, hc, if_false]
      have other : x.cur - 1 ≠ j - 1 := by omega
      simp [other]

/-- The shape of a run whose release `n` has been computed with the new times: DWELLING, with that release. -/
theorem amended_computed {n : Nat} (hu : u.runAt i = some y) (computable : x.computable = true)
    (failed : x.causes.departureFailed = false) (dep : (x.amend k es).curDep ≠ x.curDep)
    (stops : y.stops = ((x.amend k es).withRelease n).stops) (state : y.state = .dwelling)
    (number : y.number = x.number) (cur : y.cur = x.cur)
    (stands : x.state = .dwelling ∧ n = (s.releaseInputs (x.amend k es)).releaseTime s.lck.clock ∨
      x.state = .held ∧ ¬ (s.releaseInputs (x.amend k es)).limited ≤ (s.lck.clock : Int) ∧
        n = (s.releaseInputs (x.amend k es)).limited.toNat)
    (others : ∀ j, j ≠ i → (u.runAt j).map Run.plan = (s.runAt j).map Run.plan)
    (counters : u.rtb.counters = s.rtb.counters) (segs : ∀ g, u.seg g = s.seg g) :
    Amended s u i x (x.amend k es) y := by
  have planEq : y.plan = (x.amend k es).plan := by
    rw [Run.plan, stops]
    exact withRelease_plan _ n
  have depEq : y.curDep = (x.amend k es).curDep := curDep_plan planEq cur
  have notPlanned : x.state ≠ .planned := by rcases stands with ⟨h, -⟩ | ⟨h, -⟩ <;> simp [h]
  have release : (y.stopAt x.cur).bind (·.release) = some n := by
    obtain ⟨st, hst, hr⟩ := withRelease_stop ((amend_computable x k es).trans computable) n
    rw [Run.stopAt, stops]
    refine (congrArg (·.bind (·.release)) hst).trans hr
  refine ⟨hu, planEq, number, cur, fun h => absurd h notPlanned, fun h => absurd h notPlanned,
    fun h => absurd h notPlanned, fun j hj => ?_, fun h => ?_, fun _ _ _ => ⟨fun hs => ?_, fun hs => ?_⟩, others, counters,
    segs⟩
  · rw [Run.stopAt, stops]
    exact (withRelease_releases (x.amend k es) n hj).trans (amend_releases x k es j)
  · rcases h with ⟨hd, hh⟩ | h | h | h
    · rcases stands with ⟨h, -⟩ | ⟨h, -⟩
      · exact absurd h hd
      · exact absurd h hh
    · exact absurd (depEq.symm.trans h) dep
    · simp [computable] at h
    · simp [failed] at h
  · rcases stands with ⟨-, hn⟩ | ⟨h, -⟩
    · exact ⟨state, hn ▸ release⟩
    · simp [hs] at h
  · rcases stands with ⟨h, -⟩ | ⟨-, ahead, hn⟩
    · simp [hs] at h
    · rw [if_neg ahead]
      exact ⟨state, hn ▸ release⟩

/-- The releases of a DWELLING run: computed again from the new times. -/
theorem amended_dwelling (hx : s.runAt i = some x) (hs : x.state = .dwelling) (computable : x.computable = true)
    (failed : x.causes.departureFailed = false) (dep : (x.amend k es).curDep ≠ x.curDep) :
    ∃ y, Amended s ((s.retimed i x k es).applyRelease i (x.amend k es)
        ((s.releaseInputs (x.amend k es)).releaseTime s.now)) i x (x.amend k es) y := by
  obtain ⟨n, hn⟩ : ∃ n, n = (s.releaseInputs (x.amend k es)).releaseTime s.now := ⟨_, rfl⟩
  rw [← hn]
  have quiet := applyRelease_quiet (s.retimed i x k es) i (x.amend k es) n
  have written : (((s.retimed i x k es).modRun i fun y => y.withRelease n).modReg i fun y =>
      { y with releaseTimer := some n }).runAt i = some ((x.amend k es).withRelease n) := by
    show ((s.retimed i x k es).modRun i _).runAt i = _
    rw [modRun_runAt, if_pos rfl, retimed_runAt hx]
    rfl
  obtain ⟨y, hy, still⟩ := runAt_of_quiet quiet written
  refine ⟨y, amended_computed hy computable failed dep (congrArg Run.stops still :) ?_ ?_ ?_ (.inl ⟨hs, hn⟩)
    (fun j hj => ?_) ((congrArg (fun v => v.rtb.counters) quiet :).trans rfl) fun g => ?_⟩
  · exact (congrArg Run.state still :).trans ((withRelease_state _ n).trans hs)
  · exact (congrArg Run.number still :).trans (withRelease_number _ n)
  · exact (congrArg Run.cur still :).trans (withRelease_cur _ n)
  · rw [plan_of_quiet quiet]
    show (((s.retimed i x k es).modRun i _).runAt j).map _ = _
    rw [modRun_runAt, if_neg hj.symm, retimed_runAt_ne hj]
  · rw [State.seg, mvt_of_quiet quiet]; rfl

/-- A HELD run with a new release ahead: it returns to DWELLING, and the wait queue that it leaves is served. -/
theorem amended_held (hx : s.runAt i = some x) (hs : x.state = .held) (computable : x.computable = true)
    (failed : x.causes.departureFailed = false) (dep : (x.amend k es).curDep ≠ x.curDep)
    (ahead : ¬ (s.releaseInputs (x.amend k es)).limited ≤ (s.lck.clock : Int)) :
    ∃ y, Amended s (((s.retimed i x k es).returnToDwelling i (x.amend k es)
      (s.releaseInputs (x.amend k es)).limited.toNat).serveLeft s) i x (x.amend k es) y := by
  obtain ⟨low, high⟩ := runAt_range hx
  obtain ⟨n, hn⟩ : ∃ n, n = (s.releaseInputs (x.amend k es)).limited.toNat := ⟨_, rfl⟩
  rw [← hn]
  obtain ⟨a, ha⟩ : ∃ a, a = ((s.retimed i x k es).modRun i fun y =>
    { y with state := .dwelling, causes := Causes.none }).leaveQueues ((s.retimed i x k es).runHandle i) := ⟨_, rfl⟩
  obtain ⟨v, hv⟩ : ∃ v, v = (s.retimed i x k es).returnToDwelling i (x.amend k es) n := ⟨_, rfl⟩
  rw [← hv]
  have back : v = (a.loseHolder ((s.retimed i x k es).runHandle i)).applyRelease i (x.amend k es) n := by
    rw [hv, ha]; rfl
  have outline : v.outline = ((s.retimed i x k es).modRun i fun y => y.dwellUntil n).outline :=
    hv ▸ returnToDwelling_outline ..
  have written : ((s.retimed i x k es).modRun i fun y => y.dwellUntil n).runAt i =
      some ((x.amend k es).dwellUntil n) := by
    rw [modRun_runAt, if_pos rfl, retimed_runAt hx]
    rfl
  obtain ⟨z, hz, shape⟩ := runAt_of_outlineAt (outlineAt_of_outline outline i) written
  have handle : v.runHandle i = (s.retimed i x k es).runHandle i :=
    (runHandle_of_outlineAt (outlineAt_of_outline outline i)).trans (modRun_runHandle ..)
  obtain ⟨tpc, counters⟩ := loseHolder_leaves a ((s.retimed i x k es).runHandle i)
  have quiet := applyRelease_quiet (a.loseHolder ((s.retimed i x k es).runHandle i)) i (x.amend k es) n
  rw [← back] at quiet
  have free : v.unqueued (v.runHandle i) := by
    have power : v.tpc = a.tpc := (tpc_of_quiet quiet).trans tpc
    have left : a.unqueued ((s.retimed i x k es).runHandle i) := ha ▸ leaveQueues_unqueued _ _
    rw [handle]
    unfold State.unqueued
    rw [show v.sub = a.sub from funext fun q => by rw [State.sub, power]; rfl]
    exact left
  have served : Apart i v (v.serveLeft s) := (Apart.refl i v).serveLeft high free s
  obtain ⟨y, hy, still⟩ := served.runAt hz
  have stops : ((x.amend k es).dwellUntil n).stops = ((x.amend k es).withRelease n).stops := by
    rw [Run.dwellUntil, withRelease_eq, withRelease_eq]
  have same : a.rtb.counters = s.rtb.counters := by rw [ha, leaveQueues_rtb]; rfl
  refine ⟨y, amended_computed hy computable failed dep ((congrArg Run.stops still :).trans
    ((stops_of_outline shape).trans stops)) ?_ ?_ ?_ (.inr ⟨hs, ahead, hn⟩) (fun j hj => ?_) ?_ fun g => ?_⟩
  · exact (congrArg Run.state still :).trans ((state_of_outline shape).trans (by
      rw [Run.dwellUntil, withRelease_state]))
  · exact (congrArg Run.number still :).trans ((congrArg Run.number shape :).trans (by
      rw [Run.dwellUntil]; exact withRelease_number _ n))
  · exact (congrArg Run.cur still :).trans ((cur_of_outline shape).trans (by
      rw [Run.dwellUntil, withRelease_cur]; rfl))
  · have kept := itinerary_runs (serveLeft_itinerary v s) j
    have plan (q : State) : (q.runAt j).map Run.plan =
        ((q.runAt j).map fun z => (z.stops, z.cur)).map fun p => p.1.map Stop.plan := by
      rw [Option.map_map]; rfl
    rw [plan, kept, ← plan, plan_of_outlineAt (outlineAt_of_outline outline j), modRun_runAt, if_neg hj.symm,
      retimed_runAt_ne hj]
  · rw [served.counters]
    exact (congrArg (fun q => q.rtb.counters) quiet :).trans (counters.trans same)
  · have track : v.mvt = ((s.retimed i x k es).modRun i fun y => y.dwellUntil n).mvt := (congrArg Prod.fst outline :)
    rw [State.seg, served.segs, track]
    rfl

/-! ### The amendment as a whole -/

/-- A computation for a run with new times that stands at a stop, by what it finds. -/
theorem recomputeRun_retimed (hx : s.runAt i = some x) (computable : x.computable = true)
    (failed : x.causes.departureFailed = false) :
    (x.state = .dwelling → (s.retimed i x k es).recomputeRun i = (s.retimed i x k es).applyRelease i (x.amend k es)
      ((s.releaseInputs (x.amend k es)).releaseTime s.now)) ∧
    (x.state = .held → (s.retimed i x k es).recomputeRun i =
      if (s.releaseInputs (x.amend k es)).limited ≤ (s.lck.clock : Int) then s.retimed i x k es
      else (s.retimed i x k es).returnToDwelling i (x.amend k es) (s.releaseInputs (x.amend k es)).limited.toNat) := by
  have inputs (hs : x.state ≠ .running) :
      (s.retimed i x k es).releaseInputs (x.amend k es) = s.releaseInputs (x.amend k es) :=
    releaseInputs_modRun hx hs (by exact hs) _
  have taken : (!(x.amend k es).computable || (x.amend k es).causes.departureFailed) = false := by
    rw [amend_computable, computable]
    exact failed
  refine ⟨fun hs => ?_, fun hs => ?_⟩
  · have state : (x.amend k es).state = .dwelling := hs
    simp only [State.recomputeRun, retimed_runAt hx, taken, state, inputs (by simp [hs])]
    rfl
  · have state : (x.amend k es).state = .held := hs
    simp only [State.recomputeRun, retimed_runAt hx, taken, state, inputs (by simp [hs])]
    rfl

/-- Without a computable release, or with a failed departure, a computation does nothing. -/
theorem recomputeRun_barred (hx : s.runAt i = some x)
    (barred : x.computable = false ∨ x.causes.departureFailed = true) :
    (s.retimed i x k es).recomputeRun i = s.retimed i x k es := by
  have skipped : (!(x.amend k es).computable || (x.amend k es).causes.departureFailed) = true := by
    rw [amend_computable]
    rcases barred with h | h
    · rw [h]; rfl
    · rw [show (x.amend k es).causes = x.causes from rfl, h, Bool.or_true]
  simp only [State.recomputeRun, retimed_runAt hx, skipped, if_true]

theorem amended_planned_eq (planned : x.state = .planned) :
    (s.retimed i x k es).amended i x (x.amend k es) =
      if (x.stopAt 1).map (·.schedDep) = ((x.amend k es).stopAt 1).map (·.schedDep) then s.retimed i x k es
      else ((s.retimed i x k es).modRun i fun y => y.replaced (s.placementTime (x.amend k es)) s.now).evalHorizon := by
  rw [State.amended, if_pos planned]
  rfl

theorem amended_other_eq (planned : x.state ≠ .planned) :
    (s.retimed i x k es).amended i x (x.amend k es) =
      if x.waitsAtStop = true ∧ x.curDep ≠ (x.amend k es).curDep then (s.retimed i x k es).recomputeRun i
      else s.retimed i x k es := by
  rw [State.amended, if_neg planned]
  rfl

/-- What an amendment leaves, by the state of the run and what of its times has moved. -/
theorem amend_leaves (hx : s.runAt i = some x) (k : Nat) (es : List (Option Nat × Option Nat)) : ∃ y,
    Amended s (((s.retimed i x k es).amended i x (x.amend k es)).serveLeft s) i x (x.amend k es) y := by
  by_cases planned : x.state = .planned
  · rw [amended_planned_eq planned]
    split
    · next same =>
      rw [serveLeft_of_tpc (s := s) (t := s.retimed i x k es) rfl]
      exact ⟨_, amended_idle hx (fun _ => same.symm) fun h => by simp [planned] at h⟩
    · next moved =>
      obtain ⟨n, a, l, he⟩ := evalHorizon_eq ((s.retimed i x k es).modRun i fun y =>
        y.replaced (s.placementTime (x.amend k es)) s.now)
      rw [serveLeft_of_tpc (s := s) (by rw [he]; rfl)]
      exact ⟨_, amended_planned hx planned fun h => moved h.symm⟩
  · have waiting : x.waitsAtStop = true ↔ x.state = .dwelling ∨ x.state = .held := by simp [Run.waitsAtStop]
    have idle := amended_idle (k := k) (es := es) hx (fun h => absurd h planned)
    have kept : (s.retimed i x k es).serveLeft s = s.retimed i x k es := serveLeft_of_tpc rfl
    rw [amended_other_eq planned]
    split
    · next moved =>
      obtain ⟨waits, dep⟩ := moved
      by_cases barred : x.computable = false ∨ x.causes.departureFailed = true
      · rw [recomputeRun_barred hx barred, kept]
        exact ⟨_, idle fun _ => .inr (barred.imp_right .inl)⟩
      · obtain ⟨computable, failed⟩ : x.computable = true ∧ x.causes.departureFailed = false := by
          simpa [not_or] using barred
        obtain ⟨dwells, holds⟩ := recomputeRun_retimed (k := k) (es := es) hx computable failed
        rcases waiting.1 waits with hs | hs
        · obtain ⟨y, done⟩ := amended_dwelling hx hs computable failed (Ne.symm dep)
          rw [dwells hs, serveLeft_of_tpc (s := s)
            ((tpc_of_quiet (applyRelease_quiet (s.retimed i x k es) i _ _)).trans rfl)]
          exact ⟨y, done⟩
        · rw [holds hs]
          split
          · next reached =>
            rw [kept]
            exact ⟨_, idle fun _ => .inr (.inr (.inr ⟨hs, reached⟩))⟩
          · next ahead => exact amended_held hx hs computable failed (Ne.symm dep) ahead
    · next still =>
      rw [kept]
      refine ⟨_, idle fun h => .inl ?_⟩
      by_contra dep
      exact still ⟨waiting.2 h, Ne.symm dep⟩

/-! ### The command -/

theorem settleAmendRun_live (hl : s.resolveRun r.principal = .live i) (hx : s.runAt i = some x) :
    settleAmendRun r s = thenServe s (s.settleAmend r i x) := congrArg (thenServe s) (withRun_live hl hx)

section
variable (hp : Passes s .amendRun r) (hl : s.resolveRun r.principal = .live i) (hx : s.runAt i = some x)
include hp hl hx

/-- A refusal by the run, its stops or the times. -/
theorem exec_amendRun_refused (he : BetweenEvents s) {code : AnswerCode}
    (h : (s.recordRequest ReqKind.amendRun.code r).settleAmend r i x =
      (s.recordRequest ReqKind.amendRun.code r).reply code) :
    exec (.amendRun r) s = .next (answered s .amendRun r code r.principal []) :=
  next_replyNamed hp he rfl ((settleAmendRun_live (s := s.recordRequest _ r) hl hx).trans
    ((congrArg (thenServe _) h).trans (thenServe_reply ..)))

/-- An amendment that fits is made. -/
theorem exec_amendRun_made (hb : r.amend = some (k, es)) (fits : AmendmentFits x k es) : ∃ t u y,
    exec (.amendRun r) s = .next t ∧ Answers s t .amendRun r .ok r.principal [] ∧ Steady s t ∧ SameBlocks t u ∧
      t.crp.notices = u.crp.notices ∧ Amended (s.recordRequest ReqKind.amendRun.code r) u i x (x.amend k es) y := by
  obtain ⟨notTerminated, notCancelled, low, high, fit, order, amendable, changed⟩ := fits
  obtain ⟨y, done⟩ := amend_leaves (s := s.recordRequest ReqKind.amendRun.code r) hx k es
  have settled := (settleAmendRun_live (s := s.recordRequest ReqKind.amendRun.code r) hl hx).trans (congrArg (thenServe _)
    (settleAmend_made (s := s.recordRequest ReqKind.amendRun.code r) (i := i) (by simp [notTerminated, notCancelled]) hb
      (by omega) fit order amendable changed))
  obtain ⟨t, ht, answers, steady, same, final⟩ := next_done hp rfl settled
    ((serveLeft_kept ..).trans (amended_kept ..))
  exact ⟨t, _, y, ht, answers, steady, same, by rw [final, finish_crp, writeAnswer_notices], done⟩

end

/-- Settles O30: the refusals in the order of the conditions, and what a made amendment leaves. -/
theorem runAmended : Obligations.RunAmended := by
  refine fun s r i x he hp hl hx => ⟨fun ended => ?_, fun notTerminated notCancelled => ⟨fun unreadable => ?_,
    fun k es hb => ?_⟩⟩
  · refine exec_amendRun_refused hp hl hx he ?_
    rw [State.settleAmend, if_pos ended]
  · refine exec_amendRun_refused hp hl hx he ?_
    simp only [State.settleAmend, unreadable, notTerminated, notCancelled, or_self, if_false]
  · have open_ : ¬ (x.state = .terminated ∨ x.state = .cancelled) := by simp [notTerminated, notCancelled]
    have named (low : 1 ≤ k) (high : k + es.length - 1 ≤ x.count)
        (fit : ∀ j e st, es[j]? = some e → x.stopAt (k + j) = some st →
          timesFit x.count (k + j) st.kind e.1 e.2 = true) : timesAllFit x k es := fun j e hj => by
      obtain ⟨st, hst⟩ := stopAt_named low high hj
      exact ⟨st, hst, fit j e st hj hst⟩
    refine ⟨fun range => ?_, fun low high bad => ?_, fun low high fit order => ⟨fun arrived => ?_,
      fun amendable same => ?_⟩, fun fits => ?_⟩
    · exact exec_amendRun_refused hp hl hx he (settleAmend_range open_ hb range)
    · refine exec_amendRun_refused hp hl hx he (settleAmend_times open_ hb (by omega) (bad.imp_left ?_))
      rintro ⟨j, e, st, hj, hst, misfit⟩ fit
      obtain ⟨st', hst', fits⟩ := fit j e hj
      obtain rfl : st = st' := Option.some.inj (hst.symm.trans hst')
      simp [misfit] at fits
    · exact exec_amendRun_refused hp hl hx he
        (settleAmend_arrived open_ hb (by omega) (named low high fit) order arrived)
    · exact exec_amendRun_refused hp hl hx he
        (settleAmend_same open_ hb (by omega) (named low high fit) order amendable same)
    · obtain ⟨t, u, y, ht, answers, steady, same, notices, done⟩ := exec_amendRun_made hp hl hx hb fits
      have posted {l : List (Notice × Recipients)} (h : Posted s u l) : Posted s t l := fun c z hz => by
        rw [notices]; exact h c z hz
      have rtb := same.rtb
      refine ⟨t, y, ht, answers, steady, (same.runAt i).trans done.run, done.plan, done.number, done.cur, done.planned,
        fun hs hd => ?_, fun hs service hd => ?_, done.releases, done.stays, done.computed, fun j hj => ?_, ?_, fun g => ?_⟩
      · obtain ⟨waiting, count, none⟩ := done.unmoved hs hd
        exact ⟨waiting, by rw [rtb]; exact count, posted none⟩
      · obtain ⟨waiting, count, low⟩ := done.moved hs service hd
        rw [same.horizon, rtb]
        exact ⟨waiting, count, posted low⟩
      · rw [same.runAt]; exact done.others j hj
      · rw [rtb]; exact done.counters
      · rw [same.seg]; exact done.segs g

end Sys2Proof.Machine
end

/-! ## What the regulator's work leaves of the track and of the incident table (R76 to R113) -/

section
namespace Sys2Proof.Machine
variable {s t : State}

/-! ### The ground of an event -/

/-- The track and the incident table, without the announcements linked to incidents: the ground on which the regulator,
the wait queues and the announcements work. -/
def State.ground (s : State) : Mvt × Itb := (s.quiet.mvt, s.quiet.itb)

theorem ground_of_quiet (h : t.quiet = s.quiet) : t.ground = s.ground := by rw [State.ground, h]; rfl

theorem mvt_of_ground (h : t.ground = s.ground) : t.mvt = s.mvt := (congrArg Prod.fst h :)

@[simp] theorem onLds_ground (s : State) (f : Lds → Lds) : (s.onLds f).ground = s.ground := rfl
@[simp] theorem onLck_ground (s : State) (f : Lck → Lck) : (s.onLck f).ground = s.ground := rfl
@[simp] theorem onRtb_ground (s : State) (f : Rtb → Rtb) : (s.onRtb f).ground = s.ground := rfl
@[simp] theorem onDrg_ground (s : State) (f : Drg → Drg) : (s.onDrg f).ground = s.ground := rfl
@[simp] theorem onTpc_ground (s : State) (f : Tpc → Tpc) : (s.onTpc f).ground = s.ground := rfl
@[simp] theorem onPiu_ground (s : State) (f : Piu → Piu) : (s.onPiu f).ground = s.ground := rfl
@[simp] theorem onCrp_ground (s : State) (f : Crp → Crp) : (s.onCrp f).ground = s.ground := rfl
@[simp] theorem onFli_ground (s : State) (f : Fli → Fli) : (s.onFli f).ground = s.ground := rfl
@[simp] theorem modRun_ground (s : State) (i : Nat) (f : Run → Run) : (s.modRun i f).ground = s.ground := rfl
@[simp] theorem modReg_ground (s : State) (i : Nat) (f : RegRec → RegRec) : (s.modReg i f).ground = s.ground := rfl
@[simp] theorem modArbiter_ground (s : State) (m : Nat) (f : Arbiter → Arbiter) :
    (s.modArbiter m f).ground = s.ground := rfl
@[simp] theorem modSub_ground (s : State) (k : Nat) (f : SubLive → SubLive) : (s.modSub k f).ground = s.ground := rfl
@[simp] theorem modSec_ground (s : State) (k : Nat) (f : SecLive → SecLive) : (s.modSec k f).ground = s.ground := rfl
@[simp] theorem putClaim_ground (s : State) (i : Nat) (c : Option Claim) : (s.putClaim i c).ground = s.ground := rfl
@[simp] theorem modAnn_ground (s : State) (i : Nat) (f : Announcement → Announcement) :
    (s.modAnn i f).ground = s.ground := rfl
@[simp] theorem modChan_ground (s : State) (c : Nat) (f : Channel → Channel) : (s.modChan c f).ground = s.ground := rfl
@[simp] theorem markBoard_ground (s : State) (p : Nat) : (s.markBoard p).ground = s.ground := rfl
@[simp] theorem markAllBoards_ground (s : State) : s.markAllBoards.ground = s.ground := rfl
@[simp] theorem order_ground (s : State) (o : Order) : (s.order o).ground = s.ground := rfl
@[simp] theorem countUnmatched_ground (s : State) : s.countUnmatched.ground = s.ground := rfl
@[simp] theorem received_ground (s : State) (n : Nat) : (s.received n).ground = s.ground := rfl

@[simp] theorem ite_ground (p : Prop) [Decidable p] (a b : State) :
    (if p then a else b).ground = if p then a.ground else b.ground := by split <;> rfl

/-- A fold leaves the ground that its step leaves. -/
theorem foldl_ground {α : Type} {f : State → α → State} (h : ∀ t a, (f t a).ground = t.ground) (l : List α)
    (s : State) : (l.foldl f s).ground = s.ground := foldl_same State.ground f h l s

@[simp] theorem postTo_ground (s : State) (n : Notice) (c : Nat) : (s.postTo n c).ground = s.ground := by
  simp [State.postTo]

@[simp] theorem postWhere_ground (s : State) (n : Notice) (p : Client → Bool) : (s.postWhere n p).ground = s.ground :=
  foldl_ground (fun t c => by simp) _ s

@[simp] theorem postDesk_ground (s : State) (d h : Nat) : (s.postDesk d h).ground = s.ground := postWhere_ground ..

@[simp] theorem postLineEvent_ground (s : State) (e : LineEvent) : (s.postLineEvent e).ground = s.ground :=
  postWhere_ground ..

@[simp] theorem finish_ground (s : State) : s.finish.ground = s.ground := by simp [State.ground, State.quiet]

/-! ### Announcements (R149 to R168) -/

@[simp] theorem withdrawAll_ground (s : State) (hs : List Nat) : (s.withdrawAll hs).ground = s.ground :=
  ground_of_quiet ((Played.refl s).withdrawAll hs).quiet

@[simp] theorem withdraw_ground (s : State) (h : Nat) : (s.withdraw h).ground = s.ground :=
  ground_of_quiet ((Played.refl s).withdrawServing [] h).quiet

@[simp] theorem endAndServe_ground (s : State) (i : Nat) (why : EndReason) : (s.endAndServe i why).ground = s.ground :=
  ground_of_quiet ((Played.refl s).endServing [] i why).quiet

@[simp] theorem occurrenceDone_ground (s : State) (i : Nat) : (s.occurrenceDone i).ground = s.ground :=
  ground_of_quiet ((Played.refl s).occurrenceDone i).quiet

@[simp] theorem serveChannel_ground (s : State) (c : Nat) : (s.serveChannel c).ground = s.ground :=
  ground_of_quiet ((Played.refl s).serveChannel c).quiet

@[simp] theorem serveOrHalt_ground (s : State) (c : Nat) : (s.serveOrHalt c).ground = s.ground :=
  ground_of_quiet ((Played.refl s).serveOrHalt c).quiet

@[simp] theorem enqueue_ground (s : State) (h c due : Nat) : (s.enqueue h c due).ground = s.ground :=
  ground_of_quiet ((Played.refl s).enqueue h c due).quiet

@[simp] theorem markRun_ground (s : State) (i : Nat) (r : Run) : (s.markRun i r).ground = s.ground :=
  foldl_ground (fun t p => by simp) _ _

@[simp] theorem endRun_ground (s : State) (i : Nat) : (s.endRun i).ground = s.ground := by
  unfold State.endRun
  split <;> simp

@[simp] theorem createAnn_ground (s : State) (x : AnnSpec) (o : Owner) (inc run : Option Nat) :
    (s.createAnn x o inc run).1.ground = s.ground := by
  unfold State.createAnn
  split <;> simp

@[simp] theorem startAnn_ground (s : State) (h : Nat) : (s.startAnn h).ground = s.ground := by
  unfold State.startAnn
  split <;> simp

@[simp] theorem postDelay_ground (s : State) (i : Nat) (r : Run) : (s.postDelay i r).ground = s.ground := by
  have created := createAnn_ground s (s.delaySpec (s.runHandle i)) .engine none (some (s.runHandle i))
  simp only [State.postDelay]
  split
  · rfl
  · split <;> rename_i made <;> rw [made] at created <;> simpa using created

@[simp] theorem compareDelay_ground (s : State) (i : Nat) (late : Int) : (s.compareDelay i late).ground = s.ground := by
  simp only [State.compareDelay]
  split
  · rfl
  · split <;> simp

/-! ### Claims, merges and gates (R82, R95, R96, R105, R109) -/

@[simp] theorem recordClaim_ground (s : State) (i sub sec cost : Nat) :
    (s.recordClaim i sub sec cost).ground = s.ground := rfl

@[simp] theorem returnClaim_ground (s : State) (i : Nat) : (s.returnClaim i).ground = s.ground := by
  unfold State.returnClaim
  split <;> rfl

@[simp] theorem returnClaims_ground (s : State) (sec : Nat) : (s.returnClaims sec).ground = s.ground :=
  foldl_ground returnClaim_ground _ s

@[simp] theorem leaveQueues_ground (s : State) (h : Nat) : (s.leaveQueues h).ground = s.ground :=
  foldl_ground (fun t k => modSub_ground t k _) _ s

@[simp] theorem nameHolder_ground (s : State) (m i : Nat) : (s.nameHolder m i).ground = s.ground := by
  simp [State.nameHolder]

@[simp] theorem chooseHolder_ground (s : State) (m : Nat) : (s.chooseHolder m).ground = s.ground := by
  unfold State.chooseHolder
  split
  · split <;> simp
  · rfl

@[simp] theorem loseHolderAt_ground (s : State) (h m : Nat) : (s.loseHolderAt h m).ground = s.ground := by
  simp [State.loseHolderAt]

@[simp] theorem loseHolder_ground (s : State) (h : Nat) : (s.loseHolder h).ground = s.ground :=
  foldl_ground (fun t m => loseHolderAt_ground t h m) _ s

@[simp] theorem settleMerge_ground (s : State) (i : Nat) : (s.settleMerge i).ground = s.ground := by
  unfold State.settleMerge
  split
  · split
    · split <;> simp
    · rfl
  · rfl

@[simp] theorem settleMerges_ground (t s : State) (l : List Nat) : (t.settleMerges s l).ground = t.ground :=
  foldl_ground (fun u i => by simp) _ t

@[simp] theorem dropSpanlessHolder_ground (s : State) (m : Nat) : (s.dropSpanlessHolder m).ground = s.ground := by
  unfold State.dropSpanlessHolder
  split <;> simp

@[simp] theorem evalMerge_ground (s : State) (i : Nat) (r : Run) (others : Bool) :
    (s.evalMerge i r others).1.ground = s.ground := by
  simp only [State.evalMerge]
  (repeat' split) <;> simp

@[simp] theorem gates_ground (s : State) (i : Nat) (r : Run) : (s.gates i r).1.ground = s.ground :=
  evalMerge_ground ..

@[simp] theorem holdFor_ground (s : State) (i : Nat) (g : Causes) : (s.holdFor i g).ground = s.ground := by
  simp [State.holdFor]

@[simp] theorem lowerReleased_ground (s : State) : s.lowerReleased.ground = s.ground := by
  simp only [State.lowerReleased]
  split <;> simp

@[simp] theorem leaveRegulation_ground (s : State) (i : Nat) : (s.leaveRegulation i).ground = s.ground := by
  simp [State.leaveRegulation]

@[simp] theorem revoke_ground (s : State) (i : Nat) : (s.revoke i).ground = s.ground := by
  unfold State.revoke
  split <;> rfl

/-! ### Rechecks (R84, R85) -/

@[simp] theorem recheckWaiting_ground (s : State) (i : Nat) (r : Run) : (s.recheckWaiting i r).ground = s.ground := by
  simp [State.recheckWaiting]

@[simp] theorem recheckRun_ground (mask : Causes) (s : State) (i : Nat) :
    (State.recheckRun mask s i).ground = s.ground := by
  simp only [State.recheckRun]
  split
  · rfl
  · (repeat' split) <;> simp

@[simp] theorem recheck_ground (s : State) (mask : Causes) (l : List Nat) : (s.recheck mask l).ground = s.ground :=
  (settleMerges_ground ..).trans (foldl_ground (recheckRun_ground mask) l s)

@[simp] theorem recheckRestriction_ground (s : State) (l : List Nat) : (s.recheckRestriction l).ground = s.ground :=
  recheck_ground ..

@[simp] theorem recheckSection_ground (s : State) (sec : Nat) : (s.recheckSection sec).ground = s.ground :=
  recheck_ground ..

@[simp] theorem recheckCapacity_ground (s : State) (g : Nat) : (s.recheckCapacity g).ground = s.ground :=
  recheck_ground ..

@[simp] theorem spansChanged_ground (s : State) (l : List Nat) : (s.spansChanged l).ground = s.ground :=
  (foldl_ground dropSpanlessHolder_ground _ _).trans (recheck_ground ..)

/-! ### Release times (R76 to R80) -/

@[simp] theorem applyRelease_ground (s : State) (i : Nat) (r : Run) (n : Nat) :
    (s.applyRelease i r n).ground = s.ground := by
  simp [State.applyRelease]

@[simp] theorem computeRelease_ground (s : State) (i : Nat) : (s.computeRelease i).ground = s.ground := by
  unfold State.computeRelease
  split <;> simp

@[simp] theorem recomputeRun_ground (s : State) (i : Nat) : (s.recomputeRun i).ground = s.ground := by
  unfold State.recomputeRun State.returnToDwelling
  (repeat' split) <;> simp

@[simp] theorem recompute_ground (s : State) (l : List Nat) : (s.recompute l).ground = s.ground :=
  foldl_ground recomputeRun_ground l s

@[simp] theorem recomputeAll_ground (s : State) : s.recomputeAll.ground = s.ground := recompute_ground ..

@[simp] theorem followerChange_ground (s : State) (p : Nat) : (s.followerChange p).ground = s.ground := by
  simp [State.followerChange]

@[simp] theorem queueChanged_ground (s : State) (g : Nat) : (s.queueChanged g).ground = s.ground := by
  simp [State.queueChanged]

@[simp] theorem staleChanged_ground (s : State) (e : LineEvent) : (s.staleChanged e).ground = s.ground := by
  simp [State.staleChanged]

@[simp] theorem evalHorizon_ground (s : State) : s.evalHorizon.ground = s.ground := by
  simp [State.evalHorizon]

@[simp] theorem countDeparture_ground (s : State) (i : Nat) (r : Run) (k : Nat) :
    (s.countDeparture i r k).ground = s.ground := by
  unfold State.countDeparture
  split
  · rfl
  · split <;> rfl

@[simp] theorem startClaimTimer_ground (s : State) (i : Nat) (r : Run) : (s.startClaimTimer i r).ground = s.ground := by
  unfold State.startClaimTimer
  split <;> rfl

end Sys2Proof.Machine
end

/-! ## Segment queues and merge order lists stay within their bounds (R55, R56, R59) -/

section
namespace Sys2Proof.Machine
variable {s t : State}

/-! ### The bounds, said of the track -/

/-- The bounds of the segment queues and the merge order lists, said of the Movement Tracker's record. -/
def Mvt.Bounded (m : Mvt) : Prop :=
  (∀ g, ((get1 m.segs g).getD ⟨[], 0, []⟩).queue.length ≤ 8) ∧
    ∀ k, ((get1 m.mergeLists k).getD []).length ≤ 8 ∧ ((get1 m.mergeLists k).getD []).Nodup

/-- Sublists of bounded queues and order lists are bounded. -/
theorem bounded_of_sublist (h : s.ground.1.Bounded) (hq : ∀ g, (t.seg g).queue.Sublist (s.seg g).queue)
    (hl : ∀ m, (t.mergeList m).Sublist (s.mergeList m)) : t.ground.1.Bounded :=
  ⟨fun g => (hq g).length_le.trans (h.1 g), fun m => ⟨(hl m).length_le.trans (h.2 m).1, (h.2 m).2.sublist (hl m)⟩⟩

/-- A fold keeps the bounds that its step keeps. -/
theorem foldl_bounded {α : Type} {f : State → α → State} (hf : ∀ t a, t.ground.1.Bounded → (f t a).ground.1.Bounded)
    (h : s.ground.1.Bounded) (l : List α) : (l.foldl f s).ground.1.Bounded := by
  induction l generalizing s with
  | nil => exact h
  | cons a l ih => exact ih (hf s a h)

/-! ### Changes of the track -/

theorem modSeg_queue_sublist (s : State) (i g : Nat) {f : SegLive → SegLive}
    (hf : ∀ x, (f x).queue.Sublist x.queue) : ((s.modSeg i f).seg g).queue.Sublist (s.seg g).queue := by
  rw [modSeg_seg]
  split
  · simp only [State.seg]
    cases get1 s.mvt.segs g with
    | none => exact .refl _
    | some x => exact hf x
  · exact .refl _

theorem modMergeList_sublist (s : State) (m n : Nat) {f : List Nat → List Nat} (hf : ∀ l, (f l).Sublist l) :
    ((s.modMergeList m f).mergeList n).Sublist (s.mergeList n) := by
  rw [modMergeList_mergeList]
  split
  · simp only [State.mergeList]
    cases get1 s.mvt.mergeLists n with
    | none => exact .refl _
    | some l => exact hf l
  · exact .refl _

theorem modSeg_bounded (h : s.ground.1.Bounded) (i : Nat) {f : SegLive → SegLive}
    (hf : ∀ x, (f x).queue.Sublist x.queue) : (s.modSeg i f).ground.1.Bounded :=
  bounded_of_sublist h (fun g => modSeg_queue_sublist s i g hf) fun _ => .refl _

theorem modMergeList_bounded (h : s.ground.1.Bounded) (m : Nat) {f : List Nat → List Nat} (hf : ∀ l, (f l).Sublist l) :
    (s.modMergeList m f).ground.1.Bounded :=
  bounded_of_sublist h (fun _ => .refl _) fun n => modMergeList_sublist s m n hf

@[simp] theorem modTp_bounded (p : Nat) (f : TpLive → TpLive) :
    (s.modTp p f).ground.1.Bounded ↔ s.ground.1.Bounded := Iff.rfl

@[simp] theorem leaveSegment_bounded (h : s.ground.1.Bounded) (g k : Nat) : (s.leaveSegment g k).ground.1.Bounded :=
  modSeg_bounded h g fun _ => List.filter_sublist

/-- A run enters a queue that is not full (R55, R59). -/
theorem enterSegment_bounded (h : s.ground.1.Bounded) {g : Nat} (room : s.segmentFull g = false) (k : Nat) :
    (s.enterSegment g k).ground.1.Bounded := by
  refine ⟨fun q => ?_, h.2⟩
  show ((s.enterSegment g k).seg q).queue.length ≤ 8
  rw [State.enterSegment, modSeg_seg]
  split
  · next e =>
    subst e
    have short : (s.seg g).queue.length < 8 := not_le.1 (of_decide_eq_false room)
    simp only [State.seg] at short ⊢
    cases hg : get1 s.mvt.segs g with
    | none => simp
    | some x => simpa [hg] using short
  · exact h.1 q

/-- A grant joins an order list that has room and does not hold it (R56). -/
theorem appendGrant_bounded (h : s.ground.1.Bounded) (m k : Nat)
    (room : (s.mergeList m).contains k = true ∨ s.mergeRoom m = true) :
    (s.modMergeList m fun l => if l.contains k then l else l ++ [k]).ground.1.Bounded := by
  refine ⟨h.1, fun n => ?_⟩
  show ((s.modMergeList m _).mergeList n).length ≤ 8 ∧ ((s.modMergeList m _).mergeList n).Nodup
  rw [modMergeList_mergeList]
  split
  · next e =>
    subst e
    obtain ⟨len, nodup⟩ := h.2 m
    cases hm : get1 s.mvt.mergeLists m with
    | none => simp
    | some l =>
      have list : s.mergeList m = l := by simp [State.mergeList, hm]
      change (s.mergeList m).length ≤ 8 at len
      change (s.mergeList m).Nodup at nodup
      rw [list] at len nodup
      by_cases held : k ∈ l
      · simpa [held] using ⟨len, nodup⟩
      · have short : l.length < 8 := by simpa [State.mergeRoom, list, held, Config.queueBound] using room
        have fresh : (l ++ [k]).Nodup := by
          simp only [List.nodup_append, List.nodup_singleton, List.mem_singleton, true_and, ne_eq]
          exact ⟨nodup, fun a ha b hb => by rw [hb]; exact fun e => held (e ▸ ha)⟩
        simpa [held] using ⟨short, fresh⟩
  · exact h.2 n

/-! ### Releases (R83, R91, R112) -/

@[simp] theorem recordGrant_bounded (h : s.ground.1.Bounded) (i : Nat) (r : Run) :
    (s.recordGrant i r).ground.1.Bounded := by
  unfold State.recordGrant
  dsimp only
  split
  · exact h
  · split
    · next room => simpa using appendGrant_bounded h _ _ room
    · exact h

@[simp] theorem completeRelease_bounded (h : s.ground.1.Bounded) (i : Nat) :
    (s.completeRelease i).ground.1.Bounded := by
  unfold State.completeRelease
  split
  · exact h
  · simp [h]

@[simp] theorem grantHead_bounded (h : s.ground.1.Bounded) (k : Nat) (e : WaitEntry) :
    (s.grantHead k e).ground.1.Bounded := by
  simp only [State.grantHead]
  split
  · refine completeRelease_bounded ?_ _
    simpa using h
  · exact h

theorem serveQueue_bounded (k n : Nat) (h : s.ground.1.Bounded) : (State.serveQueue k n s).ground.1.Bounded := by
  induction n generalizing s with
  | zero => exact h
  | succ n ih =>
    unfold State.serveQueue
    split
    · exact h
    · split
      · exact ih (grantHead_bounded h k _)
      · exact h

@[simp] theorem serveSub_bounded (h : s.ground.1.Bounded) (k : Nat) : (s.serveSub k).ground.1.Bounded :=
  serveQueue_bounded k _ h

@[simp] theorem serveLeft_bounded (h : t.ground.1.Bounded) (s : State) : (t.serveLeft s).ground.1.Bounded :=
  foldl_bounded (fun u k hu => by split <;> simp [hu]) h _

@[simp] theorem thenServe_bounded {x : Reply × State} (h : x.2.ground.1.Bounded) (s : State) :
    (thenServe s x).2.ground.1.Bounded := serveLeft_bounded h s

@[simp] theorem attempt_bounded (h : s.ground.1.Bounded) (i : Nat) : (s.attempt i).ground.1.Bounded := by
  simp only [State.attempt, State.askPower]
  split
  · exact h
  · split <;> simp [h]

@[simp] theorem forceRelease_bounded (h : s.ground.1.Bounded) (i : Nat) (r : Run) :
    (s.forceRelease i r).ground.1.Bounded := by
  simp only [State.forceRelease]
  split <;> simp [h]

@[simp] theorem withdrawGrant_bounded (h : s.ground.1.Bounded) (i : Nat) : (s.withdrawGrant i).ground.1.Bounded := by
  simp only [State.withdrawGrant]
  split
  · simpa using modMergeList_bounded h _ fun _ => List.filter_sublist
  · exact h

@[simp] theorem timeout_bounded (h : s.ground.1.Bounded) (i : Nat) : (s.timeout i).ground.1.Bounded := by
  simp [State.timeout, h]

/-! ### Placement, occupancy and cancellation (R38, R39, R43, R57) -/

@[simp] theorem placeRun_bounded (h : s.ground.1.Bounded) (i : Nat) : (s.placeRun i).ground.1.Bounded := by
  unfold State.placeRun State.occupy
  split <;> simp [h]

@[simp] theorem vacate_bounded (h : s.ground.1.Bounded) (p k : Nat) : (s.vacate p k).ground.1.Bounded := by
  simp only [State.vacate, State.clearOccupant]
  split
  · split <;> simp [h]
  · exact h

@[simp] theorem cancel_bounded (h : s.ground.1.Bounded) (i : Nat) (x : Run) : (s.cancel i x).ground.1.Bounded := by
  simp only [State.cancel, State.modCounters, endRun_ground]
  unfold State.cancelEffects
  cases x.state <;> simp [h]

/-! ### Incidents (R126, R131, R139 to R145) -/

@[simp] theorem onItb_track (s : State) (f : Itb → Itb) : (s.onItb f).ground.1 = s.ground.1 := rfl
@[simp] theorem modInc_track (s : State) (i : Nat) (f : Incident → Incident) :
    (s.modInc i f).ground.1 = s.ground.1 := rfl
@[simp] theorem modDesk_track (s : State) (d : Nat) (f : List Nat → List Nat) :
    (s.modDesk d f).ground.1 = s.ground.1 := rfl
@[simp] theorem retireIncSlot_track (s : State) (i : Nat) : (s.retireIncSlot i).ground.1 = s.ground.1 := rfl
@[simp] theorem linkBoth_track (s : State) (i j : Nat) : (s.linkBoth i j).ground.1 = s.ground.1 := rfl
@[simp] theorem unlinkBoth_track (s : State) (i j : Nat) : (s.unlinkBoth i j).ground.1 = s.ground.1 := rfl

theorem foldl_track {α : Type} {f : State → α → State} (h : ∀ t a, (f t a).ground.1 = t.ground.1) (l : List α)
    (s : State) : (l.foldl f s).ground.1 = s.ground.1 := foldl_same (fun t => t.ground.1) f h l s

@[simp] theorem raiseIn_track (s : State) (i : Nat) (x : RaiseSpec) : (s.raiseIn i x).ground.1 = s.ground.1 := by
  simp [State.raiseIn, State.placeOnDesk]

@[simp] theorem raiseAuto_track (s : State) (i : Nat) (c : AutoCause) (d : AutoDetail) (n : Nat) :
    (s.raiseAuto i c d n).ground.1 = s.ground.1 := by
  simp only [State.raiseAuto]
  split
  · split <;> simp
  · simp

@[simp] theorem requestAuto_track (s : State) (c : AutoCause) (d : AutoDetail) :
    (s.requestAuto c d).ground.1 = s.ground.1 := by
  unfold State.requestAuto State.enterPending
  split
  · rfl
  · split <;> simp

@[simp] theorem conflict_track (s : State) (h p : Nat) (k : ConflictKind) : (s.conflict h p k).ground.1 = s.ground.1 :=
  requestAuto_track ..

@[simp] theorem conflict?_track (s : State) (h p : Nat) (k : Option ConflictKind) :
    (s.conflict? h p k).ground.1 = s.ground.1 := by
  cases k <;> simp [State.conflict?]

@[simp] theorem raisePending_track (s : State) (i : Nat) : (s.raisePending i).ground.1 = s.ground.1 := by
  unfold State.raisePending
  split <;> simp

@[simp] theorem retireIncident_track (s : State) (i : Nat) (x : Incident) :
    (s.retireIncident i x).ground.1 = s.ground.1 := by
  simp only [State.retireIncident, raisePending_track, retireIncSlot_track]
  exact foldl_track (fun t h => by unfold State.forgetIncident; split <;> rfl) _ _

@[simp] theorem offDesk_track (s : State) (i d : Nat) : (s.offDesk i d).ground.1 = s.ground.1 := by
  simp [State.offDesk, State.leaveDesk]

@[simp] theorem acknowledge_track (s : State) (i c d : Nat) : (s.acknowledge i c d).ground.1 = s.ground.1 := by
  simp [State.acknowledge]

@[simp] theorem escalate_track (s : State) (i : Nat) (x : Incident) : (s.escalate i x).ground.1 = s.ground.1 := by
  simp [State.escalate, State.placeOnDesk]

@[simp] theorem goOverdue_track (s : State) (i : Nat) (x : Incident) : (s.goOverdue i x).ground.1 = s.ground.1 := by
  simp only [State.goOverdue, State.placeOnDesk, State.leaveDesk]
  split <;> simp

@[simp] theorem postForIncident_track (s : State) (i : Nat) (x : AnnSpec) (o : Owner) :
    (s.postForIncident i x o).1.ground.1 = s.ground.1 := by
  have created := createAnn_ground s x o (some (s.incHandle i)) none
  unfold State.postForIncident
  split
  · rfl
  · split <;> rename_i made <;> rw [made] at created <;> simp_all

/-! ### Sections, feeders and restrictions (R102, R110 to R119, R136 to R138) -/

@[simp] theorem moveSection_ground (s : State) (k : Nat) (x : SecState) : (s.moveSection k x).ground = s.ground := by
  simp [State.moveSection, State.setSection]

@[simp] theorem forceOut_ground (s : State) (k : Nat) (x : SecState) : (s.forceOut k x).ground = s.ground := by
  simp [State.forceOut]

@[simp] theorem startDrain_ground (s : State) (k : Nat) : (s.startDrain k).ground = s.ground := by
  simp [State.startDrain]

@[simp] theorem referenceAdded_ground (s : State) (k : Nat) : (s.referenceAdded k).ground = s.ground := by
  simp only [State.referenceAdded, State.orderOpen]
  split
  · rfl
  · split <;> simp

@[simp] theorem referenceRemoved_ground (s : State) (k : Nat) : (s.referenceRemoved k).ground = s.ground := by
  simp only [State.referenceRemoved, State.stopDrain]
  split
  · split <;> simp
  · rfl

@[simp] theorem addReference_ground (s : State) (k : Nat) : (s.addReference k).ground = s.ground := by
  simp [State.addReference]

@[simp] theorem removeReference_ground (s : State) (k : Nat) : (s.removeReference k).ground = s.ground := by
  simp [State.removeReference]

@[simp] theorem switchFeeders_ground (s : State) (before : List Nat) : (s.switchFeeders before).ground = s.ground :=
  foldl_ground (fun t k => by simp only [State.switchSection]; split <;> rfl) _ s

@[simp] theorem supplyChanged_bounded (h : s.ground.1.Bounded) (k : Nat) (x : SupplyState) :
    (s.supplyChanged k x).ground.1.Bounded := by
  refine foldl_bounded (fun u j hu => ?_) (serveSub_bounded (by simpa using h) k) _
  split <;> simp [hu]

theorem modSegs_bounded (h : s.ground.1.Bounded) (l : List Nat) {f : SegLive → SegLive}
    (hf : ∀ x, (f x).queue = x.queue) : (s.modSegs l f).ground.1.Bounded :=
  foldl_bounded (fun _ g ht => modSeg_bounded ht g fun x => by rw [hf]) h l

@[simp] theorem changeHold_bounded (h : s.ground.1.Bounded) (f : Nat → Nat) (l : List Nat) :
    (s.changeHold f l).ground.1.Bounded := by
  simpa [State.changeHold] using modSegs_bounded h l (f := fun g => { g with holdCount := f g.holdCount }) fun _ => rfl

@[simp] theorem changeSlow_bounded (h : s.ground.1.Bounded) (f : List SlowEntry → List SlowEntry) (l : List Nat) :
    (s.changeSlow f l).ground.1.Bounded :=
  foldl_bounded (fun u g hu => by simpa using hu)
    (modSegs_bounded h l (f := fun g => { g with slow := f g.slow }) fun _ => rfl) _

@[simp] theorem remark_ground (s : State) (f : Run → Run) (l : List Nat) : (s.remark f l).ground = s.ground :=
  (spansChanged_ground ..).trans (foldl_ground (fun t i => modRun_ground t i f) _ s)

@[simp] theorem coverageFrom_ground (t s : State) : (t.coverageFrom s).ground = t.ground :=
  foldl_ground (fun u p => by simp [State.coverageChanged]) _ t

@[simp] theorem enforce_bounded (h : s.ground.1.Bounded) (before : State) (inc n : Nat) (x : RestrictionSpec) :
    (s.enforce before inc n x).ground.1.Bounded := by
  unfold State.enforce
  split
  · simp [h]
  · simp [h]
  · rw [foldl_ground addReference_ground]; exact h
  · simp [h]

@[simp] theorem relax_bounded (h : s.ground.1.Bounded) (before : State) (inc n : Nat) (x : RestrictionSpec) :
    (s.relax before inc n x).ground.1.Bounded := by
  unfold State.relax
  split
  · simp [h]
  · simp [h]
  · rw [foldl_ground removeReference_ground]; exact h
  · simp [h]

@[simp] theorem putInForce_bounded (h : s.ground.1.Bounded) (i n : Nat) (x : RestrictionSpec) :
    (s.putInForce i n x).ground.1.Bounded := by
  unfold State.putInForce
  refine enforce_bounded ?_ ..
  exact h

@[simp] theorem addRestriction_bounded (h : s.ground.1.Bounded) (i : Nat) (x : RestrictionSpec) :
    (State.addRestriction i s x).ground.1.Bounded := by
  unfold State.addRestriction
  split <;> simp [h]

@[simp] theorem lift_bounded (h : s.ground.1.Bounded) (i : Nat) (x : Restriction) :
    (State.lift i s x).ground.1.Bounded := by
  unfold State.lift
  refine relax_bounded ?_ ..
  exact h

@[simp] theorem clear_bounded (h : s.ground.1.Bounded) (i : Nat) (x : Incident) : (s.clear i x).ground.1.Bounded := by
  simp only [State.clear, modInc_track, withdrawAll_ground]
  refine foldl_bounded (fun t y ht => lift_bounded ht i y) ?_ _
  split <;> simp [h]

@[simp] theorem raise_bounded (h : s.ground.1.Bounded) (i : Nat) (b : RaiseBody) (c : Nat) :
    (s.raise i b c).1.ground.1.Bounded := by
  have linked : ((b.runs.foldl (State.linkHandle i) (b.restrictions.foldl (State.addRestriction i)
      (s.raiseIn i ⟨b.kind, b.severity, .client c, none, none, 1⟩)))).ground.1.Bounded := by
    rw [foldl_track fun t k => by unfold State.linkHandle; split <;> simp]
    exact foldl_bounded (fun t x ht => addRestriction_bounded ht i x) (by simpa using h) _
  simp only [State.raise]
  split
  · simpa using linked
  · exact linked

/-! ### Movement reports (R55 to R66) -/

@[simp] theorem leaveMerges_bounded (h : s.ground.1.Bounded) (r : Run) (a b i : Nat) :
    (s.leaveMerges r a b i).ground.1.Bounded := by
  refine foldl_bounded (fun t m ht => ?_) h _
  simp only [State.leaveMerge]
  split
  · simpa using modMergeList_bounded ht m fun _ => List.filter_sublist
  · exact ht

@[simp] theorem leaveEveryMerge_bounded (h : s.ground.1.Bounded) (i : Nat) :
    (s.leaveEveryMerge i).ground.1.Bounded := by
  simp only [State.leaveEveryMerge, modReg_ground]
  exact foldl_bounded (fun t m ht => modMergeList_bounded ht m fun _ => List.filter_sublist) h _

@[simp] theorem arriveDwelling_bounded (h : s.ground.1.Bounded) (i m : Nat) (r : Run) :
    (s.arriveDwelling i m r).ground.1.Bounded := by
  simp [State.arriveDwelling, State.reachStop, State.occupy, h]

@[simp] theorem arriveTerminal_bounded (h : s.ground.1.Bounded) (i m : Nat) (r : Run) :
    (s.arriveTerminal i m r).ground.1.Bounded := by
  simp only [State.arriveTerminal, State.reachStop]
  split <;> simp [h]

theorem arrivedOnTrack_bounded (h : s.ground.1.Bounded) (i : Nat) (r : Run) (p : Nat) :
    (s.arrivedOnTrack i r p).ground.1.Bounded := by
  simp only [State.arrivedOnTrack]
  split
  · split <;> simp [h]
  · (repeat' split) <;> simp [h]

theorem settleArrived_bounded (h : s.ground.1.Bounded) (i : Nat) (r : Run) (p : Nat) :
    (s.settleArrived i r p).ground.1.Bounded := by
  unfold State.settleArrived State.arrivedPlanned
  have taken := arrivedOnTrack_bounded h i r p
  cases r.state with
  | planned =>
    dsimp only
    split
    · simp [h]
    · split <;> simp [h]
  | dwelling | held | released => dsimp only; split <;> simp [h]
  | running => exact taken
  | cancelled =>
    dsimp only
    split
    · exact taken
    · simp [h]
  | terminated => simp [h]

/-- A departure into a segment whose queue is not full (R55, R59). -/
theorem departInto_bounded (h : s.ground.1.Bounded) {g : Nat} (room : s.segmentFull g = false) (i k : Nat)
    (st : RunState) : (s.departInto i k g st).ground.1.Bounded :=
  enterSegment_bounded h room _

theorem departReleased_bounded (h : s.ground.1.Bounded) (i : Nat) (r : Run) (p : Nat) :
    (s.departReleased i r p).ground.1.Bounded := by
  simp only [State.departReleased]
  split
  · simp [h]
  · next full =>
    have entered := departInto_bounded h (Bool.eq_false_iff.2 full) i r.cur .running
    simp [State.stampDeparture, entered]

theorem departUnreleased_bounded (h : s.ground.1.Bounded) (i : Nat) (r : Run) (p : Nat) (stamps : Bool) :
    (s.departUnreleased i r p stamps).ground.1.Bounded := by
  simp only [State.departUnreleased]
  split
  · simp [h]
  · next full =>
    have entered := departInto_bounded h (Bool.eq_false_iff.2 full) i r.cur
      (if r.state = .cancelled then .cancelled else .running)
    have stamped {t : State} (ht : t.ground.1.Bounded) :
        (if stamps = true then t.stampDeparture p (s.runHandle i) else t).ground.1.Bounded := by split <;> exact ht
    have counted {t : State} (ht : t.ground.1.Bounded) : (if stamps = true ∧ r.state ≠ .cancelled then
        t.countDeparture i r r.cur else t).ground.1.Bounded := by simpa using ht
    simp only [conflict_track, queueChanged_ground]
    by_cases planned : r.state = .planned
    · simp only [if_pos planned, evalHorizon_ground]
      refine counted ?_
      rw [leaveRegulation_ground]
      exact stamped entered
    · simp only [if_neg planned]
      refine vacate_bounded (counted ?_) ..
      rw [leaveRegulation_ground]
      exact stamped entered

theorem settleDeparted_bounded (h : s.ground.1.Bounded) (i : Nat) (r : Run) (p : Nat) :
    (s.settleDeparted i r p).ground.1.Bounded := by
  have unreleased := departUnreleased_bounded h i r p true
  have released := departReleased_bounded h i r p
  unfold State.settleDeparted State.departedOnTrack
  cases r.state with
  | planned | dwelling | held => dsimp only; split <;> simp [h, unreleased]
  | released => dsimp only; split <;> simp [h, released]
  | running | terminated => dsimp only; split <;> simp [h]
  | cancelled => dsimp only; (repeat' split) <;> simp [h, unreleased]

theorem passThrough_bounded (h : s.ground.1.Bounded) (i m : Nat) {r : Run}
    (room : s.segmentFull (s.segmentAfter r m) = false) : (s.passThrough i m r).ground.1.Bounded := by
  have left : (s.leaveSegment ((s.queueOf (s.runHandle i)).getD 0) (s.runHandle i)).ground.1.Bounded :=
    leaveSegment_bounded h _ _
  have short : ((s.leaveSegment ((s.queueOf (s.runHandle i)).getD 0) (s.runHandle i)).leaveMerges r r.cur m
      i).segmentFull (s.segmentAfter r m) = false := by
    have seg : ((s.leaveSegment ((s.queueOf (s.runHandle i)).getD 0) (s.runHandle i)).leaveMerges r r.cur m i).seg
        (s.segmentAfter r m) = (s.leaveSegment ((s.queueOf (s.runHandle i)).getD 0) (s.runHandle i)).seg
        (s.segmentAfter r m) := by
      refine foldl_same (fun t => t.seg (s.segmentAfter r m)) _ (fun t l => ?_) _ _
      simp only [State.leaveMerge]
      split <;> rfl
    have fewer := (modSeg_queue_sublist s ((s.queueOf (s.runHandle i)).getD 0) (s.segmentAfter r m)
      (f := fun g => { g with queue := g.queue.filter (· != s.runHandle i) }) fun _ => List.filter_sublist).length_le
    have few : (s.seg (s.segmentAfter r m)).queue.length < 8 := not_le.1 (of_decide_eq_false room)
    simp only [State.segmentFull, seg, decide_eq_false_iff_not, not_le]
    exact fewer.trans_lt few
  simpa [State.passThrough] using enterSegment_bounded (leaveMerges_bounded left r r.cur m i) short (s.runHandle i)

theorem passedOnTrack_bounded (h : s.ground.1.Bounded) (i : Nat) (r : Run) (p : Nat) :
    (s.passedOnTrack i r p).ground.1.Bounded := by
  simp only [State.passedOnTrack]
  split
  · split <;> simp [h]
  · split
    · simp [h]
    · split
      · simp [h]
      · next full => simpa using passThrough_bounded h i _ (Bool.eq_false_iff.2 full)

theorem settlePassed_bounded (h : s.ground.1.Bounded) (i : Nat) (r : Run) (p : Nat) :
    (s.settlePassed i r p).ground.1.Bounded := by
  have left := departUnreleased_bounded h i r p false
  have passed := passedOnTrack_bounded h i r p
  unfold State.settlePassed
  cases r.state with
  | planned | cancelled => dsimp only; split <;> simp [h, left, passed]
  | running => exact passed
  | dwelling | held | released | terminated => simp [h]

@[simp] theorem restartStale_bounded (h : s.ground.1.Bounded) : s.restartStale.ground.1.Bounded := by
  have set : (s.onMvt fun m => { m with
      staleTimer := some (s.after s.lds.params.tStale), stale := false }).ground.1.Bounded := h
  simp only [State.restartStale]
  split <;> simp [set]

theorem takeMovement_bounded (h : s.ground.1.Bounded) (n p : Nat) {f : State → Nat → Run → Nat → State}
    (hf : ∀ t i r, t.ground.1.Bounded → (f t i r p).ground.1.Bounded) :
    (s.takeMovement n p f).ground.1.Bounded := by
  simp only [State.takeMovement]
  split
  · simp [h]
  · refine serveLeft_bounded ?_ s
    split
    · simp [h]
    · exact hf _ _ _ (restartStale_bounded h)

theorem staleExpiry_bounded (h : s.ground.1.Bounded) : s.staleExpiry.ground.1.Bounded := by
  have set : (s.onMvt fun m => { m with staleTimer := none, stale := true }).ground.1.Bounded := h
  simp only [State.staleExpiry]
  split <;> simp [set]

/-! ### The day and the mode (R15, R16, R26) -/

theorem fresh_bounded (n : Option Nat) : (Mvt.fresh n).Bounded := by
  refine ⟨fun g => ?_, fun k => ?_⟩
  · cases h : get1 (Mvt.fresh n).segs g with
    | none => simp
    | some x => obtain rfl := get1_replicate_some h; simp
  · cases h : get1 (Mvt.fresh n).mergeLists k with
    | none => simp
    | some l => obtain rfl := get1_replicate_some h; simp

theorem mvtRollover_bounded (m : Mvt) (n : Nat) : (m.rollover n).Bounded := by
  refine ⟨fun g => ?_, fun k => ?_⟩
  · simp only [Mvt.rollover, get1_map]
    cases get1 m.segs g <;> simp
  · cases h : get1 (m.rollover n).mergeLists k with
    | none => simp
    | some l => obtain rfl := get1_replicate_some h; simp

@[simp] theorem rolloverItb_track (s : State) (n : Nat) : (s.rolloverItb n).ground.1 = s.ground.1 := by
  simp only [State.rolloverItb]
  rw [foldl_track raisePending_track, foldl_track retireIncSlot_track]
  rfl

@[simp] theorem clearBoards_ground (s : State) : s.clearBoards.ground = s.ground := by
  simp only [State.clearBoards]
  rw [foldl_ground fun t p => by unfold State.orderBoard; split <;> rfl]
  rfl

@[simp] theorem rolloverDrg_ground (s : State) : s.rolloverDrg.ground = s.ground := by
  simp only [State.rolloverDrg]
  split <;> simp

@[simp] theorem rollover_bounded (h : s.ground.1.Bounded) (c : RolloverCause) (n : Nat) :
    (s.rollover c n).ground.1.Bounded := by
  unfold State.rollover
  split
  · simp only [State.rolloverService, postLineEvent_ground, evalHorizon_ground, clearBoards_ground, rolloverItb_track,
      onTpc_ground, rolloverDrg_ground]
    exact mvtRollover_bounded ..
  · exact h

@[simp] theorem enterService_bounded (s : State) : s.enterService.ground.1.Bounded := by
  rw [enterService_eq, evalHorizon_ground]
  exact fresh_bounded _

@[simp] theorem returnToSetup_bounded (s : State) : s.returnToSetup.ground.1.Bounded := by
  obtain ⟨l, hl⟩ := returnToSetup_eq s
  rw [hl]
  exact fresh_bounded _

end Sys2Proof.Machine
end

/-! ## Every command keeps the bounds of the track's lists -/

section
namespace Sys2Proof.Machine
variable {s t : State}

/-! ### The shape of a settlement (R31, R127, R149, R175) -/

@[simp] theorem reply_ground (s : State) (c : AnswerCode) : (s.reply c).2.ground = s.ground := rfl
@[simp] theorem replyHandle_ground (s : State) (c : AnswerCode) (h : Nat) :
    (s.replyHandle c h).2.ground = s.ground := rfl
@[simp] theorem isolateAnswer_ground (s : State) (c : AnswerCode) (i : Nat) :
    (s.isolateAnswer c i).2.ground = s.ground :=
  rfl
@[simp] theorem energiseAnswer_ground (s : State) (c : AnswerCode) (i : Nat) :
    (s.energiseAnswer c i).2.ground = s.ground := rfl

theorem withRun_bounded (h : s.ground.1.Bounded) {r : Req} {f : Nat → Run → Reply × State}
    (hf : ∀ i x, (f i x).2.ground.1.Bounded) : (s.withRun r f).2.ground.1.Bounded := by
  unfold State.withRun
  split
  · exact h
  · exact h
  · exact h
  · split
    · exact hf _ _
    · exact h

theorem withInc_bounded (h : s.ground.1.Bounded) {r : Req} {f : Nat → Incident → Reply × State}
    (hf : ∀ i x, (f i x).2.ground.1.Bounded) : (s.withInc r f).2.ground.1.Bounded := by
  unfold State.withInc
  split
  · exact h
  · exact h
  · exact h
  · split
    · exact hf _ _
    · exact h

theorem withAnn_bounded (h : s.ground.1.Bounded) {r : Req} {f : Nat → Announcement → Reply × State}
    (hf : ∀ i x, (f i x).2.ground.1.Bounded) : (s.withAnn r f).2.ground.1.Bounded := by
  unfold State.withAnn
  split
  · exact h
  · exact h
  · exact h
  · split
    · exact hf _ _
    · exact h

theorem withId_bounded (h : s.ground.1.Bounded) {r : Req} {n : Nat} {known : Nat → Bool} {f : Nat → Reply × State}
    (hf : ∀ i, (f i).2.ground.1.Bounded) : (s.withId r n known f).2.ground.1.Bounded := by
  unfold State.withId
  dsimp only
  split
  · exact h
  · split
    · exact h
    · split
      · exact h
      · exact hf _

theorem takeRequest_bounded (h : s.ground.1.Bounded) {k : ReqKind} {r : Req} {f : State → Reply × State}
    (hf : ∀ s, s.ground.1.Bounded → (f s).2.ground.1.Bounded) : (s.takeRequest k r f).ground.1.Bounded := by
  unfold State.takeRequest
  dsimp only
  split
  · split
    · exact h
    · rw [finish_ground]
      exact hf (s.recordRequest k.code r) h
  · exact h

/-! ### The description and the clock (R2 to R28) -/

theorem settleDefine_bounded {α : Type} (h : s.ground.1.Bounded) (parsed : Option (Nat × Option α))
    (defined : Nat → Bool) {write : Nat → Option α → State} (hw : ∀ i x, (write i x).ground = s.ground) :
    (s.settleDefine parsed defined write).2.ground.1.Bounded := by
  unfold State.settleDefine State.unlocked
  (repeat' split) <;> simp [h, hw]

theorem writeClient_ground (s : State) (i : Nat) (x : Client) : (s.writeClient i x).ground = s.ground := by
  rw [writeClient_eq]
  rfl

theorem settleDefineHeadwayBands_bounded (r : Req) (h : s.ground.1.Bounded) :
    (settleDefineHeadwayBands r s).2.ground.1.Bounded := by
  unfold settleDefineHeadwayBands State.unlocked
  (repeat' split) <;> simp [h]

theorem setParam_ground (s : State) (x : ParamSetting) : (s.setParam x).ground = s.ground := by
  unfold State.setParam
  split
  · dsimp only
    split <;> simp
  · rfl

theorem settleParam_bounded (h : s.ground.1.Bounded) (r : Req) : (s.settleParam r).2.ground.1.Bounded := by
  unfold State.settleParam
  (repeat' split) <;> simp [h, setParam_ground]

theorem settleEnterService_bounded (r : Req) (h : s.ground.1.Bounded) :
    (settleEnterService r s).2.ground.1.Bounded := by
  unfold settleEnterService
  (repeat' split) <;> simp [h]

theorem settleReturnToSetup_bounded (r : Req) (h : s.ground.1.Bounded) :
    (settleReturnToSetup r s).2.ground.1.Bounded := by
  unfold settleReturnToSetup
  (repeat' split) <;> simp [h]

theorem settleSetClock_bounded (r : Req) (h : s.ground.1.Bounded) : (settleSetClock r s).2.ground.1.Bounded := by
  unfold settleSetClock settleSetClockService settleSetClockSetup
  (repeat' split) <;> simp [h]

theorem settleEndDay_bounded (r : Req) (h : s.ground.1.Bounded) : (settleEndDay r s).2.ground.1.Bounded := by
  unfold settleEndDay
  (repeat' split) <;> simp [h]

/-! ### Runs and the regulator (R35 to R52, R88 to R94) -/

theorem settleLoadRun_bounded (r : Req) (h : s.ground.1.Bounded) : (settleLoadRun r s).2.ground.1.Bounded := by
  unfold settleLoadRun State.loadIn
  (repeat' split) <;> simp [h]

theorem amended_ground (s : State) (i : Nat) (old new : Run) : (s.amended i old new).ground = s.ground := by
  simp only [State.amended]
  (repeat' split) <;> simp

theorem settleAmend_bounded (h : s.ground.1.Bounded) (r : Req) (i : Nat) (x : Run) :
    (s.settleAmend r i x).2.ground.1.Bounded := by
  simp only [State.settleAmend]
  (repeat' split) <;> simp [h, amended_ground]

theorem settleCancel_bounded (h : s.ground.1.Bounded) (i : Nat) (x : Run) :
    (s.settleCancel i x).2.ground.1.Bounded := by
  unfold State.settleCancel
  split <;> simp [h]

theorem settleRetire_bounded (h : s.ground.1.Bounded) (i : Nat) (x : Run) :
    (s.settleRetire i x).2.ground.1.Bounded := by
  have unlinked (u : State) (k : Nat) (l : List Nat) : (u.unlinkRun k l).ground.1 = u.ground.1 :=
    foldl_track (fun t j => by unfold State.modIncOf; split <;> rfl) l u
  simp only [State.settleRetire, State.retire, State.retireRunSlot]
  split
  · simp [unlinked, h]
  · exact h

theorem settleClearCounters_bounded (r : Req) (h : s.ground.1.Bounded) :
    (settleClearCounters r s).2.ground.1.Bounded := by
  unfold settleClearCounters
  split <;> simp [h]

theorem settleHold_bounded (h : s.ground.1.Bounded) (i : Nat) (x : Run) : (s.settleHold i x).2.ground.1.Bounded := by
  simp only [State.settleHold, State.hold]
  (repeat' split) <;> simp [h]

theorem settleUnhold_bounded (h : s.ground.1.Bounded) (i : Nat) (x : Run) :
    (s.settleUnhold i x).2.ground.1.Bounded := by
  simp only [State.settleUnhold, State.unhold]
  (repeat' split) <;> simp [h]

theorem releaseStanding_bounded (h : s.ground.1.Bounded) (i : Nat) (r : Run) :
    (s.releaseStanding i r).2.ground.1.Bounded := by
  simp only [State.releaseStanding, State.refuseCauses]
  (repeat' split) <;> simp [h]

theorem settleRelease_bounded (h : s.ground.1.Bounded) (i : Nat) (x : Run) :
    (s.settleRelease i x).2.ground.1.Bounded := by
  unfold State.settleRelease
  cases x.state with
  | planned =>
    have placed := placeRun_bounded h i
    dsimp only
    split
    · exact h
    · split
      · exact releaseStanding_bounded placed i _
      · exact placed
  | dwelling | held => exact releaseStanding_bounded h i x
  | released | running | terminated | cancelled => exact h

theorem enterManual_ground (s : State) (i : Nat) : (s.enterManual i).ground = s.ground := by
  unfold State.enterManual
  split
  · split <;> simp
  · rfl

theorem halt_ground (s : State) : s.halt.ground = s.ground := by
  simp only [State.halt]
  split <;> simp [foldl_ground enterManual_ground]

theorem resume_ground (s : State) : s.resume.ground = s.ground := by
  simp only [State.resume, settleMerges_ground]
  exact foldl_ground (fun t i => modRun_ground t i _) _ _

theorem settleAction_bounded (h : s.ground.1.Bounded) (r : Req) : (s.settleAction r).2.ground.1.Bounded := by
  unfold State.settleAction
  (repeat' split) <;> simp [h, halt_ground, resume_ground, setParam_ground]

/-! ### Power (R102 to R121) -/

theorem settleSetWithhold_bounded (r : Req) (h : s.ground.1.Bounded) : (settleSetWithhold r s).2.ground.1.Bounded := by
  simp only [settleSetWithhold]
  split
  · exact h
  · split
    · exact h
    · split
      · exact h
      · split
        · exact h
        · exact serveSub_bounded (by simpa using h) _

theorem isolate_bounded (h : s.ground.1.Bounded) (i : Nat) : (s.isolate i).2.ground.1.Bounded := by
  unfold State.isolate
  split <;> simp [h]

theorem energiseAfter_bounded (h : s.ground.1.Bounded) (i : Nat) (cleared : Bool) :
    (s.energiseAfter i cleared).2.ground.1.Bounded := by
  simp only [State.energiseAfter, State.close, State.orderClose]
  (repeat' split) <;> simp [h]

theorem energise_bounded (h : s.ground.1.Bounded) (i : Nat) : (s.energise i).2.ground.1.Bounded := by
  unfold State.energise
  split
  · exact energiseAfter_bounded (by simpa using h) i true
  · exact energiseAfter_bounded h i false

theorem supplyReport_bounded (h : s.ground.1.Bounded) (k : Nat) (x : SupplyState) :
    (s.supplyReport k x).ground.1.Bounded := by
  unfold State.supplyReport
  (repeat' split) <;> simp [h]

theorem breakerReport_bounded (h : s.ground.1.Bounded) (k : Nat) (x : BreakerPos) :
    (s.breakerReport k x).ground.1.Bounded := by
  unfold State.breakerReport
  split
  · simp [h]
  · split
    · exact h
    · refine serveLeft_bounded ?_ s
      cases x with
      | isOpen =>
        simp only [State.breakerMoved, State.breakerOpened, State.trip, State.stopDrain, State.confirm]
        split <;> simp [h]
      | isClosed =>
        simp only [State.breakerMoved, State.breakerClosed, State.confirm]
        (repeat' split) <;> simp [h]

/-! ### Incidents and announcements (R130 to R142, R149 to R168) -/

theorem settleRaise_bounded (h : s.ground.1.Bounded) (r : Req) : (s.settleRaise r).2.ground.1.Bounded := by
  simp only [State.settleRaise]
  (repeat' split) <;> simp [h]

theorem settleAck_bounded (h : s.ground.1.Bounded) (r : Req) (i : Nat) (x : Incident) :
    (s.settleAck r i x).2.ground.1.Bounded := by
  unfold State.settleAck
  (repeat' split) <;> simp [h]

theorem settleAdd_bounded (h : s.ground.1.Bounded) (r : Req) (i : Nat) (x : Incident) :
    (s.settleAdd r i x).2.ground.1.Bounded := by
  unfold State.settleAdd
  (repeat' split) <;> simp [h]

theorem settleLift_bounded (h : s.ground.1.Bounded) (r : Req) (i : Nat) (x : Incident) :
    (s.settleLift r i x).2.ground.1.Bounded := by
  unfold State.settleLift
  (repeat' split) <;> simp [h]

theorem settleLinkRun_bounded (h : s.ground.1.Bounded) (r : Req) (i : Nat) (x : Incident) :
    (s.settleLinkRun r i x).2.ground.1.Bounded := by
  simp only [State.settleLinkRun, State.linkRun, State.unlinkRunFrom]
  (repeat' split) <;> simp [h]

theorem settleLinkAnn_bounded (h : s.ground.1.Bounded) (r : Req) (i : Nat) (x : Incident) :
    (s.settleLinkAnn r i x).2.ground.1.Bounded := by
  simp only [State.settleLinkAnn, State.linkAnn, State.unlinkAnnFrom]
  (repeat' split) <;> simp [h]

theorem settleClear_bounded (h : s.ground.1.Bounded) (r : Req) (i : Nat) (x : Incident) :
    (s.settleClear r i x).2.ground.1.Bounded := by
  unfold State.settleClear
  (repeat' split) <;> simp [h]

theorem settleRetireInc_bounded (h : s.ground.1.Bounded) (r : Req) (i : Nat) (x : Incident) :
    (s.settleRetireInc r i x).2.ground.1.Bounded := by
  unfold State.settleRetireInc
  (repeat' split) <;> simp [h]

theorem settlePostAnnouncement_bounded (r : Req) (h : s.ground.1.Bounded) :
    (settlePostAnnouncement r s).2.ground.1.Bounded := by
  unfold settlePostAnnouncement
  split
  · exact h
  · split
    · exact h
    · split
      · exact h
      · next x run _ _ _ =>
        have created := createAnn_ground s x (.client r.from) none run
        unfold State.post
        split <;> rename_i made <;> rw [made] at created <;> simpa [created] using h

theorem settleWithdraw_bounded (h : s.ground.1.Bounded) (r : Req) (i : Nat) (a : Announcement) :
    (s.settleWithdraw r i a).2.ground.1.Bounded := by
  unfold State.settleWithdraw
  split <;> simp [h]

theorem settleSetClassMap_bounded (r : Req) (h : s.ground.1.Bounded) : (settleSetClassMap r s).2.ground.1.Bounded := by
  simp only [settleSetClassMap]
  (repeat' split) <;> simp [h]

theorem settleEnableChannel_bounded (r : Req) (h : s.ground.1.Bounded) :
    (settleEnableChannel r s).2.ground.1.Bounded := by
  simp only [settleEnableChannel, State.makeReady, State.setChan]
  (repeat' split) <;> simp [h]

theorem settleDisableChannel_bounded (r : Req) (h : s.ground.1.Bounded) :
    (settleDisableChannel r s).2.ground.1.Bounded := by
  simp only [settleDisableChannel, State.setChan]
  (repeat' split) <;> simp [h]

theorem settleSetChannelPolicy_bounded (r : Req) (h : s.ground.1.Bounded) :
    (settleSetChannelPolicy r s).2.ground.1.Bounded := by
  unfold settleSetChannelPolicy
  (repeat' split) <;> simp [h]

theorem settleSetZoneBlock_bounded (r : Req) (h : s.ground.1.Bounded) :
    (settleSetZoneBlock r s).2.ground.1.Bounded := by
  unfold settleSetZoneBlock
  (repeat' split) <;> simp [h]

theorem returnOnAir_ground (s : State) (c : Nat) : (s.returnOnAir c).ground = s.ground := by
  unfold State.returnOnAir
  split <;> simp

theorem settlePaStatus_ground (s : State) (c : Nat) (x : PaStatus) : (s.settlePaStatus c x).ground = s.ground := by
  simp only [State.settlePaStatus, State.reportReady, State.reportNotReady, State.makeReady, State.setChan]
  (repeat' split) <;> simp [returnOnAir_ground]

theorem settlePaDone_ground (s : State) (c token : Nat) : (s.settlePaDone c token).ground = s.ground := by
  unfold State.settlePaDone
  split <;> simp

theorem settlePaTaken_ground (s : State) (c : Nat) (n : Half) : (s.settlePaTaken c n).ground = s.ground := by
  simp only [State.settlePaTaken]
  (repeat' split) <;> simp

/-! ### One command at a time -/

/-- Every request command takes its request under an owner that keeps the bounds. -/
theorem exists_boundedOwner {c : Instr} {k : ReqKind} {r : Req} (hc : c.request? = some (k, r)) :
    ∃ f : State → Reply × State, (∀ s, exec c s = .next (s.takeRequest k r f)) ∧
      ∀ s : State, s.ground.1.Bounded → (f s).2.ground.1.Bounded := by
  have owner {f : State → Reply × State} (he : ∀ s, exec c s = .next (s.takeRequest k r f))
      (hf : ∀ s : State, s.ground.1.Bounded → (f s).2.ground.1.Bounded) : ∃ f : State → Reply × State,
      (∀ s, exec c s = .next (s.takeRequest k r f)) ∧ ∀ s : State, s.ground.1.Bounded → (f s).2.ground.1.Bounded :=
    ⟨f, he, hf⟩
  cases c with
  | defineTimingPoint | defineSegment | defineRoute | defineMerge | defineSubstation | defineSection
  | defineTrainClass | defineZoneGroup | defineDeskClass | mapIncidentKind =>
    cases hc; exact owner (fun _ => rfl) fun s h => settleDefine_bounded h _ _ fun _ _ => onLds_ground s _
  | defineClient =>
    cases hc; exact owner (fun _ => rfl) fun s h => settleDefine_bounded h _ _ fun _ _ => writeClient_ground ..
  | defineHeadwayBands => cases hc; exact owner (fun _ => rfl) fun _ => settleDefineHeadwayBands_bounded r
  | setLineParameter =>
    cases hc; exact owner (fun _ => rfl) fun s h => thenServe_bounded (settleParam_bounded h r) s
  | enterService => cases hc; exact owner (fun _ => rfl) fun _ => settleEnterService_bounded r
  | returnToSetup => cases hc; exact owner (fun _ => rfl) fun _ => settleReturnToSetup_bounded r
  | setClock => cases hc; exact owner (fun _ => rfl) fun _ => settleSetClock_bounded r
  | endDay => cases hc; exact owner (fun _ => rfl) fun _ => settleEndDay_bounded r
  | loadRun => cases hc; exact owner (fun _ => rfl) fun _ => settleLoadRun_bounded r
  | amendRun =>
    cases hc
    exact owner (fun _ => rfl) fun s h => thenServe_bounded (withRun_bounded h (settleAmend_bounded h r)) s
  | cancelRun =>
    cases hc
    exact owner (fun _ => rfl) fun s h => thenServe_bounded (withRun_bounded h (settleCancel_bounded h)) s
  | retireRun => cases hc; exact owner (fun _ => rfl) fun s h => withRun_bounded h (settleRetire_bounded h)
  | clearCounters => cases hc; exact owner (fun _ => rfl) fun _ => settleClearCounters_bounded r
  | holdRun =>
    cases hc
    exact owner (fun _ => rfl) fun s h => thenServe_bounded (withRun_bounded h (settleHold_bounded h)) s
  | unholdRun => cases hc; exact owner (fun _ => rfl) fun s h => withRun_bounded h (settleUnhold_bounded h)
  | releaseRun => cases hc; exact owner (fun _ => rfl) fun s h => withRun_bounded h (settleRelease_bounded h)
  | setRegulation =>
    cases hc; exact owner (fun _ => rfl) fun s h => thenServe_bounded (settleAction_bounded h r) s
  | setWithhold => cases hc; exact owner (fun _ => rfl) fun _ => settleSetWithhold_bounded r
  | isolateSection =>
    cases hc
    exact owner (fun _ => rfl) fun s h => thenServe_bounded (withId_bounded h (isolate_bounded h)) s
  | energiseSection =>
    cases hc
    exact owner (fun _ => rfl) fun s h => thenServe_bounded (withId_bounded h (energise_bounded h)) s
  | raiseIncident => cases hc; exact owner (fun _ => rfl) fun s h => thenServe_bounded (settleRaise_bounded h r) s
  | ackIncident => cases hc; exact owner (fun _ => rfl) fun s h => withInc_bounded h (settleAck_bounded h r)
  | addRestriction =>
    cases hc
    exact owner (fun _ => rfl) fun s h => thenServe_bounded (withInc_bounded h (settleAdd_bounded h r)) s
  | liftRestriction =>
    cases hc
    exact owner (fun _ => rfl) fun s h => thenServe_bounded (withInc_bounded h (settleLift_bounded h r)) s
  | linkRun => cases hc; exact owner (fun _ => rfl) fun s h => withInc_bounded h (settleLinkRun_bounded h r)
  | linkAnnouncement =>
    cases hc; exact owner (fun _ => rfl) fun s h => withInc_bounded h (settleLinkAnn_bounded h r)
  | clearIncident =>
    cases hc
    exact owner (fun _ => rfl) fun s h => thenServe_bounded (withInc_bounded h (settleClear_bounded h r)) s
  | retireIncident =>
    cases hc; exact owner (fun _ => rfl) fun s h => withInc_bounded h (settleRetireInc_bounded h r)
  | postAnnouncement => cases hc; exact owner (fun _ => rfl) fun _ => settlePostAnnouncement_bounded r
  | withdrawAnnouncement =>
    cases hc; exact owner (fun _ => rfl) fun s h => withAnn_bounded h (settleWithdraw_bounded h r)
  | setClassMap => cases hc; exact owner (fun _ => rfl) fun _ => settleSetClassMap_bounded r
  | enableChannel => cases hc; exact owner (fun _ => rfl) fun _ => settleEnableChannel_bounded r
  | disableChannel => cases hc; exact owner (fun _ => rfl) fun _ => settleDisableChannel_bounded r
  | setChannelPolicy => cases hc; exact owner (fun _ => rfl) fun _ => settleSetChannelPolicy_bounded r
  | setZoneBlock => cases hc; exact owner (fun _ => rfl) fun _ => settleSetZoneBlock_bounded r
  | lineStatus => cases hc; exact owner (fun _ => rfl) fun _ h => h
  | lookupLine | lookupRun | findRun | lookupCounters | lookupPoint | lookupSegment | lookupRegulation
  | lookupSubstation | lookupSection | lookupIncident | lookupDesk | lookupAnnouncement | lookupChannel | lookupZones
  | lookupBoard =>
    cases hc; exact owner (fun _ => rfl) fun s h => by rw [lookup_same (by simp) r s]; exact h
  | _ => cases hc

/-- The outcome of a command that leads to `g s`. -/
theorem bounded_event {c : Instr} {g : State → State} (hc : ∀ s, exec c s = .next (g s)) (hg : (g s).ground.1.Bounded)
    (ht : exec c s = .next t) : t.ground.1.Bounded := by
  rw [hc s] at ht
  cases ht
  exact hg

theorem bounded_finish (h : t.ground.1.Bounded) : t.finish.ground.1.Bounded := by rwa [finish_ground]

/-- An event of a run's slot or of the marks on a run. -/
theorem bounded_ofRun (h : s.ground.1.Bounded) {c : Instr} {i : Nat} (hc : c ∈ [.placementTimerExpiry i, .releaseEvent i,
    .retry i, .departureTimeout i, .skipMarkingOnLoad i]) (ht : exec c s = .next t) : t.ground.1.Bounded := by
  simp only [List.mem_cons, List.not_mem_nil, or_false] at hc
  rcases hc with rfl | rfl | rfl | rfl | rfl
  case inl =>
    refine bounded_event (fun _ => rfl) ?_ ht
    simp only [State.placementExpiry]
    (repeat' split) <;> simp [h]
  case inr.inr.inr.inr =>
    refine bounded_event (fun _ => rfl) ?_ ht
    split <;> simp [h]
  all_goals
    refine bounded_event (fun _ => rfl) ?_ ht
    (repeat' split) <;> simp [h]

/-- An event of a claim, a section, an incident, a merge or the describer. -/
theorem bounded_ofTimer (h : s.ground.1.Bounded) {c : Instr} {i : Nat} (hc : c ∈ [.claimTimerExpiry i,
    .drainTimerExpiry i, .confirmTimerExpiry i, .escalationTimerExpiry i, .mergeFreeTimerExpiry i,
    .describerStaleTimerExpiry]) (ht : exec c s = .next t) : t.ground.1.Bounded := by
  simp only [List.mem_cons, List.not_mem_nil, or_false] at hc
  rcases hc with rfl | rfl | rfl | rfl | rfl | rfl
  case inr.inl =>
    refine bounded_event (fun _ => rfl) ?_ ht
    simp only [State.drainExpiry, State.stopDrain, State.orderOpen]
    (repeat' split) <;> simp [h]
  case inr.inr.inl =>
    refine bounded_event (fun _ => rfl) ?_ ht
    simp only [State.confirmExpiry]
    (repeat' split) <;> simp [h]
  case inr.inr.inr.inr.inr =>
    refine bounded_event (fun _ => rfl) ?_ ht
    split
    · exact bounded_finish (serveLeft_bounded (staleExpiry_bounded h) s)
    · exact h
  all_goals
    refine bounded_event (fun _ => rfl) ?_ ht
    (repeat' split) <;> simp [h]

/-- An event of an announcement's slot. -/
theorem bounded_ofAnn (h : s.ground.1.Bounded) {c : Instr} {i : Nat} (hc : c ∈ [.startTimerExpiry i,
    .repeatTimerExpiry i, .announcementExpiry i]) (ht : exec c s = .next t) : t.ground.1.Bounded := by
  simp only [List.mem_cons, List.not_mem_nil, or_false] at hc
  rcases hc with rfl | rfl | rfl
  case inr.inr =>
    refine bounded_event (fun _ => rfl) ?_ ht
    (repeat' split) <;> simp [h]
  all_goals
    refine bounded_event (fun _ => rfl) ?_ ht
    simp only [State.becomeDue]
    (repeat' split) <;> simp [h]

/-- An event of the clock. -/
theorem bounded_ofClock (h : s.ground.1.Bounded) {c : Instr} (hc : c ∈ [.minuteBoundary, .clockEnd, .clockAdvance])
    (ht : exec c s = .next t) : t.ground.1.Bounded := by
  simp only [List.mem_cons, List.not_mem_nil, or_false] at hc
  rcases hc with rfl | rfl | rfl
  all_goals
    refine bounded_event (fun _ => rfl) ?_ ht
    simp only [State.endOfClock]
    (repeat' split) <;> simp [h]

/-- The outcome of a report: the receiver has moved on, the work follows, and its event ends. -/
theorem bounded_report {u : State} (h : u.ground.1.Bounded)
    (ht : (Host.Outcome.next u.finish : Host.Outcome State Fault Refusal) = .next t) : t.ground.1.Bounded := by
  cases ht
  exact bounded_finish h

/-- Every command keeps the bounds of the track's lists. -/
theorem exec_bounded {c : Instr} (h : s.ground.1.Bounded) (ht : exec c s = .next t) : t.ground.1.Bounded := by
  have received (n : Nat) : (s.received n).ground.1.Bounded := h
  cases hr : c.request? with
  | some p =>
    obtain ⟨f, he, hf⟩ := exists_boundedOwner hr
    exact bounded_event he (takeRequest_bounded h hf) ht
  | none =>
    cases c with
    | malformedRequest =>
      refine bounded_event (fun _ => rfl) ?_ ht
      unfold State.takeMalformed
      split <;> exact h
    | arrived =>
      exact bounded_report (takeMovement_bounded (received 3) _ _ fun _ i r hu => settleArrived_bounded hu i r _) ht
    | departed =>
      exact bounded_report (takeMovement_bounded (received 3) _ _ fun _ i r hu => settleDeparted_bounded hu i r _) ht
    | passed =>
      exact bounded_report (takeMovement_bounded (received 3) _ _ fun _ i r hu => settlePassed_bounded hu i r _) ht
    | breaker => exact bounded_report (breakerReport_bounded (received 2) ..) ht
    | substation => exact bounded_report (supplyReport_bounded (received 2) ..) ht
    | paStatus => refine bounded_report ?_ ht; split <;> simp [settlePaStatus_ground, h]
    | paDone => refine bounded_report ?_ ht; split <;> simp [settlePaDone_ground, h]
    | paTaken => refine bounded_report ?_ ht; split <;> simp [settlePaTaken_ground, h]
    | badFrame | frameTransmitEnd | requestProducerWrite | answerConsumerWrite | portReset | noticeWrite
    | discardedRegisterWrite => cases ht; exact h
    | powerOn => cases ht; exact fresh_bounded none
    | minuteBoundary | clockEnd | clockAdvance => exact bounded_ofClock h (by simp) ht
    | describerStaleTimerExpiry => exact bounded_ofTimer (i := 0) h (by simp) ht
    | claimTimerExpiry i | drainTimerExpiry i | confirmTimerExpiry i | escalationTimerExpiry i
    | mergeFreeTimerExpiry i => exact bounded_ofTimer (i := i) h (by simp) ht
    | placementTimerExpiry i | releaseEvent i | retry i | departureTimeout i | skipMarkingOnLoad i =>
      exact bounded_ofRun (i := i) h (by simp) ht
    | startTimerExpiry i | repeatTimerExpiry i | announcementExpiry i => exact bounded_ofAnn (i := i) h (by simp) ht
    | _ => cases hr

/-- Settles O6: only a queue with room takes a run, and only an order list with room takes a grant that it does not
hold; everything else leaves the lists or shortens them. -/
theorem trackBoundsKept : Obligations.TrackBoundsKept := by
  intro s t hs h
  unfold step at h
  cases hq : s.pending with
  | nil => rw [hq] at h; cases h; exact hs
  | cons c rest =>
    rw [hq] at h
    exact exec_bounded (s := s.withPending rest) hs h

end Sys2Proof.Machine
end

/-! ## Lookups by number and by handle (R47, R48, R73, R124, R146, R172) -/

section
namespace Sys2Proof.Machine
variable {s : State} {r : Req} {k : ReqKind}

/-! ### Objects of the locked description, by number -/

/-- A lookup that names an object by its number: refused in SETUP, outside the range and where nothing is known, else
answered from the state. -/
theorem next_lookupId (he : BetweenEvents s) (hp : Passes s k r) (hk : k.namesHandle = false) {n : Nat}
    {known : Nat → Bool} {body : Nat → List Byte} {f : State → Reply × State} {g : Nat → Reply × State}
    (hf : f (s.recordRequest k.code r) = (s.recordRequest k.code r).withId r n known g)
    (hg : ∀ i, known i = true → g i = (s.recordRequest k.code r).answer (body i)) :
    (Host.Outcome.next (s.takeRequest k r f) : Host.Outcome State Fault Refusal) = .next (
      if s.inService = false then answered s k r .badState 0 []
      else if r.u8 0 < 1 ∨ n < r.u8 0 then answered s k r .outOfRange 0 []
      else if known (r.u8 0) = true then answered s k r .ok 0 (body (r.u8 0))
      else answered s k r .notFound 0 []) := by
  have opened (inService : s.inService = true) : (s.recordRequest k.code r).withId r n known g =
      if r.u8 0 < 1 ∨ n < r.u8 0 then (s.recordRequest k.code r).reply .outOfRange
      else if !known (r.u8 0) then (s.recordRequest k.code r).reply .notFound else g (r.u8 0) := by
    rw [State.withId, show (s.recordRequest k.code r).inService = true from inService]
    rfl
  split
  · next setup =>
    refine next_reply hp he hk (hf.trans ?_)
    rw [State.withId, show (s.recordRequest k.code r).inService = false from setup]
    rfl
  · next inService =>
    have hf := hf.trans (opened (by simpa using inService))
    split
    · next range => exact next_reply hp he hk (hf.trans (if_pos range))
    · next range =>
      have hf := hf.trans (if_neg range)
      split
      · next found => exact next_answer hp he hk (hf.trans (by rw [found, hg _ found]; rfl))
      · next unknown => exact next_reply hp he hk (hf.trans (by rw [Bool.eq_false_iff.2 unknown]; rfl))

/-! ### Runs, by handle and by number -/

theorem runOf_of_live {h i : Nat} (hl : s.resolveRun h = .live i) : s.runOf h = s.runAt i := by
  rw [State.runOf, hl]; rfl

/-- At most 12 stops follow from the one that the request names (R47). -/
theorem length_lookupStops (x : Run) (j : Nat) :
    ((x.stops.drop (j - 1)).take 12).length = min 12 (x.count - (j - 1)) := by
  simp [Run.count]

theorem exec_lookupRun (he : BetweenEvents s) (hp : Passes s .lookupRun r) {i : Nat} {x : Run}
    (hl : s.resolveRun r.principal = .live i) (hx : s.runAt i = some x) : exec (.lookupRun r) s = .next (
      if 1 ≤ r.u8 0 ∧ r.u8 0 ≤ x.count then answered s .lookupRun r .ok r.principal (runBody x (r.u8 0))
      else answered s .lookupRun r .outOfRange r.principal []) := by
  have found : (s.recordRequest ReqKind.lookupRun.code r).runOf r.principal = some x := (runOf_of_live hl).trans hx
  split
  · next h => exact next_answered hp he (by rw [settleLookupRun, found]; exact if_neg (by omega)) rfl
  · next h => exact next_replyNamed hp he rfl (by rw [settleLookupRun, found]; exact if_pos (by omega))

/-- A run's handle that resolves to nothing is answered by the resolution's code. -/
theorem exec_lookupRun_refused (he : BetweenEvents s) (hp : Passes s .lookupRun r)
    (hl : (s.resolveRun r.principal).slot? = none) : exec (.lookupRun r) s =
      .next (answered s .lookupRun r (s.resolveRun r.principal).lookupRefusal r.principal []) := by
  have none : (s.recordRequest ReqKind.lookupRun.code r).runOf r.principal = none := by
    show (s.resolveRun r.principal).slot?.bind _ = none
    rw [hl]; rfl
  exact next_replyNamed hp he rfl (by rw [settleLookupRun, none]; rfl)

/-- The one live run with a number is the run found under it. -/
theorem runNumbered_of_unique {n i : Nat} {x : Run} (hx : s.runAt i = some x) (hn : x.number = n)
    (unique : ∀ j y, s.runAt j = some y → y.number = n → j = i) : s.runNumbered n = some (i, x) := by
  cases h : s.runNumbered n with
  | none => exact absurd (List.find?_eq_none.1 h (i, x) (mem_liveRuns.2 hx)) (by simp [hn])
  | some q =>
    obtain ⟨j, y⟩ := q
    have hy := runNumbered_runAt h
    have number : y.number = n := by simpa using List.find?_some h
    obtain rfl := unique j y hy number
    rw [hx] at hy
    cases hy
    rfl

theorem runNumbered_eq_none {n : Nat} : s.runNumbered n = none ↔ ∀ j y, s.runAt j = some y → y.number ≠ n := by
  simp only [State.runNumbered, List.find?_eq_none, beq_iff_eq, Prod.forall, mem_liveRuns]

theorem exec_findRun (he : BetweenEvents s) (hp : Passes s .findRun r) (low : 1 ≤ r.u16 0) (high : r.u16 0 ≤ 9999) :
    exec (.findRun r) s = .next ((s.runNumbered (r.u16 0)).elim (answered s .findRun r .notFound 0 []) fun p =>
      answered s .findRun r .ok 0 (enc16 (s.runHandle p.1) ++ enc8 p.2.state.code)) := by
  have range : ¬(r.u16 0 < 1 ∨ 9999 < r.u16 0) := by omega
  cases h : s.runNumbered (r.u16 0) with
  | none =>
    have h : (s.recordRequest ReqKind.findRun.code r).runNumbered (r.u16 0) = none := h
    exact next_reply hp he rfl (by rw [settleFindRun, if_neg range, h])
  | some p =>
    have h : (s.recordRequest ReqKind.findRun.code r).runNumbered (r.u16 0) = some p := h
    exact next_answer hp he rfl (by rw [settleFindRun, if_neg range, h]; rfl)

/-! ### Incidents and announcements, by handle -/

theorem exec_lookupIncident (he : BetweenEvents s) (hp : Passes s .lookupIncident r) : exec (.lookupIncident r) s =
    .next (((s.resolveInc r.principal).slot?.bind s.incAt).elim
      (answered s .lookupIncident r (s.resolveInc r.principal).lookupRefusal r.principal []) fun x =>
      answered s .lookupIncident r .ok r.principal (incidentBody x)) := by
  have read : settleLookupIncident r (s.recordRequest ReqKind.lookupIncident.code r) =
      match (s.resolveInc r.principal).slot?.bind s.incAt with
      | none => (s.recordRequest ReqKind.lookupIncident.code r).reply (s.resolveInc r.principal).lookupRefusal
      | some x => (s.recordRequest ReqKind.lookupIncident.code r).answer (incidentBody x) := rfl
  cases h : (s.resolveInc r.principal).slot?.bind s.incAt with
  | none => exact next_replyNamed hp he rfl (by rw [read, h])
  | some x => exact next_answered hp he (by rw [read, h]; rfl) rfl

theorem exec_lookupAnnouncement (he : BetweenEvents s) (hp : Passes s .lookupAnnouncement r) :
    exec (.lookupAnnouncement r) s = .next ((s.annOf r.principal).elim
      (answered s .lookupAnnouncement r (s.resolveAnn r.principal).lookupRefusal r.principal []) fun a =>
      answered s .lookupAnnouncement r .ok r.principal (announcementBody a)) := by
  have read : settleLookupAnnouncement r (s.recordRequest ReqKind.lookupAnnouncement.code r) =
      match s.annOf r.principal with
      | none => (s.recordRequest ReqKind.lookupAnnouncement.code r).reply (s.resolveAnn r.principal).lookupRefusal
      | some a => (s.recordRequest ReqKind.lookupAnnouncement.code r).answer (announcementBody a) := rfl
  cases h : s.annOf r.principal with
  | none => exact next_replyNamed hp he rfl (by rw [read, h])
  | some a => exact next_answered hp he (by rw [read, h]; rfl) rfl

/-- The five lookups of an object of the locked description. -/
theorem exec_lookupNumbered {c : Instr} {n : Nat} {known : Nat → Bool} {body : Nat → List Byte}
    (hc : (c, k, n, known, body) ∈
      [(.lookupPoint r, ReqKind.lookupPoint, 32, fun i => (s.point i).isSome, s.pointAnswer),
        (.lookupSegment r, .lookupSegment, 48, fun i => (s.segment i).isSome, s.segmentAnswer),
        (.lookupSubstation r, .lookupSubstation, 8, fun i => (s.sub i).isSome, s.substationAnswer),
        (.lookupSection r, .lookupSection, 16, fun i => (s.sec i).isSome, s.sectionAnswer),
        (.lookupBoard r, .lookupBoard, 32, fun p => (look s.piu.boards p).isSome,
          fun p => (look s.piu.boards p).elim [] fun b => b.line1.entry ++ b.line2.entry)])
    (he : BetweenEvents s) (hp : Passes s k r) : exec c s = .next (
      if s.inService = false then answered s k r .badState 0 []
      else if r.u8 0 < 1 ∨ n < r.u8 0 then answered s k r .outOfRange 0 []
      else if known (r.u8 0) = true then answered s k r .ok 0 (body (r.u8 0))
      else answered s k r .notFound 0 []) := by
  simp only [List.mem_cons, Prod.mk.injEq, List.not_mem_nil, or_false] at hc
  obtain ⟨rfl, rfl, rfl, rfl, rfl⟩ | ⟨rfl, rfl, rfl, rfl, rfl⟩ | ⟨rfl, rfl, rfl, rfl, rfl⟩ | ⟨rfl, rfl, rfl, rfl, rfl⟩ |
    ⟨rfl, rfl, rfl, rfl, rfl⟩ := hc
  · exact next_lookupId (f := settleLookupPoint r) he hp rfl rfl fun _ _ => rfl
  · exact next_lookupId (f := settleLookupSegment r) he hp rfl rfl fun _ _ => rfl
  · exact next_lookupId (f := settleLookupSubstation r) he hp rfl rfl fun _ _ => rfl
  · exact next_lookupId (f := settleLookupSection r) he hp rfl rfl fun _ _ => rfl
  · have opened : settleLookupBoard r (s.recordRequest ReqKind.lookupBoard.code r) =
        (s.recordRequest ReqKind.lookupBoard.code r).withId r 32 (fun p => (look s.piu.boards p).isSome) fun p =>
          (look s.piu.boards p).elim ((s.recordRequest ReqKind.lookupBoard.code r).reply .notFound) fun b =>
            (s.recordRequest ReqKind.lookupBoard.code r).answer (b.line1.entry ++ b.line2.entry) := by
      refine congrArg (State.withId _ r 32 _) (funext fun p => ?_)
      show (match look s.piu.boards p with | some b => _ | none => _) = _
      cases look s.piu.boards p <;> rfl
    refine next_lookupId (body := fun p => (look s.piu.boards p).elim [] fun b => b.line1.entry ++ b.line2.entry) he hp
      rfl
      opened fun p known => ?_
    obtain ⟨b, hb⟩ := Option.isSome_iff_exists.1 known
    rw [hb]
    rfl

/-- Settles O25: each owner resolves what the request names and answers from that record. -/
theorem recordLookups : Obligations.RecordLookups := by
  refine ⟨fun c k r s n known body hc => exec_lookupNumbered hc, fun r s he => ⟨fun hp => ⟨fun i x hl hx => ?_,
    fun hl => ?_,
    fun hl => ?_⟩, fun hp => ⟨fun i x low high hx hn unique => ?_, fun low high none => ?_, fun range => ?_⟩,
    fun hp => ⟨fun i x hl hx => ?_, fun hl => ?_, fun hl => ?_⟩,
    fun hp => ⟨fun i a hl ha => ?_, fun hl => ?_, fun hl => ?_⟩⟩⟩
  · rw [exec_lookupRun he hp hl hx, runBody]
    simp only [length_lookupStops]
  · simpa [hl, Resolved.lookupRefusal] using exec_lookupRun_refused he hp (by rw [hl]; rfl)
  · rcases hl with hl | hl <;> simpa [hl, Resolved.lookupRefusal] using exec_lookupRun_refused he hp (by rw [hl]; rfl)
  · rw [exec_findRun he hp low high, runNumbered_of_unique hx hn unique]; rfl
  · rw [exec_findRun he hp low high, runNumbered_eq_none.2 none]; rfl
  · exact next_reply hp he rfl (by rw [settleFindRun, if_pos (by omega)])
  · rw [exec_lookupIncident he hp, hl]; simp [Resolved.slot?, hx]
  · rw [exec_lookupIncident he hp, hl]; rfl
  · rcases hl with hl | hl <;> rw [exec_lookupIncident he hp, hl] <;> rfl
  · rw [exec_lookupAnnouncement he hp, State.annOf, hl]; simp [Resolved.slot?, ha]
  · rw [exec_lookupAnnouncement he hp, State.annOf, hl]; rfl
  · rcases hl with hl | hl <;> rw [exec_lookupAnnouncement he hp, State.annOf, hl] <;> rfl

end Sys2Proof.Machine
end

/-! ## Rechecks and releases computed again, seen from any run (R55, R71, R79, R80, R84, R85) -/

section
namespace Sys2Proof.Machine
variable {s t u : State} {i j : Nat} {x y : Run}

/-! ### The relation -/

/-- What rechecks and computations leave of a run that stands at a stop: all but the computed release there, the
lateness, the causes, the delay announcement, and whether it is HELD. -/
def Run.standing (x : Run) : Run :=
  { x.modStop x.cur fun st => { st with release := none } with
    state := if x.state = .held then .dwelling else x.state
    causes := Causes.none
    autoDelay := none
    lateness := none }

/-- A run that regulation may take up again is in a slot: HELD, or DWELLING where a release time is computed. -/
def State.stands (s : State) (i : Nat) : Prop :=
  ∃ x, s.runAt i = some x ∧ (x.state = .held ∨ (x.state = .dwelling ∧ x.computable = true))

/-- A DWELLING run is in a slot, whose release timer is set to the computed release of its current stop. -/
def State.timed (s : State) (i : Nat) : Prop :=
  ∃ x st n, s.runAt i = some x ∧ x.state = .dwelling ∧ x.stopAt x.cur = some st ∧ st.release = some n ∧
    (s.reg i).releaseTimer = some n

/-- The run in a slot is the priority holder of no merge. -/
def State.holdsNone (s : State) (h : Nat) : Prop := ∀ m, (s.arbiter m).holder ≠ some h

/-- A regulation record without its release timer. -/
def RegRec.untimed (r : RegRec) : RegRec := { r with releaseTimer := none }

/-- Rechecks and computations lead from `s` to `t`: the track, the incident table, the claims and the counters stay, the
wait queues lose entries alone. A run that stands in slot `i` is left as `Run.standing` says, and its release timer goes
with its release; one that does not stand there, or stands where no release time is computed, is left alone. -/
structure Reworked (i : Nat) (s t : State) : Prop where
  kept : t.kept = s.kept
  ground : t.ground = s.ground
  unmatched : t.fli.unmatched = s.fli.unmatched
  names : t.rtb.slots.map RunSlot.name = s.rtb.slots.map RunSlot.name
  counters : t.rtb.counters = s.rtb.counters
  claims : t.tpc.claims = s.tpc.claims
  count : t.drg.releasedCount = s.drg.releasedCount
  mode : t.drg.mode = s.drg.mode
  waits : ∀ h, s.unqueued h → t.unqueued h
  idle : NobodyWaits s → NobodyWaits t
  run : (t.runAt i).map Run.standing = (s.runAt i).map Run.standing
  reg : (t.reg i).untimed = (s.reg i).untimed
  rest : ¬ s.stands i → (t.runAt i).map Run.quiet = (s.runAt i).map Run.quiet ∧ t.reg i = s.reg i ∧
    (i ≤ 128 → s.holdsNone (s.runHandle i) → t.holdsNone (s.runHandle i))
  timed : s.timed i → t.timed i

theorem Reworked.refl (i : Nat) (s : State) : Reworked i s s where
  kept := rfl
  ground := rfl
  unmatched := rfl
  names := rfl
  counters := rfl
  claims := rfl
  count := rfl
  mode := rfl
  waits _ h := h
  idle h := h
  run := rfl
  reg := rfl
  rest _ := ⟨rfl, rfl, fun _ h => h⟩
  timed h := h

/-! ### What it says of the run in the slot -/

theorem standing_state (x : Run) : x.standing.state = if x.state = .held then .dwelling else x.state := rfl

theorem waitsAtStop_iff : x.waitsAtStop = true ↔ x.state = .dwelling ∨ x.state = .held := by
  simp [Run.waitsAtStop]

/-- Whether a run stands at a stop is told by what is left of it. -/
theorem waitsAtStop_of_standing (h : y.standing = x.standing) : y.waitsAtStop = x.waitsAtStop := by
  have state := congrArg Run.state h
  rw [standing_state, standing_state] at state
  rw [Bool.eq_iff_iff, waitsAtStop_iff, waitsAtStop_iff]
  split at state <;> split at state <;> simp_all

theorem Reworked.runHandle (h : Reworked i s t) (j : Nat) :
    t.runHandle j = s.runHandle j := runHandle_of_names h.names j

theorem Reworked.mvt (h : Reworked i s t) : t.mvt = s.mvt := mvt_of_ground h.ground

theorem Reworked.runAt (h : Reworked i s t) (hx : s.runAt i = some x) :
    ∃ y, t.runAt i = some y ∧ y.standing = x.standing := by
  have hr := h.run
  rw [hx] at hr
  exact Option.map_eq_some_iff.1 hr

theorem waits_of_stands (hx : s.runAt i = some x) (h : s.stands i) : x.waitsAtStop = true := by
  obtain ⟨y, hy, stands⟩ := h
  obtain rfl : x = y := Option.some.inj (hx.symm.trans hy)
  exact waitsAtStop_iff.2 (stands.symm.imp_left And.left)

/-- A run that stands at a stop when it is taken up stood there before. -/
theorem Reworked.stands_of (h : Reworked i s t) (hy : t.stands i) : s.stands i := by
  by_contra rests
  obtain ⟨y, hy, stands⟩ := hy
  have run := (h.rest rests).1
  rw [hy] at run
  obtain ⟨x, hx, quiet⟩ := Option.map_eq_some_iff.1 run.symm
  have computable : x.computable = y.computable := (congrArg Run.computable quiet :)
  exact rests ⟨x, hx, by rw [state_of_quiet quiet, computable]; exact stands⟩

/-- The run in slot `j` may be taken up: where it is that of slot `i`, it stands there, and is not DWELLING with its
timer set. -/
structure Movable (s : State) (i j : Nat) : Prop where
  stands : j = i → s.stands i
  untimed : s.timed i → j ≠ i

/-- A HELD run may be taken up. -/
theorem Reworked.movable (h : Reworked i s t) (hx : t.runAt j = some x) (held : x.state = .held) : Movable s i j := by
  refine ⟨?_, fun timed => ?_⟩
  · rintro rfl
    exact h.stands_of ⟨_, hx, .inl held⟩
  · rintro rfl
    obtain ⟨y, -, -, hy, dwelling, -⟩ := h.timed timed
    obtain rfl : x = y := Option.some.inj (hx.symm.trans hy)
    rw [held] at dwelling
    cases dwelling

/-! ### The named updates -/

theorem standing_of_quiet (h : y.quiet = x.quiet) : y.standing = x.standing := by
  have quiet (z : Run) : z.standing = z.quiet.standing := by
    unfold Run.standing
    rw [modStop_eq, modStop_eq]
    rfl
  rw [quiet y, h, ← quiet x]

theorem map_standing_of_quiet {a b : Option Run} (h : a.map Run.quiet = b.map Run.quiet) :
    a.map Run.standing = b.map Run.standing := by
  cases a <;> cases b <;> simp_all
  exact standing_of_quiet h

theorem timed_of_quiet (hq : u.quiet = t.quiet) (h : t.timed i) : u.timed i := by
  obtain ⟨x, st, n, hx, dwelling, hst, hn, timer⟩ := h
  obtain ⟨y, hy, quiet⟩ := runAt_of_quiet hq hx
  have stops : y.stopAt y.cur = x.stopAt x.cur := (congrArg (fun r => r.stopAt r.cur) quiet :)
  refine ⟨y, st, n, hy, (state_of_quiet quiet).trans dwelling, stops.trans hst, hn, ?_⟩
  rw [State.reg, drg_of_quiet hq]
  exact timer

/-- Announcements, notices and marks of boards. -/
theorem Reworked.quiet (h : Reworked i s t) (hq : u.quiet = t.quiet) : Reworked i s u := by
  have slot (v : State) : v.rtb.slots.map RunSlot.name = v.quiet.rtb.slots.map RunSlot.name := by
    show _ = (v.rtb.slots.map RunSlot.quiet).map RunSlot.name
    rw [Vector.map_map]
    refine congrArg (fun f => v.rtb.slots.map f) (funext fun z => ?_)
    rcases z with ⟨g, _ | r⟩ <;> rfl
  have tpc := tpc_of_quiet hq
  have drg := drg_of_quiet hq
  have same : u.sub = t.sub := funext fun k => by rw [State.sub, tpc]; rfl
  have reg : u.reg i = t.reg i := by rw [State.reg, drg]; rfl
  refine ⟨(congrArg State.kept hq :).trans h.kept, (ground_of_quiet hq).trans h.ground,
    (congrArg (fun v => v.fli.unmatched) hq :).trans h.unmatched, (by rw [slot u, hq, ← slot t]; exact h.names),
    (congrArg (fun v => v.rtb.counters) hq :).trans h.counters, (by rw [tpc]; exact h.claims),
    (by rw [drg]; exact h.count), (by rw [drg]; exact h.mode), (by unfold State.unqueued; rw [same]; exact h.waits),
    (by unfold NobodyWaits; rw [same]; exact h.idle),
    (map_standing_of_quiet (runAt_map_quiet hq i)).trans h.run, (by rw [reg]; exact h.reg), fun rests => ?_,
    fun timed => timed_of_quiet hq (h.timed timed)⟩
  obtain ⟨run, record, holds⟩ := h.rest rests
  refine ⟨(runAt_map_quiet hq i).trans run, reg.trans record, fun high none m => ?_⟩
  rw [State.arbiter, drg]
  exact holds high none m

theorem Reworked.markBoard (h : Reworked i s t) (p : Nat) : Reworked i s (t.markBoard p) :=
  h.quiet ((Played.refl t).markBoard p).quiet

theorem Reworked.markAllBoards (h : Reworked i s t) : Reworked i s t.markAllBoards :=
  Reworked.quiet (u := t.markAllBoards) h rfl

theorem Reworked.postWhere (h : Reworked i s t) (n : Notice) (p : Client → Bool) : Reworked i s (t.postWhere n p) := by
  obtain ⟨l, hl⟩ := postWhere_onCrp t n p
  exact h.quiet (by rw [hl]; rfl)

theorem Reworked.foldl {α : Type} {f : State → α → State} (hf : ∀ {u}, Reworked i s u → ∀ a, Reworked i s (f u a))
    (h : Reworked i s t) (l : List α) : Reworked i s (l.foldl f t) := by
  induction l generalizing t with
  | nil => exact h
  | cons a l ih => exact ih (hf h a)

/-- A change that leaves a run that stands at a stop standing there. -/
theorem Reworked.modRun (h : Reworked i s t) (hj : Movable s i j) {f : Run → Run}
    (hf : ∀ x, x.waitsAtStop = true → (f x).standing = x.standing) (hn : ∀ x, (f x).number = x.number) :
    Reworked i s (t.modRun j f) := by
  refine { h with
    names := (map_mod1 t.rtb.slots j fun z => by rcases z with ⟨g, _ | r⟩ <;> simp [RunSlot.name, hn]).trans h.names
    run := ?_
    rest := fun rests => ?_
    timed := fun timed => ?_ }
  · rw [modRun_runAt]
    split
    · next e =>
      have stands := hj.stands e
      obtain ⟨x, hx, -⟩ := hj.stands e
      obtain ⟨y, hy, standing⟩ := h.runAt hx
      rw [hy, hx]
      exact congrArg some ((hf y (waitsAtStop_of_standing standing ▸ waits_of_stands hx stands)).trans standing)
    · exact h.run
  · rw [modRun_runAt, if_neg fun e => rests (hj.stands e)]
    exact h.rest rests
  · obtain ⟨x, st, n, hx, rest⟩ := h.timed timed
    exact ⟨x, st, n, by rw [modRun_runAt, if_neg (hj.untimed timed)]; exact hx, rest⟩

theorem modReg_untimed (s : State) (i j : Nat) {f : RegRec → RegRec} (hf : ∀ r, (f r).untimed = r.untimed) :
    ((s.modReg j f).reg i).untimed = (s.reg i).untimed := by
  show ((get1 (mod1 s.drg.recs j f) i).getD RegRec.clear).untimed = ((get1 s.drg.recs i).getD RegRec.clear).untimed
  rw [get1_mod1]
  split
  · cases get1 s.drg.recs i with
    | none => rfl
    | some r => exact hf r
  · rfl

theorem Reworked.modReg (h : Reworked i s t) (hj : Movable s i j) {f : RegRec → RegRec}
    (hf : ∀ r, (f r).untimed = r.untimed) : Reworked i s (t.modReg j f) := by
  refine { h with
    reg := (modReg_untimed t i j hf).trans h.reg
    rest := fun rests => ?_
    timed := fun timed => ?_ }
  · obtain ⟨run, record, holds⟩ := h.rest rests
    exact ⟨run, (modReg_reg_ne (fun e => rests (hj.stands e.symm)) f).trans record, holds⟩
  · obtain ⟨x, st, n, hx, dwelling, hst, hn, timer⟩ := h.timed timed
    exact ⟨x, st, n, hx, dwelling, hst, hn, by rw [modReg_reg_ne (hj.untimed timed).symm]; exact timer⟩

theorem modArbiter_arbiter (s : State) (m k : Nat) (f : Arbiter → Arbiter) : (s.modArbiter m f).arbiter k =
    if m = k then ((get1 s.drg.arbiters k).map f).getD Arbiter.clear else s.arbiter k := by
  show (get1 (mod1 s.drg.arbiters m f) k).getD _ = _
  rw [get1_mod1]
  split <;> rfl

/-- A merge's holder changes, and a run that does not stand at a stop is not named. -/
theorem Reworked.modArbiter (h : Reworked i s t) (m : Nat) {f : Arbiter → Arbiter}
    (hf : ¬ s.stands i → i ≤ 128 → ∀ a, a.holder ≠ some (s.runHandle i) → (f a).holder ≠ some (s.runHandle i)) :
    Reworked i s (t.modArbiter m f) := by
  refine { h with rest := fun rests => ?_ }
  obtain ⟨run, record, holds⟩ := h.rest rests
  refine ⟨run, record, fun high none k => ?_⟩
  have before := holds high none k
  rw [modArbiter_arbiter]
  split
  · unfold State.arbiter at before
    cases hg : get1 t.drg.arbiters k with
    | none => simp [Arbiter.clear]
    | some a => rw [hg] at before; exact hf rests high a before
  · exact before

/-- A substation's record changes, and its wait queue gains nothing. -/
theorem Reworked.modSub (h : Reworked i s t) (k : Nat) {f : SubLive → SubLive} (hf : ∀ z, (f z).queue ⊆ z.queue) :
    Reworked i s (t.modSub k f) := by
  have old {l : Nat} {w : SubLive} (hw : (t.modSub k f).sub l = some w) :
      ∃ z, t.sub l = some z ∧ w.queue ⊆ z.queue := by
    have hw : look (modLook t.tpc.subs k f) l = some w := hw
    rw [look_modLook] at hw
    split at hw
    · obtain ⟨z, hz, rfl⟩ := Option.map_eq_some_iff.1 hw
      exact ⟨z, hz, hf z⟩
    · exact ⟨w, hw, List.Subset.refl _⟩
  refine { h with waits := fun k hs l w hw e he => ?_, idle := fun hs l w hw => ?_ }
  · obtain ⟨z, hz, sub⟩ := old hw
    exact h.waits k hs l z hz e (sub he)
  · obtain ⟨z, hz, sub⟩ := old hw
    rw [h.idle hs l z hz] at sub
    exact List.subset_nil.1 sub

theorem Reworked.leaveQueues (h : Reworked i s t) (k : Nat) : Reworked i s (t.leaveQueues k) :=
  Reworked.foldl (fun hu a => hu.modSub a (f := fun z => { z with queue := z.queue.filter fun e => e.run != k })
    fun _ => List.filter_subset_self _) h (ids 8)

/-! ### Merges (R95, R96) -/

/-- A change of a standing run's causes. -/
theorem standing_causes (x : Run) (c : Causes) : ({ x with causes := c } : Run).standing = x.standing := by
  unfold Run.standing
  rw [modStop_eq, modStop_eq]

theorem Reworked.causes (h : Reworked i s t) (hj : Movable s i j) (c : Run → Causes) :
    Reworked i s (t.modRun j fun y => { y with causes := c y }) :=
  h.modRun hj (fun _ _ => standing_causes _ _) fun _ => rfl

/-- A HELD run becomes the holder of a merge. -/
theorem Reworked.holder (h : Reworked i s t) (hx : t.runAt j = some x) (held : x.state = .held) (m : Nat) :
    Reworked i s (t.modArbiter m fun a => { a with holder := some (t.runHandle j) }) := by
  refine h.modArbiter m fun rests high a _ e => ?_
  have other : j ≠ i := fun e => rests ((h.movable hx held).stands e)
  exact runHandle_ne (runAt_range hx).2 high other (Option.some.inj e)

theorem Reworked.nameHolder (h : Reworked i s t) (hx : t.runAt j = some x) (held : x.state = .held) (m : Nat) :
    Reworked i s (t.nameHolder m j) := by
  have named := h.holder hx held m
  unfold State.nameHolder
  dsimp only
  split
  · exact named.causes (h.movable hx held) fun y => { y.causes with merge := false }
  · exact named

theorem Reworked.chooseHolder (h : Reworked i s t) (m : Nat) : Reworked i s (t.chooseHolder m) := by
  unfold State.chooseHolder
  split
  · split
    · next w hw =>
      obtain ⟨x, hx, held⟩ := contenders_held (first_mem hw)
      exact h.nameHolder hx held m
    · exact h
  · exact h

theorem Reworked.loseHolderAt (h : Reworked i s t) (k m : Nat) : Reworked i s (t.loseHolderAt k m) := by
  unfold State.loseHolderAt
  split
  · exact (h.modArbiter m fun _ _ _ _ e => by cases e).chooseHolder m
  · exact h

theorem Reworked.loseHolder (h : Reworked i s t) (k : Nat) : Reworked i s (t.loseHolder k) :=
  Reworked.foldl (fun hu m => hu.loseHolderAt k m) h _

theorem Reworked.settleMerge (h : Reworked i s t) (k : Nat) : Reworked i s (t.settleMerge k) := by
  unfold State.settleMerge
  split
  · split
    · split
      · exact h.chooseHolder _
      · exact h
    · exact h
  · exact h

theorem Reworked.evalMerge (h : Reworked i s t) (hx : t.runAt j = some x) (held : x.state = .held) (r : Run)
    (others : Bool) : Reworked i s (t.evalMerge j r others).1 := by
  unfold State.evalMerge
  split
  · exact h
  · next m _ _ =>
    split
    · exact h
    · split
      · exact h
      · split
        · exact h
        · split
          · exact h
          · split
            · exact h
            · next w hw =>
              split
              · exact h.holder hx held m
              · next hne =>
                have contends : w ∈ t.contenders m := by
                  have hw := first_mem hw
                  exact (List.mem_filter.1 ((List.mem_cons.1 hw).resolve_left hne)).1
                obtain ⟨y, hy, held⟩ := contenders_held contends
                exact h.nameHolder hy held m

/-! ### Rechecks (R84, R85) -/

theorem Reworked.holdFor (h : Reworked i s t) (hj : Movable s i j) (g : Causes) : Reworked i s (t.holdFor j g) := by
  have held : Reworked i s (t.modRun j fun x => { x with state := .held, causes := g }) := by
    refine h.modRun hj (fun x waits => ?_) fun _ => rfl
    unfold Run.standing
    rw [modStop_eq, modStop_eq]
    rcases waitsAtStop_iff.1 waits with e | e <;> simp [e]
  have stopped := held.modReg hj (f := fun z => { z with releaseTimer := none }) fun _ => rfl
  unfold State.holdFor
  exact (stopped.loseHolder _).settleMerge j

theorem Reworked.recheckWaiting (h : Reworked i s t) (hx : t.runAt j = some x) (held : x.state = .held) (r : Run) :
    Reworked i s (t.recheckWaiting j r) := by
  have gated := h.evalMerge hx held r (!(t.plainGates j r).isEmpty)
  unfold State.recheckWaiting
  dsimp only
  split
  · exact gated
  · exact Reworked.holdFor (gated.leaveQueues _) (h.movable hx held) _

theorem Reworked.recheckRun (h : Reworked i s t) (mask : Causes) (j : Nat) :
    Reworked i s (State.recheckRun mask t j) := by
  unfold State.recheckRun
  split
  · exact h
  · next r hr =>
    split
    · exact h
    · next held =>
      have held := not_not.1 held
      split
      · exact h.recheckWaiting hr held r
      · have merged : Reworked i s (if mask.merge && r.causes.merge then
            t.evalMerge j r (!(t.plainGates j r).isEmpty) else (t, false)).1 := by
          split
          · exact h.evalMerge hr held r _
          · exact h
        revert merged
        dsimp only
        generalize (if mask.merge && r.causes.merge then t.evalMerge j r (!(t.plainGates j r).isEmpty)
          else (t, false)) = y
        intro merged
        split
        · exact merged
        · exact merged.causes (h.movable hr held) _

theorem Reworked.recheck (h : Reworked i s t) (mask : Causes) (l : List Nat) : Reworked i s (t.recheck mask l) := by
  refine Reworked.foldl (fun hu j => ?_) (Reworked.foldl (fun hu j => hu.recheckRun mask j) h l) l
  split
  · exact hu
  · exact hu.settleMerge j

/-! ### Releases computed again (R79, R80) -/

theorem withRelease_standing (x : Run) (n : Nat) : (x.withRelease n).standing = x.standing := by
  unfold Run.standing
  rw [modStop_eq, modStop_eq, withRelease_eq]
  by_cases h : x.cur = 0
  · simp only [h, if_true]
  · simp only [h, if_false, List.modify_modify_eq]
    rfl

/-- A release time written to a run and to its timer. -/
def State.withTimer (s : State) (j n : Nat) : State :=
  (s.modRun j fun x => x.withRelease n).modReg j fun z => { z with releaseTimer := some n }

theorem withTimer_runAt (s : State) (j n : Nat) : (s.withTimer j n).runAt i =
    if j = i then (s.runAt i).map fun x => x.withRelease n else s.runAt i := modRun_runAt ..

theorem withTimer_timer (low : 1 ≤ j) (high : j ≤ 128) (s : State) (n : Nat) :
    ((s.withTimer j n).reg j).releaseTimer = some n := by
  unfold State.withTimer
  rw [modReg_reg_self low high]

theorem withTimer_reg_ne (h : i ≠ j) (s : State) (n : Nat) : (s.withTimer j n).reg i = s.reg i :=
  modReg_reg_ne (s := s.modRun j fun x => x.withRelease n) h _

/-- A DWELLING run whose release is written has its timer set to it. -/
theorem withTimer_timed (hx : s.runAt i = some x) (dwelling : x.state = .dwelling) (stands : (x.stopAt x.cur).isSome)
    (n : Nat) : (s.withTimer i n).timed i := by
  obtain ⟨st, hst⟩ := Option.isSome_iff_exists.1 stands
  obtain ⟨low, high⟩ := runAt_range hx
  have standing : x.cur ≠ 0 := by
    intro h0
    simp [Run.stopAt, h0] at hst
  refine ⟨x.withRelease n, { st with release := some n }, n, ?_, ?_, ?_, rfl, withTimer_timer low high s n⟩
  · rw [withTimer_runAt, if_pos rfl, hx]
    rfl
  · rw [withRelease_state]; exact dwelling
  · rw [withRelease_cur]
    exact (stopAt_modStop_self x standing _).trans (by rw [hst]; rfl)

/-- Where the run was DWELLING with its timer set, it is so again. -/
theorem timed_withTimer (h : s.timed i) (j n : Nat) : (s.withTimer j n).timed i := by
  obtain ⟨x, st, m, hx, dwelling, hst, hm, timer⟩ := h
  by_cases e : j = i
  · subst e
    exact withTimer_timed hx dwelling (by rw [hst]; rfl) n
  · exact ⟨x, st, m, by rw [withTimer_runAt, if_neg e]; exact hx, dwelling, hst, hm,
      by rw [withTimer_reg_ne fun e' => e e'.symm]; exact timer⟩

theorem Reworked.withTimer (h : Reworked i s t) (hj : j = i → s.stands i) (n : Nat) :
    Reworked i s (t.withTimer j n) := by
  refine { h with
    names := (map_mod1 t.rtb.slots j fun z => by
      rcases z with ⟨g, _ | x⟩ <;> simp [RunSlot.name, withRelease_number]).trans h.names
    run := ?_
    reg := (modReg_untimed (t.modRun j fun x => x.withRelease n) i j (f := fun z => { z with releaseTimer := some n })
      fun _ => rfl).trans h.reg
    rest := fun rests => ?_
    timed := fun timed => timed_withTimer (h.timed timed) j n }
  · rw [withTimer_runAt]
    split
    · rw [Option.map_map]
      exact (congrArg (fun f => (t.runAt i).map f) (funext fun x => withRelease_standing x n)).trans h.run
    · exact h.run
  · have other : j ≠ i := fun e => rests (hj e)
    rw [withTimer_runAt, if_neg other, withTimer_reg_ne other.symm]
    exact h.rest rests

theorem Reworked.applyRelease (h : Reworked i s t) (hj : j = i → s.stands i) (r : Run) (n : Nat) :
    Reworked i s (t.applyRelease j r n) :=
  (h.withTimer hj n).quiet (applyRelease_quiet t j r n)

theorem Reworked.recomputeRun (h : Reworked i s t) (j : Nat) : Reworked i s (t.recomputeRun j) := by
  unfold State.recomputeRun
  split
  · exact h
  · next r hr =>
    split
    · exact h
    · next due =>
      split
      · next dwelling =>
        refine h.applyRelease (fun e => ?_) _ _
        subst e
        exact h.stands_of ⟨_, hr, .inr ⟨dwelling, by simp_all⟩⟩
      · next held =>
        split
        · exact h
        · have hj := h.movable hr held
          have dwelling : Reworked i s (t.modRun j fun x => { x with state := .dwelling, causes := Causes.none }) := by
            refine h.modRun hj (fun x waits => ?_) fun _ => rfl
            unfold Run.standing
            rw [modStop_eq, modStop_eq]
            rcases waitsAtStop_iff.1 waits with e | e <;> simp [e]
          exact ((dwelling.leaveQueues _).loseHolder _).applyRelease hj.stands _ _
      · exact h

theorem Reworked.recompute (h : Reworked i s t) (l : List Nat) : Reworked i s (t.recompute l) :=
  Reworked.foldl (fun hu j => hu.recomputeRun j) h l

/-- A segment's queue has changed. -/
theorem Reworked.queueChanged (h : Reworked i s t) (g : Nat) : Reworked i s (t.queueChanged g) :=
  ((h.recheck _ _).recompute _).markBoard _

/-- The line STALE mark has changed. -/
theorem Reworked.staleChanged (h : Reworked i s t) (e : LineEvent) : Reworked i s (t.staleChanged e) := by
  have posted : Reworked i s (t.postLineEvent e) := h.postWhere _ _
  exact (posted.recompute _).markAllBoards

end Sys2Proof.Machine
end

/-! ## The conflict and the service that end a report (R59, R112, R143, R144) -/

section
namespace Sys2Proof.Machine
variable {s t u v : State} {i j p h : Nat} {x y : Run} {k : ConflictKind}

/-! ### The service of the wait queues -/

/-- A timing point without its last release. -/
def TpLive.unserved (z : TpLive) : TpLive := { z with lr := none }

/-- The incident table, the unmatched counter, the counters of punctuality and the track, without the merge order lists
and the last releases: what the service of the wait queues leaves. -/
def State.unserved (s : State) : Itb × Nat × Vector Counters 4 × Mvt :=
  (s.itb, s.fli.unmatched, s.rtb.counters,
    { s.mvt with mergeLists := Vector.replicate 2 [], points := s.mvt.points.map TpLive.unserved })

theorem recordClaim_unserved (s : State) (j sub sec cost : Nat) :
    (s.recordClaim j sub sec cost).unserved = s.unserved := rfl

theorem recordGrant_unserved (s : State) (j : Nat) (r : Run) : (s.recordGrant j r).unserved = s.unserved := by
  unfold State.recordGrant
  dsimp only
  split
  · rfl
  · split <;> rfl

theorem lr_unserved (s : State) (p n : Nat) : (s.modTp p fun z => { z with lr := some n }).unserved = s.unserved :=
  congrArg (fun v => (s.itb, s.fli.unmatched, s.rtb.counters,
    ({ s.mvt with mergeLists := Vector.replicate 2 [], points := v } : Mvt))) (map_mod1 s.mvt.points p fun _ => rfl)

theorem modRun_unserved (s : State) (j : Nat) (f : Run → Run) : (s.modRun j f).unserved = s.unserved := rfl
theorem modReg_unserved (s : State) (j : Nat) (f : RegRec → RegRec) : (s.modReg j f).unserved = s.unserved := rfl
theorem onDrg_unserved (s : State) (f : Drg → Drg) : (s.onDrg f).unserved = s.unserved := rfl
theorem order_unserved (s : State) (o : Order) : (s.order o).unserved = s.unserved := by cases o <;> rfl

theorem completeRelease_unserved (s : State) (j : Nat) : (s.completeRelease j).unserved = s.unserved := by
  unfold State.completeRelease
  split
  · rfl
  · simp only [onDrg_unserved, modReg_unserved, modRun_unserved, lr_unserved, order_unserved, recordGrant_unserved]

theorem grantHead_unserved (s : State) (k : Nat) (e : WaitEntry) : (s.grantHead k e).unserved = s.unserved := by
  unfold State.grantHead
  dsimp only
  split
  · exact (completeRelease_unserved _ _).trans (recordClaim_unserved _ _ _ _ _)
  · rfl

theorem serveQueue_unserved (k n : Nat) (s : State) : (State.serveQueue k n s).unserved = s.unserved := by
  induction n generalizing s with
  | zero => rfl
  | succ n ih =>
    unfold State.serveQueue
    split
    · rfl
    · split
      · exact (ih _).trans (grantHead_unserved ..)
      · rfl

theorem serveLeft_unserved (t v : State) : (t.serveLeft v).unserved = t.unserved := by
  refine foldl_same State.unserved _ (fun u k => ?_) (ids 8) t
  split
  · rfl
  · exact serveQueue_unserved k _ u

/-- With no run waiting the service does nothing. -/
theorem serveLeft_of_nobody (h : NobodyWaits t) (v : State) : t.serveLeft v = t := by
  have served (k : Nat) : t.serveSub k = t := by
    unfold State.serveSub
    cases hz : t.sub k with
    | none => rfl
    | some z => simp [h k z hz, State.serveQueue]
  unfold State.serveLeft
  refine (congrArg (fun f => (ids 8).foldl f t) (funext fun _ => funext fun _ => rfl)).trans ?_
  induction ids 8 with
  | nil => rfl
  | cons a l ih =>
    rw [List.foldl_cons]
    split
    · exact ih
    · rw [served]; exact ih

/-- A run that is the holder of no merge is named by no release of another run. -/
theorem recordGrant_holdsNone (hs : s.holdsNone h) (j : Nat) (r : Run) : (s.recordGrant j r).holdsNone h := by
  unfold State.recordGrant
  dsimp only
  split
  · exact hs
  · split
    · intro m
      have := hs m
      unfold State.arbiter at this
      show ((get1 (mod1 s.drg.arbiters _ _) m).getD Arbiter.clear).holder ≠ some h
      rw [get1_mod1]
      split
      · cases get1 s.drg.arbiters m <;> simp [Arbiter.clear]
      · exact this
    · exact hs

theorem holdsNone_of_arbiters (ht : t.drg.arbiters = s.drg.arbiters) (hs : s.holdsNone h) : t.holdsNone h := fun m => by
  rw [State.arbiter, ht]
  exact hs m

theorem modReg_arbiters (s : State) (j : Nat) (f : RegRec → RegRec) :
    (s.modReg j f).drg.arbiters = s.drg.arbiters := rfl

theorem completeRelease_holdsNone (hs : s.holdsNone h) (j : Nat) : (s.completeRelease j).holdsNone h := by
  unfold State.completeRelease
  split
  · exact hs
  · next r _ =>
    refine holdsNone_of_arbiters ?_ (recordGrant_holdsNone hs j r)
    simp only [onDrg_drg, modReg_arbiters, modRun_drg, modTp_drg, order_drg]

theorem grantHead_holdsNone (hs : s.holdsNone h) (k : Nat) (e : WaitEntry) : (s.grantHead k e).holdsNone h := by
  unfold State.grantHead
  dsimp only
  split
  · exact completeRelease_holdsNone (s := State.recordClaim (s.modSub k fun x => { x with queue := x.queue.drop 1 }) ..)
      hs _
  · exact hs

theorem serveQueue_holdsNone (hs : s.holdsNone h) (k n : Nat) : (State.serveQueue k n s).holdsNone h := by
  induction n generalizing s with
  | zero => exact hs
  | succ n ih =>
    unfold State.serveQueue
    split
    · exact hs
    · split
      · exact ih (grantHead_holdsNone hs _ _)
      · exact hs

theorem serveLeft_holdsNone (ht : t.holdsNone h) (v : State) : (t.serveLeft v).holdsNone h := by
  unfold State.serveLeft
  generalize hf : (fun u i => if v.waiting i = t.waiting i then u else State.serveSub u i) = f
  have kept (u : State) (hu : u.holdsNone h) (k : Nat) : (f u k).holdsNone h := by
    subst hf
    dsimp only
    split
    · exact hu
    · exact serveQueue_holdsNone hu _ _
  clear hf
  induction ids 8 generalizing t with
  | nil => exact ht
  | cons a l ih => exact ih (kept t ht a)

/-! ### Automatic incidents -/

/-- An incident raised in a free slot with no run to link. -/
theorem raiseIn_raised (hj : s.freeInc = some j) (y : RaiseSpec) : ∃ b l z, s.raiseIn j y =
    { s with itb := b, crp := { s.crp with notices := l } } ∧ (s.raiseIn j y).incAt j = some z ∧
      z.auto = y.auto ∧ z.detail = y.detail ∧ z.kind = y.kind ∧ z.severity = y.severity ∧ z.state = .raised ∧
      z.source = y.source := by
  obtain ⟨z, hz, -⟩ := freeInc_eq_some hj
  obtain ⟨number, desks, l, raised⟩ := raiseIn_eq s j y
  refine ⟨_, l, s.newIncident y number, raised, ?_, rfl, rfl, rfl, rfl, rfl, rfl⟩
  rw [raised]
  simp [State.incAt, get1_mod1_self, hz]

/-- The incidents linked to a run, with one more where its list has room (R145). -/
def Run.link (x : Run) (h : Nat) : Run :=
  { x with incidents := if x.incidents.length < 4 then x.incidents ++ [h] else x.incidents }

/-- What a conflict raised for the run in slot `i` changes: the incident table, the notices, and the run's links. -/
structure Conflicted (i j p : Nat) (k : ConflictKind) (s t : State) : Prop where
  rest : t = { s with itb := t.itb, rtb := t.rtb, crp := { s.crp with notices := t.crp.notices } }
  raised : ConflictRaised t j (s.runHandle i) p k
  run : t.runAt i = (s.runAt i).map fun x => x.link (s.incHandle j)
  handle : t.runHandle i = s.runHandle i
  counters : t.rtb.counters = s.rtb.counters

/-- The conflict of a live run takes the free slot of the incident table. -/
theorem conflict_raised (hx : s.runAt i = some x) (hj : s.freeInc = some j) (p : Nat) (k : ConflictKind) :
    Conflicted i j p k s (s.conflict (s.runHandle i) p k) := by
  obtain ⟨u, hu⟩ : ∃ u, u = s.raiseIn j ⟨.signalData, 1, .engine, some .reportConflict,
    some (.ofConflict (s.runHandle i) p k), 1⟩ := ⟨_, rfl⟩
  obtain ⟨b, l, z, raised, hz, auto, detail, kind, severity, state, source⟩ := raiseIn_raised hj
    ⟨.signalData, 1, .engine, some .reportConflict, some (.ofConflict (s.runHandle i) p k), 1⟩
  rw [← hu] at raised hz
  have run : u.runAt i = some x := by rw [raised]; exact hx
  have handles (n : Nat) : u.runHandle n = s.runHandle n := by rw [raised]; rfl
  have found : u.resolveRun (s.runHandle i) = .live i := by rw [← handles i]; exact resolveRun_runHandle run
  have requested : s.conflict (s.runHandle i) p k =
      if x.incidents.length < 4 then u.linkBoth j i else u := by
    rw [State.conflict, State.requestAuto, if_neg (by simp), hj]
    show State.raiseAuto .. = _
    unfold State.raiseAuto
    simp only [AutoCause.kind, AutoCause.severity, ← hu, AutoDetail.run, Option.map_some, Option.bind_some, found,
      Resolved.slot?, run, Option.any_some, decide_eq_true_eq]
  have incident : u.incHandle j = s.incHandle j := by
    obtain ⟨number, desks, l, he⟩ := raiseIn_eq s j ⟨.signalData, 1, .engine, some .reportConflict,
      some (.ofConflict (s.runHandle i) p k), 1⟩
    rw [← hu] at he
    rw [he]
    unfold State.incHandle
    simp only [get1_mod1, if_true]
    cases get1 s.itb.slots j <;> rfl
  rw [requested]
  split
  · next room =>
    refine ⟨?_, ⟨{ z with runs := z.runs ++ [u.runHandle i] }, ?_, auto, detail, kind, severity, state, source⟩, ?_, ?_,
      ?_⟩
    · rw [raised]; rfl
    · show ((u.modInc j _).incAt j) = _
      unfold State.incAt at hz ⊢
      obtain ⟨w, hw, hinc⟩ := Option.bind_eq_some_iff.1 hz
      show (get1 (mod1 u.itb.slots j _) j).bind _ = _
      rw [get1_mod1_self, hw]
      simp [hinc]
    · show ((u.modInc j _).modRun i _).runAt i = _
      rw [modRun_runAt, if_pos rfl]
      show (u.runAt i).map _ = _
      rw [run, hx, incident]
      simp [Run.link, room]
    · show ((u.modInc j _).modRun i _).runHandle i = _
      rw [modRun_runHandle]
      exact handles i
    · show u.rtb.counters = _
      rw [raised]
  · next full =>
    refine ⟨by rw [raised], ⟨z, hz, auto, detail, kind, severity, state, source⟩, ?_, handles i, by rw [raised]⟩
    rw [run, hx]
    simp [Run.link, full]

/-- With the incident table full, a conflict joins the pending set. -/
theorem conflict_pending (hj : s.freeInc = none) (h p : Nat) (k : ConflictKind) :
    s.conflict h p k = s.enterPending .reportConflict (.ofConflict h p k) := by
  rw [State.conflict, State.requestAuto, if_neg (by simp), hj]

/-! ### The end of a report's event -/

/-- A run without its delay announcement and its links with incidents. -/
def Run.unlinked (x : Run) : Run := { x with autoDelay := none, incidents := [] }

/-- What the conflict and the service that end a report's event leave of the run in slot `i` and of the track. -/
structure Concluded (i : Nat) (s t : State) : Prop where
  run : ∀ x, s.runAt i = some x → ∃ y, t.runAt i = some y ∧ y.unlinked = x.unlinked
  reg : t.reg i = s.reg i
  claim : t.claim i = s.claim i
  waits : s.unqueued (s.runHandle i) → WaitsNowhere t i
  merges : ∀ m, s.runHandle i ∉ s.mergeList m → s.runHandle i ∉ t.mergeList m
  holders : s.holdsNone (s.runHandle i) → t.holdsNone (s.runHandle i)
  segs : t.mvt.segs = s.mvt.segs
  points : ∀ p, (t.tp p).unserved = (s.tp p).unserved
  stale : t.mvt.stale = s.mvt.stale
  staleTimer : t.mvt.staleTimer = s.mvt.staleTimer
  counters : t.rtb.counters = s.rtb.counters
  unmatched : t.fli.unmatched = s.fli.unmatched
  idle : NobodyWaits s → t.mvt = s.mvt

theorem tp_unserved (s : State) (p : Nat) :
    (s.tp p).unserved = (get1 s.unserved.2.2.2.points p).getD TpLive.empty := by
  show _ = (get1 (s.mvt.points.map TpLive.unserved) p).getD TpLive.empty
  rw [get1_map]
  unfold State.tp
  cases get1 s.mvt.points p <;> rfl

theorem Concluded.occupant (h : Concluded i s t) (p : Nat) : (t.tp p).occupant = (s.tp p).occupant :=
  (congrArg TpLive.occupant (h.points p) :)

theorem Concluded.seg (h : Concluded i s t) (g : Nat) : t.seg g = s.seg g := by
  rw [State.seg, h.segs]
  rfl

/-- The service of the wait queues, in none of which the run stands. -/
theorem concluded_serveLeft (high : i ≤ 128) (free : u.unqueued (u.runHandle i)) (v : State) :
    Concluded i u (u.serveLeft v).finish := by
  have apart := (Apart.refl i u).serveLeft high free v
  have same := sameBlocks_finish (u.serveLeft v)
  have spared := serveLeft_unserved u v
  refine ⟨fun x hx => ?_, (same.reg i).trans apart.reg, (same.claim i).trans apart.claim, fun _ => ?_, fun m hm => ?_,
    fun none m => ?_, by rw [same.mvt]; exact apart.segs, fun p => ?_, ?_, ?_,
    by rw [same.rtb]; exact apart.counters, ?_, fun nobody => ?_⟩
  · obtain ⟨y, hy, quiet⟩ := apart.runAt hx
    exact ⟨y, (same.runAt i).trans hy, (congrArg Run.unlinked quiet :)⟩
  · unfold WaitsNowhere
    rw [same.runHandle, apart.runHandle, show (u.serveLeft v).finish.sub = (u.serveLeft v).sub from funext same.sub]
    exact apart.waits free
  · rw [same.mergeList]
    exact apart.merges m hm
  · rw [State.arbiter, same.drg]
    exact serveLeft_holdsNone none v m
  · rw [same.tp, tp_unserved, tp_unserved, spared]
  · rw [same.mvt]
    exact (congrArg (fun z => z.2.2.2.stale) spared :)
  · rw [same.mvt]
    exact (congrArg (fun z => z.2.2.2.staleTimer) spared :)
  · exact (finish_unmatched _).trans (congrArg (fun z => z.2.1) spared :)
  · rw [same.mvt, serveLeft_of_nobody nobody]

/-- A conflict before that end. -/
theorem Concluded.conflicted (h : Concluded i u t) (hc : Conflicted i j p k s u) : Concluded i s t := by
  have drg : u.drg = s.drg := by rw [hc.rest]
  have tpc : u.tpc = s.tpc := by rw [hc.rest]
  have mvt : u.mvt = s.mvt := by rw [hc.rest]
  have fli : u.fli = s.fli := by rw [hc.rest]
  have subs : u.sub = s.sub := funext fun n => by rw [State.sub, tpc]; rfl
  have arbiters : u.arbiter = s.arbiter := funext fun m => by rw [State.arbiter, drg]; rfl
  have lists : u.mergeList = s.mergeList := funext fun m => by rw [State.mergeList, mvt]; rfl
  have points : u.tp = s.tp := funext fun p => by rw [State.tp, mvt]; rfl
  have reg : u.reg i = s.reg i := by rw [State.reg, drg]; rfl
  have claim : u.claim i = s.claim i := by rw [State.claim, tpc]; rfl
  obtain ⟨run, reg', claim', waits, merges, holders, segs, points', stale, timer, counters, unmatched, idle⟩ := h
  unfold State.unqueued State.holdsNone at *
  unfold NobodyWaits at idle
  rw [subs] at waits idle
  rw [lists] at merges
  rw [arbiters] at holders
  rw [points] at points'
  rw [hc.handle] at waits merges holders
  rw [mvt] at segs stale timer idle
  refine ⟨fun x hx => ?_, reg'.trans reg, claim'.trans claim, waits, merges, holders, segs, points', stale, timer,
    counters.trans hc.counters, unmatched.trans (by rw [fli]), idle⟩
  obtain ⟨y, hy, same⟩ := run _ (hc.run.trans (congrArg _ hx))
  exact ⟨y, hy, same⟩

theorem concluded (hx : s.runAt i = some x) (free : s.unqueued (s.runHandle i)) {k : Option ConflictKind}
    (hj : k ≠ none → s.freeInc = some j) (p : Nat) (v : State) :
    Concluded i s ((s.conflict? (s.runHandle i) p k).serveLeft v).finish ∧
    ConflictSettled s ((s.conflict? (s.runHandle i) p k).serveLeft v).finish j (s.runHandle i) p k := by
  obtain ⟨-, high⟩ := runAt_range hx
  have table (w : State) : (w.serveLeft v).finish.itb = w.itb :=
    (sameBlocks_finish _).itb.trans (congrArg Prod.fst (serveLeft_unserved w v))
  cases k with
  | none =>
    refine ⟨concluded_serveLeft high free v, ?_⟩
    show (s.serveLeft v).finish.itb.nextNumber = _
    rw [table]
  | some k =>
    have raised := conflict_raised hx (hj (by simp)) p k
    obtain ⟨u, hu⟩ : ∃ u, u = s.conflict (s.runHandle i) p k := ⟨_, rfl⟩
    rw [← hu] at raised
    have free' : u.unqueued (u.runHandle i) := by
      rw [raised.handle, raised.rest]
      exact free
    show Concluded i s ((s.conflict (s.runHandle i) p k).serveLeft v).finish ∧ ConflictRaised _ j _ p k
    rw [← hu]
    refine ⟨(concluded_serveLeft high free' v).conflicted raised, ?_⟩
    have stands : ConflictRaised (s.conflict (s.runHandle i) p k) j (s.runHandle i) p k := hu ▸ raised.raised
    unfold ConflictRaised State.incAt
    rw [table]
    exact stands

end Sys2Proof.Machine
end

/-! ## A report taken: the stale timer, the moves on the track (R55 to R66, R71) -/

section
namespace Sys2Proof.Machine
variable {s t u v : State} {i j p g h m n : Nat} {x y : Run} {st : Stop}

/-! ### What a run's move leaves alone -/

/-- What the moves of a run between stops leave of the state: all that is not the track, the power or the regulation,
the slots of the incident table but for linked announcements, and the staleness; no run enters a wait queue. -/
structure Onward (s t : State) : Prop where
  kept : t.kept = s.kept
  names : t.rtb.slots.map RunSlot.name = s.rtb.slots.map RunSlot.name
  counters : t.rtb.counters = s.rtb.counters
  itb : t.quiet.itb = s.quiet.itb
  unmatched : t.fli.unmatched = s.fli.unmatched
  stale : t.mvt.stale = s.mvt.stale
  staleTimer : t.mvt.staleTimer = s.mvt.staleTimer
  waits : ∀ h, s.unqueued h → t.unqueued h
  idle : NobodyWaits s → NobodyWaits t

theorem Onward.refl (s : State) : Onward s s := ⟨rfl, rfl, rfl, rfl, rfl, rfl, rfl, fun _ h => h, fun h => h⟩

theorem Onward.trans (h : Onward s t) (h' : Onward t u) : Onward s u where
  kept := h'.kept.trans h.kept
  names := h'.names.trans h.names
  counters := h'.counters.trans h.counters
  itb := h'.itb.trans h.itb
  unmatched := h'.unmatched.trans h.unmatched
  stale := h'.stale.trans h.stale
  staleTimer := h'.staleTimer.trans h.staleTimer
  waits k w := h'.waits k (h.waits k w)
  idle w := h'.idle (h.idle w)

theorem Reworked.onward (h : Reworked i s t) : Onward s t where
  kept := h.kept
  names := h.names
  counters := h.counters
  itb := (congrArg Prod.snd h.ground :)
  unmatched := h.unmatched
  stale := by rw [h.mvt]
  staleTimer := by rw [h.mvt]
  waits := h.waits
  idle := h.idle

theorem Onward.quiet (h : Onward s t) (hq : u.quiet = t.quiet) : Onward s u :=
  h.trans ((Reworked.refl 0 t).quiet hq).onward

theorem Onward.runHandle (h : Onward s t) (j : Nat) : t.runHandle j = s.runHandle j := runHandle_of_names h.names j

theorem Onward.modRun (h : Onward s t) (j : Nat) {f : Run → Run} (hn : ∀ x, (f x).number = x.number) :
    Onward s (t.modRun j f) :=
  { h with names := (map_mod1 t.rtb.slots j fun z => by
      rcases z with ⟨g, _ | r⟩ <;> simp [RunSlot.name, hn]).trans h.names }

theorem Onward.modReg (h : Onward s t) (j : Nat) (f : RegRec → RegRec) : Onward s (t.modReg j f) := { h with }
theorem Onward.modSeg (h : Onward s t) (g : Nat) (f : SegLive → SegLive) : Onward s (t.modSeg g f) := { h with }
theorem Onward.modTp (h : Onward s t) (p : Nat) (f : TpLive → TpLive) : Onward s (t.modTp p f) := { h with }
theorem Onward.modMergeList (h : Onward s t) (m : Nat) (f : List Nat → List Nat) : Onward s (t.modMergeList m f) :=
  { h with }

theorem Onward.returnClaim (h : Onward s t) (j : Nat) : Onward s (t.returnClaim j) := by
  refine h.trans ?_
  unfold State.returnClaim
  split
  · exact .refl t
  · next c _ =>
    have lowered : Onward t (t.modSub c.sub fun z => { z with inUse := z.inUse - c.cost }) :=
      (Reworked.modSub (.refl 0 t) c.sub (f := fun z => { z with inUse := z.inUse - c.cost })
        fun _ => List.Subset.refl _).onward
    exact Onward.modRun (t := (t.modSub c.sub fun z => { z with inUse := z.inUse - c.cost }).putClaim j none)
      { lowered with } j (f := fun r => { r with claimPresent := false }) fun _ => rfl

theorem Onward.computeRelease (h : Onward s t) (j : Nat) : Onward s (t.computeRelease j) := by
  cases hx : t.runAt j with
  | none => rw [State.computeRelease, hx]; exact h
  | some x =>
    obtain ⟨-, n, quiet⟩ | ⟨-, same⟩ := computeRelease_cases hx
    · exact ((h.modRun j fun x => withRelease_number x n).modReg j _).quiet quiet
    · rw [same]; exact h

theorem Onward.queueChanged (h : Onward s t) (g : Nat) : Onward s (t.queueChanged g) :=
  h.trans ((Reworked.refl 0 t).queueChanged g).onward

/-! ### The incident table under it -/

theorem freeInc_of_itb (h : t.quiet.itb = s.quiet.itb) : t.freeInc = s.freeInc := by
  have read (u : State) (k : Nat) : ((get1 u.itb.slots k).any fun z => z.inc.isNone) =
      (get1 u.quiet.itb.slots k).any fun z => z.inc.isNone := by
    show _ = (get1 (u.itb.slots.map IncSlot.quiet) k).any _
    rw [get1_map]
    cases get1 u.itb.slots k with
    | none => rfl
    | some z => cases hz : z.inc <;> simp [IncSlot.quiet, hz]
  exact congrArg (fun f => (ids 48).find? f) (funext fun k => (read t k).trans (by rw [h, ← read s]))

theorem nextNumber_of_itb (h : t.quiet.itb = s.quiet.itb) : t.itb.nextNumber = s.itb.nextNumber :=
  (congrArg Itb.nextNumber h :)

/-! ### The stale timer -/

/-- The stale timer set again, and the line not STALE. -/
def State.restarted (s : State) : State :=
  s.onMvt fun m => { m with staleTimer := some (s.after s.lds.params.tStale), stale := false }

theorem restartStale_fresh (h : s.mvt.stale = false) : s.restartStale = s.restarted := by
  unfold State.restartStale
  rw [h]
  rfl

theorem reworked_restartStale (i : Nat) (s : State) : Reworked i s.restarted s.restartStale := by
  unfold State.restartStale
  dsimp only
  split
  · exact (Reworked.refl i s.restarted).staleChanged _
  · exact .refl i _

/-- A report for a live run at a known timing point is taken up for the run as the stale timer's restart leaves it. -/
theorem report_taken {run : Half} {point : Byte} (hr : Reported s run point.toNat i x) :
    ∃ u y, Reworked i (s.received 3).restarted u ∧ u.runAt i = some y ∧ y.standing = x.standing ∧
      (x.state ≠ .dwelling → x.state ≠ .held → y.quiet = x.quiet) ∧
      (s.mvt.stale = false → u = (s.received 3).restarted ∧ y = x) ∧
      exec (.arrived run point) s =
        .next ((u.settleArrived i y point.toNat).serveLeft (s.received 3)).finish ∧
      exec (.departed run point) s =
        .next ((u.settleDeparted i y point.toNat).serveLeft (s.received 3)).finish ∧
      exec (.passed run point) s =
        .next ((u.settlePassed i y point.toNat).serveLeft (s.received 3)).finish := by
  obtain ⟨-, known, low, high, numbered⟩ := hr
  have hx := runNumbered_runAt numbered
  have reworked := reworked_restartStale i (s.received 3)
  obtain ⟨y, hy, standing⟩ := reworked.runAt (x := x) hx
  have found : (s.received 3).restartStale.runNumbered run.toNat = some (i, y) := by
    have slot := runNumbered_of_names reworked.names run.toNat
    rw [show (s.received 3).restarted.runNumbered run.toNat = some (i, x) from numbered] at slot
    obtain ⟨⟨j, z⟩, hz, rfl⟩ := Option.map_eq_some_iff.1 slot
    rw [hz]
    exact congrArg (fun r => some (j, r)) (Option.some.inj ((runNumbered_runAt hz).symm.trans hy))
  have taken (f : State → Nat → Run → Nat → State) := takeMovement_eq (s := s.received 3) (f := f) known low high found
  refine ⟨_, y, reworked, hy, standing, fun notDwelling notHeld => ?_, fun fresh => ⟨restartStale_fresh fresh, ?_⟩, ?_,
    ?_, ?_⟩
  · have rests : ¬ (s.received 3).restarted.stands i := by
      rintro ⟨z, hz, stands⟩
      obtain rfl : x = z := Option.some.inj (hx.symm.trans hz)
      exact stands.elim notHeld fun h => notDwelling h.1
    have run := (reworked.rest rests).1
    rw [hy, show (s.received 3).restarted.runAt i = some x from hx] at run
    exact Option.some.inj run
  · rw [restartStale_fresh (s := s.received 3) fresh] at hy
    exact Option.some.inj (hy.symm.trans hx)
  all_goals
    show Host.Outcome.next (State.finish (State.takeMovement ..)) = _
    rw [taken]

/-! ### Merge order lists left behind -/

theorem mergeList_modMergeList (s : State) (m k : Nat) (f : List Nat → List Nat) (hf : f [] = []) :
    (s.modMergeList m f).mergeList k = if m = k then f (s.mergeList k) else s.mergeList k := by
  show (get1 (mod1 s.mvt.mergeLists m f) k).getD [] = _
  rw [get1_mod1]
  unfold State.mergeList
  split
  · cases get1 s.mvt.mergeLists k <;> simp [hf]
  · rfl

/-- Where a run leaves merge order lists: the lists and its own regulation record change, and it enters no list. -/
structure OffMerges (i : Nat) (s t : State) : Prop where
  rest : ∃ l d, t = { s with mvt := { s.mvt with mergeLists := l }, drg := { s.drg with recs := d } }
  lists : ∀ k, s.runHandle i ∉ s.mergeList k → s.runHandle i ∉ t.mergeList k

theorem OffMerges.refl (i : Nat) (s : State) : OffMerges i s s := ⟨⟨_, _, rfl⟩, fun _ h => h⟩

theorem OffMerges.runHandle (h : OffMerges i s t) (j : Nat) : t.runHandle j = s.runHandle j := by
  obtain ⟨l, d, rfl⟩ := h.rest
  rfl

theorem OffMerges.trans (h : OffMerges i s t) (h' : OffMerges i t u) : OffMerges i s u := by
  have handle := h.runHandle i
  obtain ⟨l, d, rfl⟩ := h.rest
  obtain ⟨l', d', e⟩ := h'.rest
  exact ⟨⟨l', d', e⟩, fun k hk => h'.lists k (h.lists k hk)⟩

/-- The order list of one merge without the run. -/
theorem offMerges_filter (s : State) (i m : Nat) :
    OffMerges i s (s.modMergeList m fun l => l.filter (· != s.runHandle i)) ∧
    s.runHandle i ∉ (s.modMergeList m fun l => l.filter (· != s.runHandle i)).mergeList m := by
  refine ⟨⟨⟨_, _, rfl⟩, fun k hk => ?_⟩, ?_⟩
  · rw [mergeList_modMergeList _ _ _ _ rfl]
    split
    · simp
    · exact hk
  · rw [mergeList_modMergeList _ _ _ _ rfl, if_pos rfl]
    simp

theorem offMerges_leaveMerge (x : Run) (a b : Nat) (s : State) (m : Nat) :
    OffMerges i s (State.leaveMerge x a b i s m) ∧ ∀ d, s.mergeDef m = some d → x.stopsAmong a b d.tp = true →
      s.runHandle i ∉ (State.leaveMerge x a b i s m).mergeList m := by
  unfold State.leaveMerge
  dsimp only
  split
  · obtain ⟨off, gone⟩ := offMerges_filter s i m
    exact ⟨off.trans ⟨⟨_, _, rfl⟩, fun _ h => h⟩, fun _ _ _ => gone⟩
  · next stays =>
    refine ⟨.refl i s, fun d hd among listed => stays ⟨?_, by simpa using listed⟩⟩
    rw [hd]
    exact among

/-- Steps each of which takes the run out of the list of a merge that qualifies. -/
theorem offMerges_foldl {f : State → Nat → State} {D : Nat → Prop} (hf : ∀ t k, OffMerges i s t →
    OffMerges i t (f t k) ∧ (D k → s.runHandle i ∉ (f t k).mergeList k)) (l : List Nat) (ht : OffMerges i s t) :
    OffMerges i s (l.foldl f t) ∧
    ∀ m, (m ∈ l ∧ D m) ∨ s.runHandle i ∉ t.mergeList m → s.runHandle i ∉ (l.foldl f t).mergeList m := by
  induction l generalizing t with
  | nil => exact ⟨ht, fun m h => h.elim (fun h => absurd h.1 List.not_mem_nil) id⟩
  | cons k l ih =>
    obtain ⟨off, gone⟩ := hf t k ht
    obtain ⟨all, later⟩ := ih (ht.trans off)
    refine ⟨all, fun m h => later m ?_⟩
    have stays : s.runHandle i ∉ t.mergeList m → s.runHandle i ∉ (f t k).mergeList m := by
      rw [← ht.runHandle i]
      exact off.lists m
    rcases h with ⟨hm, hd⟩ | h
    · rcases List.mem_cons.1 hm with rfl | hm
      · exact .inr (gone hd)
      · exact .inl ⟨hm, hd⟩
    · exact .inr (stays h)

/-- A run leaves the order lists of the merges among its stops `a` to `b`. -/
theorem offMerges_leaveMerges (s : State) (x : Run) (a b i : Nat) : OffMerges i s (s.leaveMerges x a b i) ∧
    ∀ m d, s.mergeDef m = some d → x.stopsAmong a b d.tp = true →
      s.runHandle i ∉ (s.leaveMerges x a b i).mergeList m := by
  obtain ⟨off, gone⟩ := offMerges_foldl (s := s) (i := i) (f := State.leaveMerge x a b i)
    (D := fun m => ∃ d, s.mergeDef m = some d ∧ x.stopsAmong a b d.tp = true) (fun t k ht => by
      obtain ⟨step, gone⟩ := offMerges_leaveMerge (i := i) x a b t k
      refine ⟨step, fun ⟨d, hd, among⟩ => ?_⟩
      rw [← ht.runHandle i]
      refine gone d ?_ among
      obtain ⟨l, e, rfl⟩ := ht.rest
      exact hd) (ids 2) (.refl i s)
  refine ⟨off, fun m d hd among => gone m (.inl ⟨?_, d, hd, among⟩)⟩
  unfold State.mergeDef at hd
  split at hd
  · exact mem_ids.2 (look_some_range hd)
  · cases hd

/-- A run whose movement ends leaves every merge order list. -/
theorem offMerges_leaveEveryMerge (s : State) (i : Nat) : OffMerges i s (s.leaveEveryMerge i) ∧
    ∀ m, s.runHandle i ∉ (s.leaveEveryMerge i).mergeList m := by
  obtain ⟨off, gone⟩ := offMerges_foldl (s := s) (i := i)
    (f := fun t m => t.modMergeList m fun l => l.filter (· != s.runHandle i)) (D := fun _ => True) (fun t k ht => by
      have step := offMerges_filter t i k
      rw [ht.runHandle i] at step
      exact ⟨step.1, fun _ => step.2⟩) (ids 2) (.refl i s)
  refine ⟨off.trans ⟨⟨_, _, rfl⟩, fun _ h => h⟩, fun m => gone m ?_⟩
  by_cases hm : m ∈ ids 2
  · exact .inl ⟨hm, trivial⟩
  · refine .inr ?_
    unfold State.mergeList
    cases hl : get1 s.mvt.mergeLists m with
    | none => exact List.not_mem_nil
    | some l => exact absurd (mem_ids.2 (get1_some_range hl)) hm

end Sys2Proof.Machine
end

/-! ## Arrivals and passes by their effects (R60 to R62, R66, R109) -/

section
namespace Sys2Proof.Machine
variable {s t u v w : State} {i j p g h m n : Nat} {x y z : Run} {st : Stop}

/-! ### Stops of a run -/

theorem stopAt_modStop_ne (x : Run) (hn : n ≠ m) (f : Stop → Stop) : (x.modStop m f).stopAt n = x.stopAt n := by
  rw [modStop_eq]
  unfold Run.stopAt
  split
  · rfl
  · next n0 =>
    split
    · rfl
    · next m0 =>
      have other : m - 1 ≠ n - 1 := by omega
      exact List.getElem?_modify_ne _ _ other

theorem stop_index_pos (h : x.stopAt m = some st) : m ≠ 0 := by
  rintro rfl
  simp [Run.stopAt] at h

theorem stopAt_modStop (h : x.stopAt m = some st) (f : Stop → Stop) : (x.modStop m f).stopAt m = some (f st) := by
  rw [stopAt_modStop_self x (stop_index_pos h), h]
  rfl

theorem stopAt_of_stops (h : y.stops = x.stops) (n : Nat) : y.stopAt n = x.stopAt n := by
  unfold Run.stopAt
  rw [h]

/-- A run with an arrival at its stop `m`. -/
theorem arriveAt_leaves (h : x.stopAt m = some st) (now : Nat) :
    (x.arriveAt m now).stopAt m = some { st with actArr := some now } ∧
    (∀ n, n ≠ m → (x.arriveAt m now).stopAt n = x.stopAt n) ∧ (x.arriveAt m now).count = x.count :=
  ⟨stopAt_modStop h fun z => { z with actArr := some now }, fun _ hn => stopAt_modStop_ne x hn _, modStop_count x m _⟩

/-! ### What `Run.standing` says of the stops -/

theorem standing_eq (x : Run) : x.standing =
    { x with
      stops := if x.cur = 0 then x.stops else x.stops.modify (x.cur - 1) fun st => { st with release := none }
      state := if x.state = .held then .dwelling else x.state
      causes := Causes.none
      autoDelay := none
      lateness := none } := by
  unfold Run.standing
  rw [modStop_eq]

theorem cur_of_standing (h : y.standing = x.standing) : y.cur = x.cur := by
  rw [standing_eq, standing_eq] at h
  exact (congrArg Run.cur h :)

theorem number_of_standing (h : y.standing = x.standing) : y.number = x.number := by
  rw [standing_eq, standing_eq] at h
  exact (congrArg Run.number h :)

theorem standing_stop_ne (h : y.standing = x.standing) (hn : n ≠ x.cur) : y.stopAt n = x.stopAt n := by
  have cur : y.cur = x.cur := cur_of_standing h
  have read (z : Run) (hz : n ≠ z.cur) : z.standing.stopAt n = z.stopAt n := by
    unfold Run.standing
    exact stopAt_modStop_ne z hz _
  rw [← read y (cur ▸ hn), h, read x hn]

/-- The current stop is left but for its computed release. -/
theorem standing_stop (h : y.standing = x.standing) (hst : x.stopAt x.cur = some st) :
    ∃ st', y.stopAt x.cur = some st' ∧ st'.plan = st.plan := by
  have cur : y.cur = x.cur := cur_of_standing h
  have read (z : Run) (hz : z.cur ≠ 0) : z.standing.stopAt z.cur = (z.stopAt z.cur).map Stop.plan := by
    unfold Run.standing
    exact stopAt_modStop_self z hz _
  have stands := stop_index_pos hst
  have same := read y (cur ▸ stands)
  rw [h, cur, read x stands, hst] at same
  exact Option.map_eq_some_iff.1 same.symm

/-! ### The parts of a move -/

theorem leaveSegment_queue (s : State) (g h : Nat) :
    ((s.leaveSegment g h).seg g).queue = (s.seg g).queue.filter (· != h) := by
  unfold State.leaveSegment
  rw [modSeg_seg, if_pos rfl, State.seg]
  cases get1 s.mvt.segs g <;> rfl

theorem leaveSegment_seg_ne (hn : n ≠ g) (s : State) (h : Nat) : (s.leaveSegment g h).seg n = s.seg n := by
  unfold State.leaveSegment
  rw [modSeg_seg, if_neg hn.symm]

theorem enterSegment_queue (low : 1 ≤ g) (high : g ≤ 48) (s : State) (h : Nat) :
    ((s.enterSegment g h).seg g).queue = (s.seg g).queue ++ [h] := by
  obtain ⟨z, hz⟩ := get1_isSome s.mvt.segs low high
  rw [State.enterSegment, modSeg_seg, if_pos rfl, State.seg, hz]
  rfl

theorem enterSegment_seg_ne (hn : n ≠ g) (s : State) (h : Nat) : (s.enterSegment g h).seg n = s.seg n := by
  rw [State.enterSegment, modSeg_seg, if_neg hn.symm]

theorem occupy_occupant (low : 1 ≤ p) (high : p ≤ 32) (s : State) (h : Nat) :
    ((s.occupy p h).tp p).occupant = some h := by
  obtain ⟨z, hz⟩ := get1_isSome s.mvt.points low high
  rw [State.occupy, modTp_tp, hz]
  simp

/-- A claim returned leaves the run but for the mark of its claim. -/
theorem returnClaim_runAt (hx : s.runAt i = some x) :
    ∃ q, (s.returnClaim i).runAt i = some { x with claimPresent := q } := by
  obtain ⟨p, f, he, hf, -⟩ := returnClaim_eq s i
  have run : (s.returnClaim i).runAt i = some (f x) := by
    rw [he, modRun_runAt, if_pos rfl]
    exact congrArg (Option.map f) hx
  rcases hf x with e | e
  · exact ⟨x.claimPresent, by rw [run, e]⟩
  · exact ⟨false, by rw [run, e]⟩

theorem not_stands (hx : s.runAt i = some x) (held : x.state ≠ .held)
    (dwelling : x.state = .dwelling → x.computable = false) : ¬ s.stands i := by
  rintro ⟨z, hz, stands⟩
  obtain rfl : x = z := Option.some.inj (hx.symm.trans hz)
  rcases stands with h | ⟨h, h'⟩
  · exact held h
  · rw [dwelling h] at h'
    cases h'

/-- A run that does not stand at a stop is left by rechecks and computations. -/
theorem Reworked.still (h : Reworked i s t) (hx : s.runAt i = some x) (rests : ¬ s.stands i) :
    ∃ y, t.runAt i = some y ∧ y.quiet = x.quiet := by
  have run := (h.rest rests).1
  rw [hx] at run
  exact Option.map_eq_some_iff.1 run

/-! ### A run that becomes DWELLING (R60, R76, R78) -/

/-- The release time of a run that has just become DWELLING is computed, and a segment's queue has changed. -/
theorem computed_leaves (hx : s.runAt i = some x) (dwelling : x.state = .dwelling) (g : Nat) :
    ∃ y, ((s.computeRelease i).queueChanged g).runAt i = some y ∧ y.state = .dwelling ∧ y.standing = x.standing ∧
      (x.computable = true → ∃ st, y.stopAt x.cur = some st ∧
        st.release = (((s.computeRelease i).queueChanged g).reg i).releaseTimer ∧ st.release ≠ none) ∧
      (x.computable = false → y.quiet = x.quiet) := by
  have reworked := (Reworked.refl i (s.computeRelease i)).queueChanged g
  obtain ⟨c, k, quiet⟩ | ⟨c, same⟩ := computeRelease_cases hx
  · obtain ⟨sto, hsto, -⟩ := withRelease_stop c k
    have stop : (x.stopAt x.cur).isSome := by
      unfold Run.computable Run.curStop at c
      cases hs : x.stopAt x.cur <;> simp_all
    have timed := timed_of_quiet quiet (withTimer_timed hx dwelling stop k)
    obtain ⟨a, ha, still⟩ := runAt_of_quiet (x := x.withRelease k) quiet (by
      show (s.modRun i _).runAt i = _
      rw [modRun_runAt, if_pos rfl, hx]
      rfl)
    obtain ⟨y, hy, standing⟩ := reworked.runAt ha
    have standing := standing.trans ((standing_of_quiet still).trans (withRelease_standing x k))
    obtain ⟨b, st, r, hb, dwells, hst, release, timer⟩ := reworked.timed timed
    obtain rfl : y = b := Option.some.inj (hy.symm.trans hb)
    have cur : y.cur = x.cur := cur_of_standing standing
    exact ⟨y, hy, dwells, standing, fun _ => ⟨st, cur ▸ hst, release.trans timer.symm, by simp [release]⟩,
      fun h => by rw [c] at h; cases h⟩
  · rw [same] at reworked
    obtain ⟨y, hy, still⟩ := reworked.still hx (not_stands hx (by simp [dwelling]) fun _ => c)
    rw [same]
    refine ⟨y, hy, (state_of_quiet still).trans dwelling, standing_of_quiet still, fun h => ?_, fun _ => still⟩
    rw [c] at h
    cases h

/-- The state of a taken arrival before the claim is returned and the release time computed: the run has left the queue
of segment `g` and the order lists it passes, and stands at the timing point `p`. -/
def State.arrivedAt (s : State) (i m g p : Nat) (x : Run) : State :=
  (((s.leaveMerges x x.cur m i).leaveSegment g (s.runHandle i)).modRun i fun r => r.arriveAt m s.now).occupy p
    (s.runHandle i)

theorem arriveDwelling_eq (hq : s.queueOf (s.runHandle i) = some g) (m : Nat) (x : Run) : s.arriveDwelling i m x =
    (((s.arrivedAt i m g (x.tpAt m) x).returnClaim i).computeRelease i).queueChanged g := by
  obtain ⟨⟨l, d, left⟩, -⟩ := (offMerges_leaveMerges s x x.cur m i).1
  unfold State.arriveDwelling State.reachStop State.arrivedAt
  rw [left]
  show State.queueChanged (State.computeRelease (State.returnClaim (State.occupy (State.modRun (State.leaveSegment _
    ((s.queueOf (s.runHandle i)).getD 0) _) ..) ..) _) _) ((s.queueOf (s.runHandle i)).getD 0) = _
  rw [hq]
  rfl

/-- What a move leaves of the queues, with the lists of the merges that qualify left behind. -/
structure OffSegment (i g : Nat) (D : Nat → Prop) (s t : State) : Prop where
  onward : Onward s t
  queue : (t.seg g).queue = (s.seg g).queue.filter (· != s.runHandle i)
  segs : ∀ q, q ≠ g → t.seg q = s.seg q
  lists : ∀ l, D l → s.runHandle i ∉ t.mergeList l

theorem arrivedAt_leaves (hx : s.runAt i = some x) (low : 1 ≤ p) (high : p ≤ 32) (m g : Nat) :
    OffSegment i g (fun l => ∃ d, s.mergeDef l = some d ∧ x.stopsAmong x.cur m d.tp = true) s (s.arrivedAt i m g p x) ∧
    (s.arrivedAt i m g p x).runAt i = some (x.arriveAt m s.now) ∧
    ((s.arrivedAt i m g p x).tp p).occupant = some (s.runHandle i) := by
  obtain ⟨off, gone⟩ := offMerges_leaveMerges s x x.cur m i
  obtain ⟨a, ha⟩ : ∃ a, a = s.leaveMerges x x.cur m i := ⟨_, rfl⟩
  unfold State.arrivedAt
  rw [← ha] at off gone ⊢
  obtain ⟨l, d, left⟩ := off.rest
  have onA : Onward s a := by rw [left]; exact { Onward.refl s with }
  have segs (q : Nat) : a.seg q = s.seg q := by rw [left]; rfl
  refine ⟨⟨((onA.modSeg g _).modRun i fun _ => by rw [arriveAt_eq]).modTp _ _, ?_, fun q hq => ?_,
    fun l ⟨d, hd, among⟩ => gone l d hd among⟩, ?_, occupy_occupant low high _ _⟩
  · exact (leaveSegment_queue a g _).trans (by rw [segs])
  · exact (leaveSegment_seg_ne hq a _).trans (segs q)
  · show (State.modRun _ i _).runAt i = _
    rw [modRun_runAt, if_pos rfl, left]
    exact congrArg (Option.map _) hx

/-- A claim returned, releases computed and a queue changed leave the queues and the lists. -/
theorem OffSegment.of_mvt {D : Nat → Prop} (h : OffSegment i g D s t) (onward : Onward t u) (mvt : u.mvt = t.mvt) :
    OffSegment i g D s u where
  onward := h.onward.trans onward
  queue := by rw [State.seg, mvt]; exact h.queue
  segs q hq := by rw [State.seg, mvt]; exact h.segs q hq
  lists l hl := by rw [State.mergeList, mvt]; exact h.lists l hl

/-- The run of a taken arrival, once its release time is computed. -/
theorem arrived_computed (hb : s.runAt i = some (x.arriveAt m n)) (hst : x.stopAt m = some st) (inner : m < x.count)
    (ht : t = ((s.returnClaim i).computeRelease i).queueChanged g) :
    ∃ y st', t.runAt i = some y ∧ y.state = .dwelling ∧ y.cur = m ∧ y.number = x.number ∧
      (∀ k, k ≠ m → y.stopAt k = x.stopAt k) ∧ y.stopAt m = some st' ∧ st'.actArr = some n ∧
      (st.halts = true → st'.release = (t.reg i).releaseTimer ∧ st'.release ≠ none) ∧
      (st.halts = false → st'.release = st.release) := by
  subst ht
  obtain ⟨q, hq⟩ := returnClaim_runAt hb
  obtain ⟨z, hz⟩ : ∃ z, z = { x.arriveAt m n with claimPresent := q } := ⟨_, rfl⟩
  rw [← hz] at hq
  obtain ⟨stop, others, count⟩ := arriveAt_leaves hst n
  have stops (k : Nat) : z.stopAt k = (x.arriveAt m n).stopAt k := by rw [hz]; rfl
  have dwelling : z.state = .dwelling := by rw [hz, arriveAt_eq]
  have cur : z.cur = m := by rw [hz, arriveAt_eq]
  have number : z.number = x.number := by rw [hz, arriveAt_eq]
  have current : z.stopAt m = some { st with actArr := some n } := (stops m).trans stop
  have computable : z.computable = st.halts := by
    have before : z.cur < z.count := by
      rw [cur, hz]
      exact count ▸ inner
    rw [Run.computable, Run.curStop, cur, current]
    simp [← cur, before, Stop.halts]
  obtain ⟨y, hy, dwells, standing, computed, uncomputed⟩ := computed_leaves hq dwelling g
  obtain ⟨st', hst', plan⟩ := standing_stop standing (cur.symm ▸ current)
  rw [cur] at hst' computed
  refine ⟨y, st', hy, dwells, (cur_of_standing standing).trans cur, (number_of_standing standing).trans number,
    fun k hk => ?_, hst', (congrArg Stop.actArr plan :), fun halts => ?_, fun passes => ?_⟩
  · rw [standing_stop_ne standing (cur.symm ▸ hk), stops, others k hk]
  · obtain ⟨st'', hst'', release⟩ := computed (computable.trans halts)
    obtain rfl : st' = st'' := Option.some.inj (hst'.symm.trans hst'')
    exact release
  · have same : y.stops = z.stops := (congrArg Run.stops (uncomputed (computable.trans passes)) :)
    rw [stopAt_of_stops same, current] at hst'
    rw [← Option.some.inj hst']

/-- A taken arrival at a stop before the last (R60): the run, the track and the power. -/
theorem arriveDwelling_leaves (hx : s.runAt i = some x) (hq : s.queueOf (s.runHandle i) = some g)
    (hst : x.stopAt m = some st) (inner : m < x.count) (low : 1 ≤ st.tp) (high : st.tp ≤ 32)
    (ht : t = s.arriveDwelling i m x) :
    OffSegment i g (fun l => ∃ d, s.mergeDef l = some d ∧ x.stopsAmong x.cur m d.tp = true) s t ∧ t.claim i = none ∧
    (t.tp st.tp).occupant = some (s.runHandle i) ∧
    ∃ y st', t.runAt i = some y ∧ y.state = .dwelling ∧ y.cur = m ∧ y.number = x.number ∧
      (∀ k, k ≠ m → y.stopAt k = x.stopAt k) ∧ y.stopAt m = some st' ∧ st'.actArr = some s.now ∧
      (st.halts = true → st'.release = (t.reg i).releaseTimer ∧ st'.release ≠ none) ∧
      (st.halts = false → st'.release = st.release) := by
  obtain ⟨slotLow, slotHigh⟩ := runAt_range hx
  have here : x.tpAt m = st.tp := by rw [Run.tpAt, hst]; rfl
  rw [arriveDwelling_eq hq, here] at ht
  obtain ⟨off, run, occupant⟩ := arrivedAt_leaves hx low high m g
  obtain ⟨b, hb⟩ : ∃ b, b = s.arrivedAt i m g st.tp x := ⟨_, rfl⟩
  rw [← hb] at ht off run occupant
  have mvt : t.mvt = b.mvt := by rw [ht]; exact mvt_of_ground (by simp)
  refine ⟨off.of_mvt ?_ mvt, ?_, by rw [State.tp, mvt]; exact occupant, arrived_computed run hst inner ht⟩
  · rw [ht]
    exact (((Onward.refl b).returnClaim i).computeRelease i).queueChanged g
  · obtain ⟨q, hq'⟩ := returnClaim_runAt run
    obtain ⟨-, -, -, -, -, -, -, -, -, -, tpc⟩ := computeRelease_leaves hq'
    rw [ht, State.claim, ((Reworked.refl i _).queueChanged g).claims, tpc]
    exact returnClaim_claim slotHigh slotLow b

/-! ### A run whose movement ends (R62) -/

/-- The state of a taken arrival that ends the run's movement, before the claim is returned. -/
def State.endedAt (s : State) (i m g : Nat) : State :=
  (((s.leaveEveryMerge i).leaveSegment g (s.runHandle i)).modRun i fun r => r.arriveAt m s.now).modRun i fun r =>
    { r with state := .terminated }

theorem arriveTerminal_eq (hq : s.queueOf (s.runHandle i) = some g) (m : Nat) (x : Run) : s.arriveTerminal i m x =
    if x.state = .cancelled then ((s.endedAt i m g).returnClaim i).queueChanged g
    else (((s.endedAt i m g).returnClaim i).queueChanged g).endRun i := by
  obtain ⟨⟨l, d, left⟩, -⟩ := (offMerges_leaveEveryMerge s i).1
  have ended : ((s.leaveEveryMerge i).reachStop i m).modRun i (fun r => { r with state := .terminated }) =
      s.endedAt i m g := by
    unfold State.endedAt State.reachStop
    rw [left]
    show State.modRun (State.modRun (State.leaveSegment _ ((s.queueOf (s.runHandle i)).getD 0) _) ..) .. = _
    rw [hq]
    rfl
  unfold State.arriveTerminal
  simp only [ended, hq, Option.getD_some]

theorem endedAt_leaves (hx : s.runAt i = some x) (m g : Nat) :
    OffSegment i g (fun _ => True) s (s.endedAt i m g) ∧
    (s.endedAt i m g).runAt i = some { x.arriveAt m s.now with state := .terminated } ∧
    ∀ q, (s.endedAt i m g).tp q = s.tp q := by
  obtain ⟨off, gone⟩ := offMerges_leaveEveryMerge s i
  obtain ⟨a, ha⟩ : ∃ a, a = s.leaveEveryMerge i := ⟨_, rfl⟩
  unfold State.endedAt
  rw [← ha] at off gone ⊢
  obtain ⟨l, d, left⟩ := off.rest
  have onA : Onward s a := by rw [left]; exact { Onward.refl s with }
  have segs (q : Nat) : a.seg q = s.seg q := by rw [left]; rfl
  refine ⟨⟨((onA.modSeg g _).modRun i fun _ => by rw [arriveAt_eq]).modRun i (f := fun r =>
    { r with state := .terminated }) fun _ => rfl, ?_, fun q hq => ?_, fun l _ => gone l⟩, ?_,
    fun q => by rw [left]; rfl⟩
  · exact (leaveSegment_queue a g _).trans (by rw [segs])
  · exact (leaveSegment_seg_ne hq a _).trans (segs q)
  · have arrived : ((a.leaveSegment g (s.runHandle i)).modRun i fun r => r.arriveAt m s.now).runAt i =
        some (x.arriveAt m s.now) := by
      rw [modRun_runAt, if_pos rfl, left]
      exact congrArg (Option.map _) hx
    rw [modRun_runAt, if_pos rfl, arrived]
    rfl

/-- A run whose release is not computed has its claim returned, and queues have changed. -/
theorem returned_leaves (hx : s.runAt i = some x) (held : x.state ≠ .held) (dwelling : x.state ≠ .dwelling)
    (ht : Reworked i (s.returnClaim i) t) :
    Onward s t ∧ t.mvt = s.mvt ∧ t.claim i = none ∧
    ∃ y, t.runAt i = some y ∧ y.state = x.state ∧ y.cur = x.cur ∧ y.stops = x.stops := by
  obtain ⟨low, high⟩ := runAt_range hx
  obtain ⟨q, hq⟩ := returnClaim_runAt hx
  obtain ⟨y, hy, still⟩ := ht.still hq (not_stands hq held fun h => absurd h dwelling)
  refine ⟨((Onward.refl s).returnClaim i).trans ht.onward, ht.mvt.trans (mvt_of_ground (by simp)), ?_, y, hy,
    (congrArg Run.state still :), (congrArg Run.cur still :), (congrArg Run.stops still :)⟩
  rw [State.claim, ht.claims]
  exact returnClaim_claim high low s

/-- A taken arrival that ends the run's movement (R62). -/
theorem arriveTerminal_leaves (hx : s.runAt i = some x) (hq : s.queueOf (s.runHandle i) = some g)
    (hst : x.stopAt m = some st) (ht : t = s.arriveTerminal i m x) :
    OffSegment i g (fun _ => True) s t ∧ t.claim i = none ∧ (∀ q, t.tp q = s.tp q) ∧
    ∃ y, t.runAt i = some y ∧ y.state = .terminated ∧ y.cur = m ∧ (∀ k, k ≠ m → y.stopAt k = x.stopAt k) ∧
      y.stopAt m = some { st with actArr := some s.now } := by
  rw [arriveTerminal_eq hq] at ht
  obtain ⟨off, run, points⟩ := endedAt_leaves hx m g
  obtain ⟨b, hb⟩ : ∃ b, b = s.endedAt i m g := ⟨_, rfl⟩
  rw [← hb] at ht off run points
  have changed := (Reworked.refl i (b.returnClaim i)).queueChanged g
  have reworked : Reworked i (b.returnClaim i) t := by
    rw [ht]
    split
    · exact changed
    · exact changed.quiet ((Played.refl _).endRun i).quiet
  obtain ⟨onward, mvt, claim, y, hy, state, cur, stops⟩ := returned_leaves run (by simp) (by simp) reworked
  obtain ⟨stop, others, -⟩ := arriveAt_leaves hst s.now
  have stops (k : Nat) : y.stopAt k = (x.arriveAt m s.now).stopAt k := stopAt_of_stops (x := x.arriveAt m s.now) stops k
  refine ⟨off.of_mvt onward mvt, claim, fun q => ?_, y, hy, state, cur.trans (by rw [arriveAt_eq]),
    fun k hk => (stops k).trans (others k hk), (stops m).trans stop⟩
  rw [State.tp, mvt]
  exact points q

/-! ### A run that passes through a stop (R66) -/

/-- A run that has passed its stop `m`. -/
def Run.passedAt (x : Run) (m now : Nat) : Run :=
  { x.modStop m (fun st => { st with actArr := some now, actDep := some now }) with cur := m + 1 }

/-- The state of a taken pass before the claim is returned: the run has gone from segment `g` to segment `n`. -/
def State.passedInto (s : State) (i m g n : Nat) (x : Run) : State :=
  (((s.leaveSegment g (s.runHandle i)).leaveMerges x x.cur m i).enterSegment n (s.runHandle i)).modRun i fun r =>
    r.passedAt m s.now

theorem passThrough_eq (hq : s.queueOf (s.runHandle i) = some g) (m : Nat) (x : Run) : s.passThrough i m x =
    (((s.passedInto i m g (s.segmentAfter x m) x).returnClaim i).queueChanged g).queueChanged (s.segmentAfter x m) := by
  unfold State.passThrough
  simp only [hq, Option.getD_some]
  rfl

theorem passedAt_number (x : Run) (m now : Nat) : (x.passedAt m now).number = x.number := by
  unfold Run.passedAt
  rw [modStop_eq]

theorem passedAt_state (x : Run) (m now : Nat) : (x.passedAt m now).state = x.state := by
  unfold Run.passedAt
  rw [modStop_eq]

/-- What a taken pass leaves before the claim is returned. -/
theorem passedInto_leaves (hx : s.runAt i = some x) (low : 1 ≤ n) (high : n ≤ 48) (other : n ≠ g) (m : Nat)
    (ht : t = s.passedInto i m g n x) :
    Onward s t ∧ (t.seg g).queue = (s.seg g).queue.filter (· != s.runHandle i) ∧
    (t.seg n).queue = (s.seg n).queue ++ [s.runHandle i] ∧ (∀ q, q ≠ g → q ≠ n → t.seg q = s.seg q) ∧
    (∀ q, t.tp q = s.tp q) ∧
    (∀ l d, s.mergeDef l = some d → x.stopsAmong x.cur m d.tp = true → s.runHandle i ∉ t.mergeList l) ∧
    t.runAt i = some (x.passedAt m s.now) := by
  obtain ⟨off, gone⟩ := offMerges_leaveMerges (s.leaveSegment g (s.runHandle i)) x x.cur m i
  obtain ⟨a, ha⟩ : ∃ a, a = (s.leaveSegment g (s.runHandle i)).leaveMerges x x.cur m i := ⟨_, rfl⟩
  unfold State.passedInto at ht
  rw [← ha] at off gone ht
  obtain ⟨l, d, left⟩ := off.rest
  have onA : Onward s a := by
    rw [left]
    exact { (Onward.refl s).modSeg g fun z => { z with queue := z.queue.filter (· != s.runHandle i) } with }
  have segs (q : Nat) : a.seg q = (s.leaveSegment g (s.runHandle i)).seg q := by rw [left]; rfl
  have seg (q : Nat) : t.seg q = (a.enterSegment n (s.runHandle i)).seg q := by rw [ht]; rfl
  subst ht
  refine ⟨(onA.modSeg n _).modRun i fun _ => passedAt_number .., ?_, ?_, fun q hg hn => ?_, fun q => ?_, gone, ?_⟩
  · rw [seg, enterSegment_seg_ne other.symm, segs, leaveSegment_queue]
  · rw [seg, enterSegment_queue low high, segs, leaveSegment_seg_ne other]
  · rw [seg, enterSegment_seg_ne hn, segs, leaveSegment_seg_ne hg]
  · show a.tp q = _
    rw [left]
    rfl
  · rw [modRun_runAt, if_pos rfl]
    show Option.map _ (a.runAt i) = _
    rw [left]
    exact congrArg (Option.map _) hx

/-- A taken pass through a stop before the last (R66). -/
theorem passThrough_leaves (hx : s.runAt i = some x) (hq : s.queueOf (s.runHandle i) = some g)
    (state : x.state = .running ∨ x.state = .cancelled) (hst : x.stopAt m = some st) (hn : s.segmentAfter x m = n)
    (low : 1 ≤ n) (high : n ≤ 48) (other : n ≠ g) (ht : t = s.passThrough i m x) :
    Onward s t ∧ (t.seg g).queue = (s.seg g).queue.filter (· != s.runHandle i) ∧
    (t.seg n).queue = (s.seg n).queue ++ [s.runHandle i] ∧ (∀ q, q ≠ g → q ≠ n → t.seg q = s.seg q) ∧
    (∀ q, t.tp q = s.tp q) ∧
    (∀ l d, s.mergeDef l = some d → x.stopsAmong x.cur m d.tp = true → s.runHandle i ∉ t.mergeList l) ∧
    t.claim i = none ∧
    ∃ y, t.runAt i = some y ∧ y.state = x.state ∧ y.cur = m + 1 ∧ (∀ k, k ≠ m → y.stopAt k = x.stopAt k) ∧
      y.stopAt m = some { st with actArr := some s.now, actDep := some s.now } := by
  rw [passThrough_eq hq, hn] at ht
  obtain ⟨b, hb⟩ : ∃ b, b = s.passedInto i m g n x := ⟨_, rfl⟩
  obtain ⟨on, queue, next, segs, points, lists, run⟩ := passedInto_leaves hx low high other m hb
  rw [← hb] at ht
  have reworked : Reworked i (b.returnClaim i) t := by
    rw [ht]
    exact ((Reworked.refl i (b.returnClaim i)).queueChanged g).queueChanged n
  have moves : x.state ≠ .held ∧ x.state ≠ .dwelling := by rcases state with e | e <;> simp [e]
  obtain ⟨onward, mvt, claim, y, hy, state', cur, stops⟩ := returned_leaves run (by rw [passedAt_state]; exact moves.1)
    (by rw [passedAt_state]; exact moves.2) reworked
  have seg (q : Nat) : t.seg q = b.seg q := by rw [State.seg, mvt]; rfl
  refine ⟨on.trans onward, by rw [seg, queue], by rw [seg, next], fun q hg hn => by rw [seg, segs q hg hn], fun q => ?_,
    fun l d hd among => ?_, claim, y, hy, state'.trans (passedAt_state ..), cur, fun k hk => ?_, ?_⟩
  · rw [State.tp, mvt]
    exact points q
  · rw [State.mergeList, mvt]
    exact lists l d hd among
  · rw [stopAt_of_stops stops]
    exact stopAt_modStop_ne x hk _
  · rw [stopAt_of_stops stops]
    exact stopAt_modStop hst fun z => { z with actArr := some s.now, actDep := some s.now }

end Sys2Proof.Machine
end

/-! ## Regular and irregular reports of runs on the track (R55 to R62, R66, R109) -/

section
namespace Sys2Proof.Machine
variable {s t u c : State} {i j p g h m n : Nat} {x y z : Run} {st : Stop} {k last : Option ConflictKind}

/-! ### The state in which a report is taken up -/

theorem received_unmatched (s : State) (n : Nat) : (s.received n).fli.unmatched = s.fli.unmatched := by
  show (s.fli.received n).unmatched = _
  unfold Fli.received
  split <;> rfl

/-- The end of an event in which a report has moved a run, with its conflict and the service. -/
theorem event_concluded (kept : c.kept = (s.received 3).kept) (handle : c.runHandle i = s.runHandle i)
    (itb : c.quiet.itb = s.quiet.itb) (free : c.unqueued (s.runHandle i)) (hz : c.runAt i = some z)
    (hj : k ≠ none → s.freeInc = some j)
    (ht : t = ((c.conflict? (s.runHandle i) p k).serveLeft (s.received 3)).finish) :
    SteadyReport 3 s t ∧ Concluded i c t ∧ ConflictSettled s t j (s.runHandle i) p k := by
  rw [← handle] at free
  obtain ⟨done, settled⟩ := concluded hz free (fun hk => (freeInc_of_itb itb).trans (hj hk)) p (s.received 3)
  rw [handle, ← ht] at done settled
  refine ⟨?_, done, ?_⟩
  · rw [ht]
    refine steadyReport_of_kept ?_
    simp only [serveLeft_kept, conflict?_kept]
    exact kept
  · cases k with
    | some k => exact settled
    | none => exact Eq.trans settled (nextNumber_of_itb itb)

section
variable (taken : Reworked i (s.received 3).restarted u)
include taken

theorem taken_seg (q : Nat) : u.seg q = s.seg q := by rw [State.seg, taken.mvt]; rfl
theorem taken_tp (q : Nat) : u.tp q = s.tp q := by rw [State.tp, taken.mvt]; rfl
theorem taken_mergeList (l : Nat) : u.mergeList l = s.mergeList l := by rw [State.mergeList, taken.mvt]; rfl
theorem taken_lds : u.lds = s.lds := (lds_of_kept taken.kept).trans rfl
theorem taken_now : u.now = s.lck.clock := (congrArg Lck.clock (lck_of_kept taken.kept)).trans rfl
theorem taken_handle : u.runHandle i = s.runHandle i := taken.runHandle i

theorem taken_queueOf (h : Nat) : u.queueOf h = s.queueOf h := by
  unfold State.queueOf
  simp only [taken_seg taken]

theorem taken_mergeDef (l : Nat) : u.mergeDef l = s.mergeDef l := by
  unfold State.mergeDef State.inService
  rw [taken_lds taken]

theorem taken_unqueued (nowhere : WaitsNowhere s i) : u.unqueued (u.runHandle i) := by
  rw [taken_handle taken]
  exact taken.waits _ nowhere

/-- The conflict of a report is that of the state in which it came. -/
theorem taken_moveConflict (cur : y.cur = x.cur) (h m p : Nat) (last : Option ConflictKind) :
    u.moveConflict h m p y last = s.moveConflict h m p x last := by
  unfold State.moveConflict State.behindInQueue State.behindAtMerge State.mergeAt
  simp only [cur, taken_queueOf taken, taken_seg taken, taken_mergeDef taken, taken_mergeList taken]

/-- The end of a report's event, after the moves of its run. -/
theorem report_concluded (on : Onward u c) (hz : c.runAt i = some z) (nowhere : WaitsNowhere s i)
    (hj : k ≠ none → s.freeInc = some j)
    (ht : t = ((c.conflict? (s.runHandle i) p k).serveLeft (s.received 3)).finish) :
    SteadyReport 3 s t ∧ Concluded i c t ∧ ConflictSettled s t j (s.runHandle i) p k ∧
    c.runHandle i = s.runHandle i ∧ t.mvt.stale = false ∧
    t.mvt.staleTimer = some (min (s.lck.clock + s.lds.params.tStale) 107999) ∧ t.fli.unmatched = s.fli.unmatched ∧
    t.rtb.counters = s.rtb.counters := by
  have handle : c.runHandle i = s.runHandle i := (on.runHandle i).trans (taken_handle taken)
  have free : c.unqueued (s.runHandle i) := by
    rw [← taken_handle taken]
    exact on.waits _ (taken_unqueued taken nowhere)
  obtain ⟨steady, done, settled⟩ := event_concluded (on.kept.trans (taken.kept.trans rfl)) handle
    (on.itb.trans taken.onward.itb) free hz hj ht
  exact ⟨steady, done, settled, handle, done.stale.trans (on.stale.trans taken.onward.stale),
    done.staleTimer.trans (on.staleTimer.trans taken.onward.staleTimer),
    done.unmatched.trans (on.unmatched.trans (taken.unmatched.trans (received_unmatched s 3))),
    done.counters.trans (on.counters.trans taken.counters)⟩

end

theorem behindInQueue_of_queueOf (hq : s.queueOf h = some g) :
    s.behindInQueue h = true ↔ (s.seg g).queue.head? ≠ some h := by
  simp [State.behindInQueue, hq]

theorem behindAtMerge_iff : s.behindAtMerge p h = true ↔
    ∃ l, s.mergeAt p = some l ∧ h ∈ s.mergeList l ∧ (s.mergeList l).head? ≠ some h := by
  simp [State.behindAtMerge, Option.any_eq_true]

/-- The conflict that a report carries is the one that R59's table gives. -/
theorem moveConflict_of_carries (hq : s.queueOf (s.runHandle i) = some g) (hc : Carries s i g p m x last k) :
    s.moveConflict (s.runHandle i) m p x last = k := by
  unfold State.moveConflict
  have inOrder (ordered : InOrder s i g p) :
      ¬ s.behindInQueue (s.runHandle i) = true ∧ ¬ s.behindAtMerge p (s.runHandle i) = true := by
    obtain ⟨-, first, merges⟩ := ordered
    refine ⟨fun behind => (behindInQueue_of_queueOf hq).1 behind first, fun behind => ?_⟩
    obtain ⟨l, hl, listed, later⟩ := behindAtMerge_iff.1 behind
    exact later (merges l hl listed)
  have regular (same : k = last) (here : m = x.cur) (ordered : InOrder s i g p) : (if x.cur < m then
      some ConflictKind.missedSteps else if s.behindInQueue (s.runHandle i) = true then some .outOfOrder
      else if s.behindAtMerge p (s.runHandle i) = true then some .mergeOrder else last) = k := by
    rw [if_neg (by omega), if_neg (inOrder ordered).1, if_neg (inOrder ordered).2, same]
  rcases k with _ | k
  · exact regular hc.1 hc.2.1 hc.2.2
  cases k with
  | missedSteps => exact if_pos hc
  | outOfOrder =>
    obtain ⟨here, later⟩ := hc
    rw [if_neg (by omega), if_pos ((behindInQueue_of_queueOf hq).2 later)]
  | mergeOrder =>
    obtain ⟨here, first, behind⟩ := hc
    rw [if_neg (by omega), if_neg fun h => (behindInQueue_of_queueOf hq).1 h first, if_pos (behindAtMerge_iff.2 behind)]
  | _ => exact regular hc.1 hc.2.1 hc.2.2

/-! ### The reports that are taken -/

theorem ahead_eq (hm : x.indexAt p = some m) (later : x.cur ≤ m) : x.ahead p = some m := by
  simp [Run.ahead, hm, later]

theorem stop_of_indexAt (hm : x.indexAt p = some m) : x.tpAt m = p := by
  obtain ⟨l, hl, rfl⟩ := Option.map_eq_some_iff.1 hm
  obtain ⟨hlt, hp, -⟩ := List.findIdx?_eq_some_iff_getElem.1 hl
  simp only [Run.tpAt, Run.stopAt, Nat.add_one_ne_zero, if_false, Nat.add_sub_cancel, List.getElem?_eq_getElem hlt,
    Option.elim_some]
  simpa using hp

theorem point_range (h : s.point p ≠ none) : 1 ≤ p ∧ p ≤ 32 := by
  obtain ⟨d, hd⟩ := Option.ne_none_iff_exists'.1 h
  unfold State.point at hd
  split at hd
  · exact look_some_range hd
  · cases hd

/-- The functions of a run that a report reads are those of its quiet part. -/
theorem ahead_of_quiet (h : y.quiet = x.quiet) (p : Nat) : y.ahead p = x.ahead p := (congrArg (fun r => r.ahead p) h :)

theorem concluded_stop (h : y.unlinked = x.unlinked) (n : Nat) : y.stopAt n = x.stopAt n :=
  stopAt_of_stops (congrArg Run.stops h :) n

/-- ARRIVED at a stop before the last, with the platform free (R60). -/
theorem exec_arrived_dwelling {run : Half} {point : Byte} (hr : Reported s run point.toNat i x)
    (running : x.state = .running) (hq : s.queueOf (s.runHandle i) = some g) (hm : x.indexAt point.toNat = some m)
    (later : x.cur ≤ m) (inner : m < x.count) (hst : x.stopAt m = some st) (nowhere : WaitsNowhere s i)
    (free : (s.tp point.toNat).occupant = none)
    (hk : s.moveConflict (s.runHandle i) m point.toNat x (if st.halts = true then none else some .stoppedAtPass) = k)
    (hj : k ≠ none → s.freeInc = some j) :
    ∃ t y st', exec (.arrived run point) s = .next t ∧ SteadyReport 3 s t ∧
      ConflictSettled s t j (s.runHandle i) point.toNat k ∧ t.runAt i = some y ∧ y.state = .dwelling ∧ y.cur = m ∧
      y.number = x.number ∧ (∀ n, n ≠ m → y.stopAt n = x.stopAt n) ∧ y.stopAt m = some st' ∧
      st'.actArr = some s.lck.clock ∧ (st.halts = true → st'.release = (t.reg i).releaseTimer ∧ st'.release ≠ none) ∧
      (st.halts = false → st'.release = st.release) ∧ (t.tp point.toNat).occupant = some (s.runHandle i) ∧
      (t.seg g).queue = (s.seg g).queue.filter (· != s.runHandle i) ∧ (∀ q, q ≠ g → t.seg q = s.seg q) ∧
      (∀ l d, s.mergeDef l = some d → x.stopsAmong x.cur m d.tp = true → s.runHandle i ∉ t.mergeList l) ∧
      t.claim i = none ∧ t.mvt.stale = false ∧
      t.mvt.staleTimer = some (min (s.lck.clock + s.lds.params.tStale) 107999) ∧ t.fli.unmatched = s.fli.unmatched := by
  obtain ⟨u, y, taken, hy, -, still, -, arrived, -, -⟩ := report_taken hr
  have still := still (by simp [running]) (by simp [running])
  obtain ⟨-, known, -, -, -⟩ := hr
  obtain ⟨low, high⟩ := point_range known
  have here : st.tp = point.toNat := by
    have := stop_of_indexAt hm
    rw [Run.tpAt, hst] at this
    exact this
  have hst' : y.stopAt m = some st := by rw [← hst]; exact (congrArg (fun r => r.stopAt m) still :)
  have cur : y.cur = x.cur := (congrArg Run.cur still :)
  have count : y.count = x.count := (congrArg Run.count still :)
  have state : y.state = .running := (state_of_quiet still).trans running
  have settled : u.settleArrived i y point.toNat =
      (u.arriveDwelling i m y).conflict? (s.runHandle i) point.toNat k := by
    rw [State.settleArrived, state]
    simp only [State.arrivedOnTrack, (ahead_of_quiet still _).trans (ahead_eq hm later), state, taken_tp taken, free,
      hst', taken_handle taken, taken_moveConflict taken cur, count, Nat.ne_of_lt inner, Option.any_some]
    rw [← hk]
    simp
  obtain ⟨c, hc⟩ : ∃ c, c = u.arriveDwelling i m y := ⟨_, rfl⟩
  rw [settled, ← hc] at arrived
  obtain ⟨off, claim, occupant, z, st', hz, dwelling, curZ, number, others, hstZ, arrival, computed, uncomputed⟩ :=
    arriveDwelling_leaves hy (by rw [taken_queueOf taken, taken_handle taken]; exact hq) hst' (count ▸ inner)
      (here ▸ low) (here ▸ high) hc
  obtain ⟨t, ht⟩ : ∃ t, t = ((c.conflict? (s.runHandle i) point.toNat k).serveLeft (s.received 3)).finish := ⟨_, rfl⟩
  obtain ⟨steady, done, conflict, handle, stale, timer, unmatched, -⟩ :=
    report_concluded taken off.onward hz nowhere hj ht
  obtain ⟨w, hw, same⟩ := done.run z hz
  have stops (n : Nat) : w.stopAt n = z.stopAt n := concluded_stop same n
  rw [here, taken_handle taken] at occupant
  refine ⟨t, w, st', by rw [arrived, ht], steady, conflict, hw, (congrArg Run.state same :).trans dwelling,
    (congrArg Run.cur same :).trans curZ, ?_, fun n hn => ?_, (stops m).trans hstZ,
    arrival.trans (by rw [taken_now taken]),
    fun halts => by rw [done.reg]; exact computed halts, uncomputed, (done.occupant _).trans occupant, ?_,
    fun q hq => ?_, fun l d hd among => ?_, done.claim.trans claim, stale, timer, unmatched⟩
  · exact (congrArg Run.number same :).trans (number.trans (congrArg Run.number still :))
  · exact (stops n).trans ((others n hn).trans (congrArg (fun r => r.stopAt n) still :))
  · rw [done.seg, off.queue, taken_seg taken, taken_handle taken]
  · rw [done.seg, off.segs q hq, taken_seg taken]
  · have left := off.lists l ⟨d, (taken_mergeDef taken l).trans hd, by
      rw [cur]; exact (congrArg (fun r => r.stopsAmong x.cur m d.tp) still :).trans among⟩
    have := done.merges l
    rw [handle, ← taken_handle taken] at this
    rw [← taken_handle taken]
    exact this left

/-- A report that ends a run's movement at its stop `m` (R62). -/
theorem report_ended (taken : Reworked i (s.received 3).restarted u) (hy : u.runAt i = some y)
    (still : y.quiet = x.quiet) (hq : s.queueOf (s.runHandle i) = some g) (hst : x.stopAt m = some st)
    (nowhere : WaitsNowhere s i) (hj : k ≠ none → s.freeInc = some j)
    (ht : t = (((u.arriveTerminal i m y).conflict? (s.runHandle i) p k).serveLeft (s.received 3)).finish) :
    SteadyReport 3 s t ∧ ConflictSettled s t j (s.runHandle i) p k ∧ ∃ w st', t.runAt i = some w ∧
      w.state = .terminated ∧ w.cur = m ∧ (∀ n, n ≠ m → w.stopAt n = x.stopAt n) ∧ w.stopAt m = some st' ∧
      st'.actArr = some s.lck.clock ∧ st'.release = st.release ∧ (∀ q, (t.tp q).occupant = (s.tp q).occupant) ∧
      (t.seg g).queue = (s.seg g).queue.filter (· != s.runHandle i) ∧ (∀ q, q ≠ g → t.seg q = s.seg q) ∧
      (∀ l, s.runHandle i ∉ t.mergeList l) ∧ t.claim i = none := by
  have hst' : y.stopAt m = some st := by rw [← hst]; exact (congrArg (fun r => r.stopAt m) still :)
  obtain ⟨c, hc⟩ : ∃ c, c = u.arriveTerminal i m y := ⟨_, rfl⟩
  rw [← hc] at ht
  obtain ⟨off, claim, points, z, hz, state, cur, others, stop⟩ :=
    arriveTerminal_leaves hy (by rw [taken_queueOf taken, taken_handle taken]; exact hq) hst' hc
  obtain ⟨steady, done, conflict, handle, -, -, -, -⟩ := report_concluded taken off.onward hz nowhere hj ht
  obtain ⟨w, hw, same⟩ := done.run z hz
  refine ⟨steady, conflict, w, _, hw, (congrArg Run.state same :).trans state, (congrArg Run.cur same :).trans cur,
    fun n hn => ?_, (concluded_stop same m).trans stop, congrArg some (taken_now taken), rfl, fun q => ?_, ?_,
    fun q hq => ?_, fun l => ?_, done.claim.trans claim⟩
  · exact (concluded_stop same n).trans ((others n hn).trans (congrArg (fun r => r.stopAt n) still :))
  · rw [done.occupant, points, taken_tp taken]
  · rw [done.seg, off.queue, taken_seg taken, taken_handle taken]
  · rw [done.seg, off.segs q hq, taken_seg taken]
  · have := done.merges l
    rw [handle, ← taken_handle taken] at this
    rw [← taken_handle taken]
    exact this (off.lists l trivial)

/-- ARRIVED of a RUNNING run at its last stop, or of a CANCELLED run in a queue, is settled as the end of its
movement. -/
theorem settleArrived_ended (taken : Reworked i (s.received 3).restarted u) (still : y.quiet = x.quiet)
    (ends : (x.state = .running ∧ m = x.count) ∨ x.state = .cancelled)
    (hq : s.queueOf (s.runHandle i) = some g) (ahead : x.ahead p = some m)
    (hk : s.moveConflict (s.runHandle i) m p x none = k) :
    u.settleArrived i y p = (u.arriveTerminal i m y).conflict? (s.runHandle i) p k := by
  have cur : y.cur = x.cur := (congrArg Run.cur still :)
  have count : y.count = x.count := (congrArg Run.count still :)
  have onTrack (h : y.state = .cancelled ∨ m = y.count) : u.arrivedOnTrack i y p =
      (u.arriveTerminal i m y).conflict? (s.runHandle i) p k := by
    simp only [State.arrivedOnTrack, (ahead_of_quiet still p).trans ahead, if_pos h, taken_handle taken,
      taken_moveConflict taken cur, hk]
  unfold State.settleArrived
  rcases ends with ⟨running, last⟩ | cancelled
  · simp only [(state_of_quiet still).trans running]
    exact onTrack (.inr (last.trans count.symm))
  · simp only [(state_of_quiet still).trans cancelled, taken_queueOf taken, taken_handle taken, hq, Option.isSome_some,
      if_true]
    exact onTrack (.inl ((state_of_quiet still).trans cancelled))

/-- PASSED of a run on the track is settled by where the run goes. -/
theorem settlePassed_onTrack (taken : Reworked i (s.received 3).restarted u) (still : y.quiet = x.quiet)
    (hs : x.state = .running ∨ x.state = .cancelled) (hq : s.queueOf (s.runHandle i) = some g) (p : Nat) :
    u.settlePassed i y p = u.passedOnTrack i y p := by
  unfold State.settlePassed
  rcases hs with hs | hs
  · simp only [(state_of_quiet still).trans hs]
  · simp only [(state_of_quiet still).trans hs, taken_queueOf taken, taken_handle taken, hq, Option.isSome_some,
      if_true]

/-- PASSED at the last stop is settled as the end of the run's movement. -/
theorem passedOnTrack_ended (taken : Reworked i (s.received 3).restarted u) (still : y.quiet = x.quiet)
    (hs : x.state = .running ∨ x.state = .cancelled) (ahead : x.ahead p = some x.count)
    (hk : s.moveConflict (s.runHandle i) x.count p x (if x.state = .running then some .passedStop else none) = k) :
    u.passedOnTrack i y p = (u.arriveTerminal i x.count y).conflict? (s.runHandle i) p k := by
  have cur : y.cur = x.cur := (congrArg Run.cur still :)
  have count : y.count = x.count := (congrArg Run.count still :)
  have kind : (if y.state = .cancelled then none else some ConflictKind.passedStop) =
      if x.state = .running then some .passedStop else none := by
    rcases hs with e | e <;> simp [state_of_quiet still, e]
  simp only [State.passedOnTrack, (ahead_of_quiet still p).trans ahead, count, if_true, kind, taken_handle taken,
    taken_moveConflict taken cur, hk]

/-- PASSED at a stop before the last, where the next queue has room, moves the run into the next segment. -/
theorem passedOnTrack_through (taken : Reworked i (s.received 3).restarted u) (still : y.quiet = x.quiet)
    (ahead : x.ahead p = some m) (inner : m < x.count) (hst : x.stopAt m = some st)
    (hn : s.segmentAfter x m = n) (room : (s.seg n).queue.length < 8)
    (hk : s.moveConflict (s.runHandle i) m p x (if st.halts = true then some .passedStop else none) = k) :
    u.passedOnTrack i y p = (u.passThrough i m y).conflict? (s.runHandle i) p k := by
  have cur : y.cur = x.cur := (congrArg Run.cur still :)
  have count : y.count = x.count := (congrArg Run.count still :)
  have after : u.segmentAfter y m = n := by
    rw [← hn]
    unfold State.segmentAfter
    rw [taken_lds taken]
    exact (congrArg (fun r => (s.lds.joining (r.tpAt m) (r.tpAt (m + 1))).getD 0) still :)
  have free : u.segmentFull n = false := by
    unfold State.segmentFull
    rw [taken_seg taken]
    exact decide_eq_false (Nat.not_le.2 room)
  have hst' : y.stopAt m = some st := by rw [← hst]; exact (congrArg (fun r => r.stopAt m) still :)
  simp only [State.passedOnTrack, (ahead_of_quiet still p).trans ahead, count, if_neg (Nat.ne_of_lt inner), after, free,
    hst', Option.any_some, taken_handle taken, taken_moveConflict taken cur, hk]
  rfl

/-- PASSED through a stop before the last (R66). -/
theorem exec_passed_through {run : Half} {point : Byte} (hr : Reported s run point.toNat i x)
    (hs : x.state = .running ∨ x.state = .cancelled) (hq : s.queueOf (s.runHandle i) = some g)
    (hm : x.indexAt point.toNat = some m) (later : x.cur ≤ m) (inner : m < x.count) (hst : x.stopAt m = some st)
    (nowhere : WaitsNowhere s i) (hn : s.lds.joining (x.tpAt m) (x.tpAt (m + 1)) = some n) (other : n ≠ g)
    (room : (s.seg n).queue.length < 8)
    (hk : s.moveConflict (s.runHandle i) m point.toNat x (if st.halts = true then some .passedStop else none) = k)
    (hj : k ≠ none → s.freeInc = some j) :
    ∃ t y st', exec (.passed run point) s = .next t ∧ SteadyReport 3 s t ∧
      ConflictSettled s t j (s.runHandle i) point.toNat k ∧ t.runAt i = some y ∧ y.state = x.state ∧ y.cur = m + 1 ∧
      (∀ n, n ≠ m → y.stopAt n = x.stopAt n) ∧ y.stopAt m = some st' ∧ st'.actArr = some s.lck.clock ∧
      st'.actDep = some s.lck.clock ∧ st'.release = st.release ∧
      (t.seg g).queue = (s.seg g).queue.filter (· != s.runHandle i) ∧
      (t.seg n).queue = (s.seg n).queue ++ [s.runHandle i] ∧ (∀ q, q ≠ g → q ≠ n → t.seg q = s.seg q) ∧
      (∀ p, (t.tp p).occupant = (s.tp p).occupant ∧ (t.tp p).ld = (s.tp p).ld) ∧
      (∀ l d, s.mergeDef l = some d → x.stopsAmong x.cur m d.tp = true → s.runHandle i ∉ t.mergeList l) ∧
      t.claim i = none ∧ t.rtb.counters = s.rtb.counters ∧ t.mvt.stale = false := by
  obtain ⟨u, y, taken, hy, -, still, -, -, -, passed⟩ := report_taken hr
  have still := still (by rcases hs with e | e <;> simp [e]) (by rcases hs with e | e <;> simp [e])
  have after : s.segmentAfter x m = n := by rw [State.segmentAfter, hn]; rfl
  have after' : u.segmentAfter y m = n := by
    rw [← after]
    unfold State.segmentAfter
    rw [taken_lds taken]
    exact (congrArg (fun r => (s.lds.joining (r.tpAt m) (r.tpAt (m + 1))).getD 0) still :)
  obtain ⟨low, high⟩ := mem_ids.1 (List.mem_of_find?_eq_some hn)
  have hst' : y.stopAt m = some st := by rw [← hst]; exact (congrArg (fun r => r.stopAt m) still :)
  obtain ⟨c, hc⟩ : ∃ c, c = u.passThrough i m y := ⟨_, rfl⟩
  rw [settlePassed_onTrack taken still hs hq,
    passedOnTrack_through taken still (ahead_eq hm later) inner hst after room hk, ← hc] at passed
  obtain ⟨on, queue, next, segs, points, lists, claim, z, hz, state, cur, others, stop⟩ :=
    passThrough_leaves hy (by rw [taken_queueOf taken, taken_handle taken]; exact hq)
      (by rw [state_of_quiet still]; exact hs) hst' after' low high other hc
  obtain ⟨t, ht⟩ : ∃ t, t = ((c.conflict? (s.runHandle i) point.toNat k).serveLeft (s.received 3)).finish := ⟨_, rfl⟩
  obtain ⟨steady, done, conflict, handle, stale, -, -, counters⟩ := report_concluded taken on hz nowhere hj ht
  obtain ⟨w, hw, same⟩ := done.run z hz
  refine ⟨t, w, _, by rw [passed, ht], steady, conflict, hw, ?_, (congrArg Run.cur same :).trans cur, fun k hk => ?_,
    (concluded_stop same m).trans stop, congrArg some (taken_now taken), congrArg some (taken_now taken), rfl, ?_, ?_,
    fun q hg hn => ?_, fun p => ⟨?_, ?_⟩, fun l d hd among => ?_, done.claim.trans claim, counters, stale⟩
  · exact (congrArg Run.state same :).trans (state.trans (state_of_quiet still))
  · exact (concluded_stop same k).trans ((others k hk).trans (congrArg (fun r => r.stopAt k) still :))
  · rw [done.seg, queue, taken_seg taken, taken_handle taken]
  · rw [done.seg, next, taken_seg taken, taken_handle taken]
  · rw [done.seg, segs q hg hn, taken_seg taken]
  · rw [done.occupant, points, taken_tp taken]
  · have ld : (t.tp p).ld = (c.tp p).ld := (congrArg TpLive.ld (done.points p) :)
    rw [ld, points, taken_tp taken]
  · have left := lists l d ((taken_mergeDef taken l).trans hd) (by
      rw [show y.cur = x.cur from (congrArg Run.cur still :)]
      exact (congrArg (fun r => r.stopsAmong x.cur m d.tp) still :).trans among)
    have := done.merges l
    rw [handle, ← taken_handle taken] at this
    rw [← taken_handle taken]
    exact this left

/-! ### The regular reports -/

theorem waitsNowhere_of_nobody (h : NobodyWaits s) (i : Nat) : WaitsNowhere s i := fun k z hz e he => by
  rw [h k z hz] at he
  cases he

/-- The merge at a run's next timing point lies among the stops that it reaches. -/
theorem mergeAt_among (hm : x.indexAt p = some m) (hl : s.mergeAt p = some l) :
    ∃ d, s.mergeDef l = some d ∧ x.stopsAmong m m d.tp = true := by
  have found := List.find?_some hl
  obtain ⟨d, hd, here⟩ := (Option.any_eq_true _ _).1 found
  obtain rfl : d.tp = p := by simpa using here
  exact ⟨d, hd, by simp [Run.stopsAmong, hm]⟩

/-- A conflict raised for a report at an occupied platform leaves the run where it is. -/
theorem exec_arrived_occupied {run : Half} {point : Byte} (hr : Reported s run point.toNat i x)
    (running : x.state = .running) (hm : x.indexAt point.toNat = some m) (later : x.cur ≤ m) (inner : m < x.count)
    (taken : (s.tp point.toNat).occupant ≠ none) (hj : s.freeInc = some j) (nowhere : WaitsNowhere s i) :
    ∃ t y, exec (.arrived run point) s = .next t ∧ SteadyReport 3 s t ∧ t.runAt i = some y ∧ y.state = .running ∧
      y.plan = x.plan ∧ (∀ q, t.seg q = s.seg q) ∧
      ConflictRaised t j (s.runHandle i) point.toNat .platformOccupied := by
  obtain ⟨u, y, reworked, hy, -, still, -, arrived, -, -⟩ := report_taken hr
  have still := still (by simp [running]) (by simp [running])
  have state : y.state = .running := (state_of_quiet still).trans running
  have count : y.count = x.count := (congrArg Run.count still :)
  have occupied : (s.tp point.toNat).occupant.isSome = true := Option.isSome_iff_ne_none.2 taken
  have settled : u.settleArrived i y point.toNat =
      u.conflict? (s.runHandle i) point.toNat (some .platformOccupied) := by
    rw [State.settleArrived, state]
    simp only [State.arrivedOnTrack, (ahead_of_quiet still _).trans (ahead_eq hm later), state, taken_tp reworked,
      occupied, taken_handle reworked, count, Nat.ne_of_lt inner]
    rfl
  obtain ⟨t, ht⟩ : ∃ t, t = ((u.conflict? (s.runHandle i) point.toNat (some .platformOccupied)).serveLeft
    (s.received 3)).finish := ⟨_, rfl⟩
  obtain ⟨steady, done, conflict, -⟩ := report_concluded (j := j) reworked (.refl u) hy nowhere (fun _ => hj) ht
  obtain ⟨w, hw, same⟩ := done.run y hy
  refine ⟨t, w, by rw [arrived, settled, ht], steady, hw, (congrArg Run.state same :).trans state, ?_, fun q => ?_,
    conflict⟩
  · exact (congrArg Run.plan same :).trans (congrArg Run.plan still :)
  · rw [done.seg, taken_seg reworked]

/-- Settles O34: the arrival at a stop before the last, at the last stop, and at an occupied platform. -/
theorem arrivalTaken : Obligations.ArrivalTaken := by
  intro s run point i g x st hr running hm hst
  refine ⟨fun ordered nowhere halts inner free => ?_, fun ordered nowhere last => ?_,
    fun j inner occupied hj nowhere => ?_⟩
  · have regular : s.moveConflict (s.runHandle i) x.cur point.toNat x
        (if st.halts = true then none else some .stoppedAtPass) = none := by
      rw [if_pos halts]
      exact moveConflict_of_carries ordered.1 ⟨rfl, rfl, ordered⟩
    obtain ⟨t, y, st', ht, steady, settled, hy, state, cur, number, -, hst', arrival, computed, -, occupant, queue,
      segs,
      lists, claim, stale, timer, unmatched⟩ := exec_arrived_dwelling (j := 0) hr running ordered.1 hm (Nat.le_refl _)
        inner hst nowhere free regular (by simp)
    obtain ⟨release, released⟩ := computed halts
    refine ⟨t, y, st', ht, steady, hy, state, cur, number, hst', arrival, release, released, occupant, queue, segs,
      fun l hl => ?_, claim, stale, timer, settled, unmatched⟩
    obtain ⟨d, hd, among⟩ := mergeAt_among hm hl
    exact lists l d hd among
  · obtain ⟨u, y, taken, hy, -, still, -, arrived, -, -⟩ := report_taken hr
    have still := still (by simp [running]) (by simp [running])
    have settled := settleArrived_ended taken still (.inl ⟨running, last⟩) ordered.1 (ahead_eq hm (Nat.le_refl _))
      (moveConflict_of_carries (last := none) (k := none) ordered.1 ⟨rfl, rfl, ordered⟩)
    obtain ⟨steady, conflict, w, st', hw, state, -, -, hst', arrival, -, occupant, queue, segs, -, claim⟩ :=
      report_ended (j := 0) (k := none) taken hy still ordered.1 hst nowhere (by simp) rfl
    rw [settled] at arrived
    exact ⟨_, w, st', arrived, steady, hw, state, hst', arrival, occupant _, queue, segs, claim, conflict⟩
  · obtain ⟨t, y, ht, steady, hy, state, plan, segs, z, hz, raised⟩ :=
      exec_arrived_occupied hr running hm (Nat.le_refl _) inner occupied hj nowhere
    exact ⟨t, y, z, ht, steady, hy, state, plan, segs, hz, raised⟩

/-- Settles O36: the pass through a stop at which the run does not halt, as the general pass without a conflict. -/
theorem passTaken : Obligations.PassTaken := by
  intro s run point i g n x st hr running hm hst passes inner ordered hn other room nobody
  have regular : s.moveConflict (s.runHandle i) x.cur point.toNat x
      (if st.halts = true then some .passedStop else none) = none := by
    rw [passes]
    exact moveConflict_of_carries ordered.1 ⟨rfl, rfl, ordered⟩
  obtain ⟨t, y, st', ht, steady, settled, hy, state, cur, -, hst', arrival, departure, -, queue, next, segs, points,
    lists, claim, -, stale⟩ := exec_passed_through (j := 0) hr (.inl running) ordered.1 hm (Nat.le_refl _) inner hst
      (waitsNowhere_of_nobody nobody i) hn other room regular (by simp)
  refine ⟨t, y, st', ht, steady, hy, state.trans running, cur, hst', arrival, departure, queue, next, segs,
    fun l hl => ?_, claim, fun p => (points p).1, stale, settled⟩
  obtain ⟨d, hd, among⟩ := mergeAt_among hm hl
  exact lists l d hd among

end Sys2Proof.Machine
end

/-! ## Reports that are discarded with a conflict, or place a run (R38, R59, R63 to R66, R144) -/

section
namespace Sys2Proof.Machine
variable {s t u : State} {i j p g h m n : Nat} {x y z : Run} {st : Stop} {k : ConflictKind} {run : Half} {point : Byte}

/-! ### Discards -/

theorem segmentFull_iff : s.segmentFull g = true ↔ 8 ≤ (s.seg g).queue.length := decide_eq_true_iff

/-- An ARRIVED report that is discarded raises its conflict. -/
theorem settleArrived_discards (hd : Discards s i x p (.arrived run point) k) :
    s.settleArrived i x p = s.conflict (s.runHandle i) p k := by
  unfold State.settleArrived
  cases k with
  | unexpectedPoint =>
    simp only [Discards] at hd
    cases hs : x.state with
    | planned =>
      simp only [hs] at hd
      simp only [State.arrivedPlanned, if_pos hd]
    | dwelling | held | released =>
      simp only [hs] at hd
      simp only [if_neg hd]
    | running =>
      simp only [hs] at hd
      simp only [State.arrivedOnTrack, hd.1, if_neg hd.2]
    | cancelled =>
      simp only [hs] at hd
      dsimp only
      split
      · next queued =>
        rcases hd with hq | hd
        · simp [hq] at queued
        · simp only [State.arrivedOnTrack, hd.1, if_neg hd.2]
      · rfl
    | terminated => rfl
  | platformOccupied =>
    obtain ⟨occupied, ⟨planned, here⟩ | ⟨running, m, ahead, inner⟩⟩ := hd
    · simp only [planned, State.arrivedPlanned, here, ne_eq, not_true, if_false, Option.isSome_iff_ne_none, occupied,
        not_false_eq_true, if_true]
    · simp only [running, State.arrivedOnTrack, ahead, Option.isSome_iff_ne_none, ne_eq, occupied, inner,
        not_false_eq_true, if_true, or_false, reduceCtorEq, if_false]
  | _ => exact absurd hd (by simp [Discards])

/-- A DEPARTED report that is discarded raises its conflict. -/
theorem settleDeparted_discards (hd : Discards s i x p (.departed run point) k) :
    s.settleDeparted i x p = s.conflict (s.runHandle i) p k := by
  unfold State.settleDeparted
  cases k with
  | unexpectedPoint =>
    simp only [Discards] at hd
    cases hs : x.state with
    | planned | dwelling | held | released | terminated =>
      simp only [hs] at hd
      simp only [if_neg hd]
    | running =>
      simp only [hs] at hd
      simp only [State.departedOnTrack, if_neg hd]
    | cancelled =>
      simp only [hs] at hd
      cases hq : s.queueOf (s.runHandle i) with
      | none =>
        simp only [hq, if_true] at hd
        simp [hq, hd]
      | some g =>
        simp only [hq, reduceCtorEq, if_false] at hd
        simp [hq, State.departedOnTrack, hd]
  | queueFull =>
    obtain ⟨here, ⟨released, g, hg, full⟩ | ⟨hs, full⟩⟩ := hd
    · simp only [released, if_pos here, State.departReleased, hg, Option.getD_some, segmentFull_iff.2 full, if_true]
    · have unreleased : s.departUnreleased i x p true = s.conflict (s.runHandle i) p .queueFull := by
        simp only [State.departUnreleased, segmentFull_iff.2 full, if_true]
      rcases hs with e | e | e | ⟨e, hq⟩
      · simp only [e, if_pos here, unreleased]
      · simp only [e, if_pos here, unreleased]
      · simp only [e, if_pos here, unreleased]
      · simp only [e, hq, if_pos here, unreleased]
        rfl
  | _ => exact absurd hd (by simp [Discards])

/-- A PASSED report that is discarded raises its conflict. -/
theorem settlePassed_discards (hd : Discards s i x p (.passed run point) k) :
    s.settlePassed i x p = s.conflict (s.runHandle i) p k := by
  unfold State.settlePassed
  cases k with
  | unexpectedPoint =>
    simp only [Discards] at hd
    cases hs : x.state with
    | planned =>
      simp only [hs] at hd
      simp only [if_neg hd]
    | running =>
      simp only [hs] at hd
      simp only [State.passedOnTrack, hd.1, if_neg hd.2]
    | cancelled =>
      simp only [hs] at hd
      dsimp only
      split
      · next queued =>
        rcases hd with hq | hd
        · simp [hq] at queued
        · simp only [State.passedOnTrack, hd.1, if_neg hd.2]
      · rfl
    | dwelling | held | released | terminated => rfl
  | queueFull =>
    obtain ⟨planned, here, full⟩ | ⟨hs, m, ahead, inner, full⟩ := hd
    · simp only [planned, if_pos here, State.departUnreleased, segmentFull_iff.2 full, if_true]
    · have onTrack : s.passedOnTrack i x p = s.conflict (s.runHandle i) p .queueFull := by
        simp only [State.passedOnTrack, ahead, if_neg inner, segmentFull_iff.2 full, if_true]
      rcases hs with e | ⟨e, hq⟩
      · simp only [e, onTrack]
      · simp only [e, Option.isSome_iff_ne_none.2 hq, if_true, onTrack]
  | _ => exact absurd hd (by simp [Discards])

/-- A request joins the pending set in its cause's entry (R144). -/
theorem enterPending_look (s : State) (h p : Nat) (k : ConflictKind) :
    look (s.enterPending .reportConflict (.ofConflict h p k)).itb.pendingSet AutoCause.reportConflict.code =
      some (match look s.itb.pendingSet AutoCause.reportConflict.code with
        | none => ⟨.ofConflict h p k, 1⟩
        | some q => { q with count := min 255 (q.count + 1) }) := by
  obtain ⟨e, he⟩ := get1_isSome s.itb.pendingSet (i := AutoCause.reportConflict.code) (by decide) (by decide)
  show (get1 (mod1 s.itb.pendingSet _ _) _).join = some (match (get1 s.itb.pendingSet _).join with
    | none => _
    | some q => _)
  rw [get1_mod1_self, he]
  cases e <;> rfl

/-- A conflict changes the incident table, the run table and the notices alone; of the run table only the links of the
run. -/
theorem conflict_leaves (hx : s.runAt i = some x) (p : Nat) (k : ConflictKind) :
    ∃ b r l, s.conflict (s.runHandle i) p k = { s with itb := b, rtb := r, crp := { s.crp with notices := l } } ∧
      r.counters = s.rtb.counters := by
  cases hj : s.freeInc with
  | none => exact ⟨_, s.rtb, s.crp.notices, conflict_pending hj .., rfl⟩
  | some j =>
    have raised := conflict_raised hx hj p k
    exact ⟨_, _, _, raised.rest, raised.counters⟩

/-- A report that is discarded while the line is not STALE. -/
theorem report_discarded (hr : Reported s run point.toNat i x) (fresh : s.mvt.stale = false)
    (ht : t = (((s.received 3).restarted.conflict (s.runHandle i) p k).serveLeft (s.received 3)).finish) :
    SteadyReport 3 s t ∧ t.mvt = { s.mvt with staleTimer := some (min (s.lck.clock + s.lds.params.tStale) 107999) } ∧
    t.drg = s.drg ∧ t.tpc = s.tpc ∧ t.rtb.counters = s.rtb.counters ∧ t.fli.unmatched = s.fli.unmatched ∧
    (∀ j, s.freeInc = some j → ConflictRaised t j (s.runHandle i) p k ∧ t.runAt i = some { x with
      incidents := if x.incidents.length < 4 then x.incidents ++ [s.incHandle j] else x.incidents }) ∧
    (s.freeInc = none → t.rtb = s.rtb ∧ look t.itb.pendingSet AutoCause.reportConflict.code =
      some (match look s.itb.pendingSet AutoCause.reportConflict.code with
        | none => ⟨.ofConflict (s.runHandle i) p k, 1⟩
        | some q => { q with count := min 255 (q.count + 1) })) := by
  have hx : (s.received 3).restarted.runAt i = some x := runNumbered_runAt hr.2.2.2.2
  obtain ⟨b, r, l, left, counters⟩ := conflict_leaves hx p k
  obtain ⟨u, hu⟩ : ∃ u, u = (s.received 3).restarted.conflict (s.runHandle i) p k := ⟨_, rfl⟩
  have left : u = { (s.received 3).restarted with
      itb := b, rtb := r, crp := { s.crp with notices := l } } := hu.trans left
  rw [← hu, serveLeft_of_tpc (by rw [left]; rfl)] at ht
  have same := sameBlocks_finish u
  have clear : ({ s.mvt with
      staleTimer := some (min (s.lck.clock + s.lds.params.tStale) 107999), stale := false } : Mvt) =
      { s.mvt with staleTimer := some (min (s.lck.clock + s.lds.params.tStale) 107999) } := by rw [← fresh]
  subst ht
  refine ⟨steadyReport_of_kept ?_, ?_, ?_, ?_, ?_, ?_, fun j hj => ?_, fun full => ?_⟩
  · rw [hu, conflict_kept]
    rfl
  · rw [same.mvt, left, ← clear]
    rfl
  · rw [same.drg, left]
    rfl
  · rw [same.tpc, left]
    rfl
  · rw [same.rtb, left]
    exact counters
  · rw [finish_unmatched, left]
    exact received_unmatched s 3
  · have raised := conflict_raised hx (j := j) hj p k
    have raised : Conflicted i j p k (s.received 3).restarted u := hu ▸ raised
    have linked : u.runAt i = some (x.link ((s.received 3).restarted.incHandle j)) := by rw [raised.run, hx]; rfl
    refine ⟨?_, (same.runAt i).trans linked⟩
    unfold ConflictRaised State.incAt
    rw [same.itb]
    exact raised.raised
  · have pending : u = (s.received 3).restarted.enterPending .reportConflict (.ofConflict (s.runHandle i) p k) :=
      hu.trans (conflict_pending (s := (s.received 3).restarted) full ..)
    rw [same.rtb, same.itb, pending]
    exact ⟨rfl, enterPending_look (s.received 3).restarted _ p k⟩

/-- A report that is discarded, by its command. -/
theorem exec_discards (hr : Reported s run point.toNat i x) (fresh : s.mvt.stale = false) {c : Instr}
    (hc : c ∈ [Instr.arrived run point, Instr.departed run point, Instr.passed run point])
    (hd : Discards s i x point.toNat c k) : exec c s =
      .next (((s.received 3).restarted.conflict (s.runHandle i) point.toNat k).serveLeft (s.received 3)).finish := by
  obtain ⟨u, y, -, -, -, -, same, arrived, departed, passed⟩ := report_taken hr
  obtain ⟨rfl, rfl⟩ := same fresh
  simp only [List.mem_cons, List.not_mem_nil, or_false] at hc
  rcases hc with rfl | rfl | rfl
  · rw [arrived, settleArrived_discards (s := (s.received 3).restarted) (run := run) (point := point) (k := k) hd]
    rfl
  · rw [departed, settleDeparted_discards (s := (s.received 3).restarted) (run := run) (point := point) (k := k) hd]
    rfl
  · rw [passed, settlePassed_discards (s := (s.received 3).restarted) (run := run) (point := point) (k := k) hd]
    rfl

/-! ### A PLANNED run placed by its arrival (R63) -/

theorem Onward.placeRun (hx : s.runAt i = some x) : Onward s (s.placeRun i) := by
  obtain ⟨n, a, l, watched⟩ := evalHorizon_eq ((s.placed i x).computeRelease i)
  have placed : Onward s (s.placed i x) := by
    refine ((Onward.refl s).modRun i fun r => ?_).modTp _ _
    rw [Run.placed, arriveAt_eq]
    rfl
  rw [placeRun_eq hx, watched]
  exact { placed.computeRelease i with }

theorem exec_arrived_placed (hr : Reported s run point.toNat i x) (planned : x.state = .planned)
    (here : x.tpAt 1 = point.toNat) (free : (s.tp point.toNat).occupant = none) (nowhere : WaitsNowhere s i) :
    ∃ t y, exec (.arrived run point) s = .next t ∧ SteadyReport 3 s t ∧ t.runAt i = some y ∧ y.state = .dwelling ∧
      Placed s y ∧ (t.tp point.toNat).occupant = some (s.runHandle i) ∧ ∀ q, t.seg q = s.seg q := by
  obtain ⟨u, y, taken, hy, -, still, -, arrived, -, -⟩ := report_taken hr
  have still := still (by simp [planned]) (by simp [planned])
  obtain ⟨low, high⟩ := point_range hr.2.1
  have here' : y.tpAt 1 = point.toNat := (congrArg (fun r => r.tpAt 1) still :).trans here
  have first : y.stopAt 1 ≠ none := by
    intro none
    rw [Run.tpAt, none] at here'
    exact absurd here' (by show 0 ≠ _; omega)
  have settled : u.settleArrived i y point.toNat = u.placeRun i := by
    rw [State.settleArrived, state_of_quiet still, planned]
    simp only [State.arrivedPlanned, here', ne_eq, not_true, if_false, taken_tp taken, free]
    rfl
  obtain ⟨z, st, hz, state, cur, timer, waiting, hst, arrival, -, mvt, -, -, -⟩ := placeRun_leaves hy first
  obtain ⟨t, ht⟩ : ∃ t, t = (((u.placeRun i).conflict? (s.runHandle i) point.toNat none).serveLeft
    (s.received 3)).finish := ⟨_, rfl⟩
  obtain ⟨steady, done, -⟩ :=
    report_concluded (j := 0) taken (.placeRun hy) hz nowhere (fun h => absurd rfl h) ht
  obtain ⟨w, hw, same⟩ := done.run z hz
  have clock : u.lck = s.lck := (lck_of_kept taken.kept).trans rfl
  refine ⟨t, w, by rw [arrived, settled, ht]; rfl, steady, hw, (congrArg Run.state same :).trans state,
    ⟨(congrArg Run.cur same :).trans cur, (congrArg Run.placeTimer same :).trans timer,
      (congrArg Run.placeWaiting same :).trans waiting, st, (concluded_stop same 1).trans hst, by rw [arrival, clock]⟩,
    ?_, fun q => ?_⟩
  · rw [done.occupant, State.tp, mvt, here', taken_handle taken]
    exact occupy_occupant low high u (s.runHandle i)
  · rw [done.seg, State.seg, mvt]
    exact taken_seg taken q

/-! ### The statement -/

theorem exists_stop_of_indexAt (hm : x.indexAt p = some m) : ∃ st, x.stopAt m = some st := by
  obtain ⟨l, hl, rfl⟩ := Option.map_eq_some_iff.1 hm
  obtain ⟨hlt, -⟩ := List.findIdx?_eq_some_iff_getElem.1 hl
  exact ⟨x.stops[l], by simp [Run.stopAt, hlt]⟩

/-- Settles O37: the reports that are discarded by their conflict alone, those that are taken by where they move the
run. -/
theorem irregularReports : Obligations.IrregularReports := by
  intro s run point i x hr
  refine ⟨fun c k fresh hc hd => ?_, fun g m j st k running hq hm later inner hst nowhere free hj carries => ?_,
    fun g m j st k ends hq hm later hst nowhere hj carries => ?_, fun planned here free nowhere => ?_,
    fun g m n j st k hs hq hm later inner hst nowhere hn other room hj carries => ?_,
    fun g m j k hs last hq hm later nowhere hj carries => ?_⟩
  · exact ⟨_, exec_discards hr fresh hc hd, report_discarded hr fresh rfl⟩
  · obtain ⟨t, y, st', ht, steady, settled, hy, state, cur, -, others, hst', arrival, computed, uncomputed, occupant,
      queue, segs, lists, claim, -⟩ := exec_arrived_dwelling hr running hq hm later inner hst nowhere free
        (moveConflict_of_carries hq carries) fun _ => hj
    exact ⟨t, y, st', ht, steady, settled, hy, state, cur, others, hst', arrival, computed, uncomputed, occupant, queue,
      segs, lists, claim⟩
  · obtain ⟨u, y, taken, hy, -, still, -, arrived, -, -⟩ := report_taken hr
    have moving : x.state = .running ∨ x.state = .cancelled := ends.imp_left And.left
    have still := still (by rcases moving with e | e <;> simp [e]) (by rcases moving with e | e <;> simp [e])
    rw [settleArrived_ended taken still ends hq (ahead_eq hm later) (moveConflict_of_carries hq carries)] at arrived
    obtain ⟨steady, settled, w, st', hw, state, cur, others, hst', arrival, release, occupant, rest⟩ :=
      report_ended taken hy still hq hst nowhere (fun _ => hj) rfl
    exact ⟨_, w, st', arrived, steady, settled, hw, state, cur, others, hst', arrival, release, occupant _, rest⟩
  · exact exec_arrived_placed hr planned here free nowhere
  · obtain ⟨t, y, st', ht, steady, settled, hy, state, cur, others, hst', arrival, departure, release, queue, next,
      segs, points, lists, claim, counters, -⟩ := exec_passed_through hr hs hq hm later inner hst nowhere hn other room
        (moveConflict_of_carries hq carries) fun _ => hj
    exact ⟨t, y, st', ht, steady, settled, hy, state, cur, others, hst', arrival, departure, release, queue, next, segs,
      points, lists, claim, counters⟩
  · obtain rfl := last
    obtain ⟨u, y, taken, hy, -, still, -, -, -, passed⟩ := report_taken hr
    have still := still (by rcases hs with e | e <;> simp [e]) (by rcases hs with e | e <;> simp [e])
    obtain ⟨st, hst⟩ := exists_stop_of_indexAt hm
    rw [settlePassed_onTrack taken still hs hq, passedOnTrack_ended taken still hs (ahead_eq hm later)
      (moveConflict_of_carries hq carries)] at passed
    obtain ⟨steady, settled, w, st', hw, state, -, -, -, -, -, -, queue, -, lists, claim⟩ :=
      report_ended taken hy still hq hst nowhere (fun _ => hj) rfl
    exact ⟨_, w, passed, steady, settled, hw, state, queue, lists, claim⟩

end Sys2Proof.Machine
end

/-! ## Departures without a release (R65, R87) -/

section
namespace Sys2Proof.Machine
variable {s t u c : State} {i j p g h m n : Nat} {x y z : Run} {st : Stop} {run : Half} {point : Byte}

/-! ### A run leaves merge priority (R95) -/

theorem chooseHolder_holder (high : i ≤ 128) (hx : s.runAt i = some x) (moves : x.state ≠ .held) (m k : Nat)
    (hk : ((s.chooseHolder m).arbiter k).holder = some (s.runHandle i)) :
    (s.arbiter k).holder = some (s.runHandle i) := by
  unfold State.chooseHolder at hk
  split at hk
  · split at hk
    · next w hw =>
      obtain ⟨r, hr, held⟩ := contenders_held (first_mem hw)
      have other : w ≠ i := by
        rintro rfl
        obtain rfl : x = r := Option.some.inj (hx.symm.trans hr)
        exact moves held
      have named : ((s.nameHolder m w).arbiter k).holder = if m = k then
          ((get1 s.drg.arbiters k).map fun a => { a with holder := some (s.runHandle w) }).elim none (·.holder)
          else (s.arbiter k).holder := by
        have arbiters : (s.nameHolder m w).arbiter k =
            (s.modArbiter m fun a => { a with holder := some (s.runHandle w) }).arbiter k := by
          unfold State.nameHolder
          dsimp only
          split <;> rfl
        rw [arbiters, modArbiter_arbiter]
        split
        · cases get1 s.drg.arbiters k <;> rfl
        · rfl
      rw [named] at hk
      split at hk
      · cases hg : get1 s.drg.arbiters k with
        | none => rw [hg] at hk; cases hk
        | some a =>
          rw [hg] at hk
          exact absurd (Option.some.inj hk) (runHandle_ne (runAt_range hr).2 high other)
      · exact hk
    · exact hk
  · exact hk

/-- A run that stops being the holder of a merge holds no merge but those it held. -/
theorem loseHolderAt_holder (high : i ≤ 128) (hx : s.runAt i = some x) (moves : x.state ≠ .held) (m k : Nat)
    (hk : ((s.loseHolderAt (s.runHandle i) m).arbiter k).holder = some (s.runHandle i)) :
    k ≠ m ∧ (s.arbiter k).holder = some (s.runHandle i) := by
  unfold State.loseHolderAt at hk
  split at hk
  · have kept := chooseHolder_holder (s := s.modArbiter m fun a => { a with holder := none }) high hx moves m k hk
    rw [modArbiter_arbiter] at kept
    split at kept
    · cases hg : get1 s.drg.arbiters k <;> rw [hg] at kept <;> cases kept
    · next other => exact ⟨fun e => other e.symm, kept⟩
  · next lost =>
    refine ⟨?_, hk⟩
    rintro rfl
    exact lost hk

theorem loseHolder_holdsNone (hx : s.runAt i = some x) (moves : x.state ≠ .held) :
    (s.loseHolder (s.runHandle i)).holdsNone (s.runHandle i) := by
  obtain ⟨-, high⟩ := runAt_range hx
  have fold (l : List Nat) (t : State) (ht : t.runAt i = some x) (handle : t.runHandle i = s.runHandle i) (k : Nat)
      (hk : ((l.foldl (fun t m => t.loseHolderAt (s.runHandle i) m) t).arbiter k).holder = some (s.runHandle i)) :
      k ∉ l ∧ (t.arbiter k).holder = some (s.runHandle i) := by
    induction l generalizing t with
    | nil => exact ⟨List.not_mem_nil, hk⟩
    | cons m l ih =>
      have handle' : (t.loseHolderAt (s.runHandle i) m).runHandle i = s.runHandle i := by
        rw [← handle]
        exact ((Reworked.refl i t).loseHolderAt _ m).runHandle i
      obtain ⟨later, before⟩ := ih _ (loseHolderAt_runAt ht moves _ m) handle' hk
      rw [← handle] at before
      obtain ⟨here, held⟩ := loseHolderAt_holder high ht moves m k before
      exact ⟨by simp [here, later], handle ▸ held⟩
  intro k hk
  obtain ⟨outside, held⟩ := fold (ids 2) s hx rfl k hk
  unfold State.arbiter at held
  cases hg : get1 s.drg.arbiters k with
  | none => rw [hg] at held; cases held
  | some a => exact outside (mem_ids.2 (get1_some_range hg))

/-- A run on the move leaves regulation: its timer, its dispatcher hold, its wait queues and its priorities. -/
theorem leaveRegulation_leaves (hx : s.runAt i = some x) (moves : x.state ≠ .held) (stands : x.state ≠ .dwelling) :
    Onward s (s.leaveRegulation i) ∧ (s.leaveRegulation i).mvt = s.mvt ∧ (s.leaveRegulation i).claim i = s.claim i ∧
    (∃ y, (s.leaveRegulation i).runAt i = some y ∧ y.quiet = x.quiet) ∧
    ((s.leaveRegulation i).reg i).releaseTimer = none ∧ ((s.leaveRegulation i).reg i).dispatcherHold = false ∧
    (s.leaveRegulation i).unqueued (s.runHandle i) ∧ (s.leaveRegulation i).holdsNone (s.runHandle i) := by
  obtain ⟨low, high⟩ := runAt_range hx
  obtain ⟨a, ha⟩ : ∃ a, a = s.modReg i fun z => { z with releaseTimer := none, dispatcherHold := false } := ⟨_, rfl⟩
  obtain ⟨b, hb⟩ : ∃ b, b = a.leaveQueues (s.runHandle i) := ⟨_, rfl⟩
  have left : s.leaveRegulation i = b.loseHolder (s.runHandle i) := by rw [hb, ha]; rfl
  have run : a.runAt i = some x := by rw [ha]; exact hx
  have rests := not_stands run moves fun h => absurd h stands
  have queues : Reworked i a b := hb ▸ (Reworked.refl i a).leaveQueues _
  have reworked : Reworked i a (s.leaveRegulation i) := left ▸ queues.loseHolder _
  have reg : (s.leaveRegulation i).reg i = { s.reg i with releaseTimer := none, dispatcherHold := false } := by
    rw [(reworked.rest rests).2.1, ha, modReg_reg_self low high]
  have onA : Onward s a := ha ▸ (Onward.refl s).modReg i _
  have handle : b.runHandle i = s.runHandle i := (queues.runHandle i).trans (onA.runHandle i)
  obtain ⟨y, hy, -⟩ := queues.still run rests
  refine ⟨onA.trans reworked.onward, ?_, ?_, reworked.still run rests, by rw [reg], by rw [reg], ?_, ?_⟩
  · rw [reworked.mvt, ha]
    rfl
  · rw [State.claim, reworked.claims, ha]
    rfl
  · rw [left]
    exact ((Reworked.refl i b).loseHolder _).waits _ (hb ▸ leaveQueues_unqueued a _)
  · obtain ⟨z, hz, still⟩ := queues.still run rests
    rw [left, ← handle]
    exact loseHolder_holdsNone hz (by rw [state_of_quiet still]; exact moves)

/-! ### A platform vacated (R39, R57) -/

/-- The track without its occupants. -/
def State.unoccupied (s : State) : Mvt :=
  { s.mvt with points := s.mvt.points.map fun z => { z with occupant := none } }

theorem modTp_unoccupied (s : State) (p : Nat) (o : Option Nat) :
    (s.modTp p fun z => { z with occupant := o }).unoccupied = s.unoccupied :=
  congrArg (fun v => ({ s.mvt with points := v } : Mvt)) (map_mod1 s.mvt.points p fun _ => rfl)

/-- What a vacated platform, or the horizon's evaluation, leaves of the state for a run elsewhere. -/
structure Vacated (s t : State) : Prop where
  onward : Onward s t
  unoccupied : t.unoccupied = s.unoccupied
  arbiters : t.drg.arbiters = s.drg.arbiters

theorem Vacated.refl (s : State) : Vacated s s := ⟨.refl s, rfl, rfl⟩

theorem Vacated.trans (h : Vacated s t) (h' : Vacated t u) : Vacated s u :=
  ⟨h.onward.trans h'.onward, h'.unoccupied.trans h.unoccupied, h'.arbiters.trans h.arbiters⟩

theorem vacated_evalHorizon (s : State) : Vacated s s.evalHorizon := by
  obtain ⟨n, a, l, watched⟩ := evalHorizon_eq s
  rw [watched]
  exact ⟨{ Onward.refl s with }, rfl, rfl⟩

theorem vacated_placeRun (hx : s.runAt i = some x) : Vacated s (s.placeRun i) := by
  have watched := vacated_evalHorizon ((s.placed i x).computeRelease i)
  refine ⟨.placeRun hx, ?_, ?_⟩
  · obtain ⟨-, -, -, -, -, -, -, -, -, mvt, -⟩ := computeRelease_leaves (placed_runAt hx x)
    rw [placeRun_eq hx, watched.unoccupied, State.unoccupied, mvt]
    exact modTp_unoccupied s _ _
  · rw [placeRun_eq hx, watched.arbiters]
    obtain ⟨-, k, quiet⟩ | ⟨-, same⟩ := computeRelease_cases (placed_runAt hx x)
    · rw [drg_of_quiet quiet]
      rfl
    · rw [same]
      rfl

theorem vacated_vacate (s : State) (p h : Nat) : Vacated s (s.vacate p h) := by
  unfold State.vacate
  split
  · unfold State.clearOccupant
    have cleared : Vacated s (s.modTp p fun z => { z with occupant := none }) :=
      ⟨(Onward.refl s).modTp _ _, modTp_unoccupied s p none, rfl⟩
    dsimp only
    split
    · next j hj =>
      obtain ⟨y, hy, -⟩ := waitingAt_planned hj
      exact cleared.trans (vacated_placeRun hy)
    · exact cleared
  · exact .refl s

theorem Vacated.segs (h : Vacated s t) : t.mvt.segs = s.mvt.segs := (congrArg Mvt.segs h.unoccupied :)

theorem Vacated.mergeList (h : Vacated s t) (l : Nat) : t.mergeList l = s.mergeList l := by
  have lists : t.mvt.mergeLists = s.mvt.mergeLists := (congrArg Mvt.mergeLists h.unoccupied :)
  rw [State.mergeList, lists]
  rfl

theorem Vacated.tp (h : Vacated s t) (q : Nat) :
    ({ t.tp q with occupant := none } : TpLive) = { s.tp q with occupant := none } := by
  have read (v : State) : ({ v.tp q with occupant := none } : TpLive) =
      (get1 v.unoccupied.points q).getD TpLive.empty := by
    show _ = (get1 (v.mvt.points.map _) q).getD TpLive.empty
    rw [get1_map]
    unfold State.tp
    cases get1 v.mvt.points q <;> rfl
  rw [read t, h.unoccupied, ← read s]

/-! ### The departure -/

/-- The state of a run that departs without a release. -/
def Run.outbound (x : Run) : RunState := if x.state = .cancelled then .cancelled else .running

/-- A run that has left its stop without a release. -/
def Run.gone (x : Run) (now : Nat) : Run :=
  let y := { x.modStop x.cur (fun z => { z with actDep := some now }) with
    state := x.outbound, cur := x.cur + 1, causes := Causes.none }
  if x.state = .planned then y.leavePlanned.modStop x.cur fun z => { z with actArr := some now } else y

theorem outbound_moves (x : Run) : x.outbound ≠ .held ∧ x.outbound ≠ .dwelling ∧ x.outbound ≠ .planned := by
  unfold Run.outbound
  split <;> simp

theorem gone_leaves (hst : x.stopAt x.cur = some st) (now : Nat) :
    (x.gone now).state = x.outbound ∧ (x.gone now).cur = x.cur + 1 ∧ (x.gone now).causes = Causes.none ∧
    (∀ k, k ≠ x.cur → (x.gone now).stopAt k = x.stopAt k) ∧
    (x.gone now).stopAt x.cur = some { st with
      actDep := some now, actArr := if x.state = .planned then some now else st.actArr } ∧
    (x.state = .planned → (x.gone now).placeTimer = none ∧ (x.gone now).placeWaiting = false) := by
  obtain ⟨y, hy⟩ : ∃ y : Run, y = { x.modStop x.cur (fun z => { z with actDep := some now }) with
    state := x.outbound, cur := x.cur + 1, causes := Causes.none } := ⟨_, rfl⟩
  have stop : y.stopAt x.cur = some { st with actDep := some now } := by
    rw [hy]
    exact stopAt_modStop hst fun z => { z with actDep := some now }
  have others (k : Nat) (hk : k ≠ x.cur) : y.stopAt k = x.stopAt k := by
    rw [hy]
    exact stopAt_modStop_ne x hk _
  by_cases planned : x.state = .planned
  · have gone : x.gone now = y.leavePlanned.modStop x.cur fun z => { z with actArr := some now } := by
      rw [hy, Run.gone, if_pos planned]
    rw [gone]
    refine ⟨?_, ?_, ?_, fun k hk => ?_, ?_, fun _ => ?_⟩
    · rw [modStop_eq, hy]; rfl
    · rw [modStop_eq, hy]; rfl
    · rw [modStop_eq, hy]; rfl
    · exact (stopAt_modStop_ne _ hk _).trans (others k hk)
    · rw [if_pos planned]
      exact stopAt_modStop (x := y.leavePlanned) stop fun z => { z with actArr := some now }
    · rw [modStop_eq]
      exact ⟨rfl, rfl⟩
  · have gone : x.gone now = y := by rw [hy, Run.gone, if_neg planned]
    rw [gone, if_neg planned]
    refine ⟨by rw [hy], by rw [hy], by rw [hy], others, stop, fun h => absurd h planned⟩

/-- The state of a departure without a release before the run leaves regulation. -/
def State.goneInto (s : State) (i g p : Nat) (x : Run) (stamps : Bool) : State :=
  let t := s.departInto i x.cur g x.outbound
  let u := if x.state = .planned then
      t.modRun i fun y => y.leavePlanned.modStop x.cur fun z => { z with actArr := some s.now }
    else t
  if stamps then u.stampDeparture p (s.runHandle i) else u

/-- What stands of a departure before the run leaves regulation. -/
theorem goneInto_leaves (hx : s.runAt i = some x) (gLow : 1 ≤ g) (gHigh : g ≤ 48) (pLow : 1 ≤ p) (pHigh : p ≤ 32)
    (stamps : Bool) (ht : t = s.goneInto i g p x stamps) :
    Onward s t ∧ t.runAt i = some (x.gone s.now) ∧ (t.seg g).queue = (s.seg g).queue ++ [s.runHandle i] ∧
    (∀ q, q ≠ g → t.seg q = s.seg q) ∧ (∀ l, t.mergeList l = s.mergeList l) ∧ t.claim i = s.claim i ∧
    (∀ q, (t.tp q).occupant = (s.tp q).occupant ∧ (t.tp q).lr = (s.tp q).lr) ∧
    (stamps = true → (t.tp p).ld = some s.now ∧ (t.tp p).lastDeparted = some (s.runHandle i)) ∧
    (stamps = false → ∀ q, t.tp q = s.tp q) := by
  obtain ⟨a, ha⟩ : ∃ a, a = s.departInto i x.cur g x.outbound := ⟨_, rfl⟩
  obtain ⟨b, hb⟩ : ∃ b, b = if x.state = .planned then
    a.modRun i fun y => y.leavePlanned.modStop x.cur fun z => { z with actArr := some s.now } else a := ⟨_, rfl⟩
  have made : t = if stamps then b.stampDeparture p (s.runHandle i) else b := by rw [ht, hb, ha]; rfl
  have runA : a.runAt i = some { x.modStop x.cur (fun z => { z with actDep := some s.now }) with
      state := x.outbound, cur := x.cur + 1, causes := Causes.none } := by
    rw [ha]
    unfold State.departInto
    rw [modRun_runAt, if_pos rfl]
    exact congrArg (Option.map _) hx
  have onA : Onward s a := by
    rw [ha]
    unfold State.departInto
    exact ((Onward.refl s).modSeg g _).modRun i fun r => by rw [modStop_eq]
  have onB : Onward s b := by
    rw [hb]
    split
    · exact onA.modRun i fun r => by rw [modStop_eq]; rfl
    · exact onA
  have runB : b.runAt i = some (x.gone s.now) := by
    rw [hb]
    unfold Run.gone
    split
    · rw [modRun_runAt, if_pos rfl, runA]
      rfl
    · exact runA
  have mvt : b.mvt = (s.enterSegment g (s.runHandle i)).mvt := by rw [hb, ha]; split <;> rfl
  have tpc : b.tpc = s.tpc := by rw [hb, ha]; split <;> rfl
  have points (q : Nat) : b.tp q = s.tp q := by rw [State.tp, mvt]; rfl
  have segs (q : Nat) : t.seg q = (s.enterSegment g (s.runHandle i)).seg q := by
    have : t.mvt.segs = b.mvt.segs := by rw [made]; split <;> rfl
    rw [State.seg, this, mvt]
    rfl
  refine ⟨?_, ?_, ?_, fun q hq => ?_, fun l => ?_, ?_, fun q => ?_, fun h => ?_, fun h q => ?_⟩
  · rw [made]
    split
    · exact onB.modTp _ _
    · exact onB
  · rw [made]
    split
    · exact runB
    · exact runB
  · rw [segs, enterSegment_queue gLow gHigh]
  · rw [segs, enterSegment_seg_ne hq]
  · have lists : t.mvt.mergeLists = s.mvt.mergeLists := by
      rw [made]
      split
      · exact (congrArg Mvt.mergeLists mvt :)
      · exact (congrArg Mvt.mergeLists mvt :)
    rw [State.mergeList, lists]
    rfl
  · have : t.tpc = s.tpc := by
      rw [made]
      split
      · exact tpc
      · exact tpc
    rw [State.claim, this]
    rfl
  · rw [made]
    split
    · rw [State.stampDeparture, modTp_tp]
      split
      · next e =>
        subst e
        obtain ⟨z, hz⟩ := get1_isSome b.mvt.points pLow pHigh
        have here : b.tp p = z := by rw [State.tp, hz]; rfl
        rw [hz, ← points, here]
        exact ⟨rfl, rfl⟩
      · rw [points]
        exact ⟨rfl, rfl⟩
    · rw [points]
      exact ⟨rfl, rfl⟩
  · obtain ⟨z, hz⟩ := get1_isSome b.mvt.points pLow pHigh
    rw [made, h, if_pos rfl, State.stampDeparture, modTp_tp, if_pos rfl, hz]
    exact ⟨congrArg some (congrArg Lck.clock (lck_of_kept onB.kept)), rfl⟩
  · rw [made, h]
    exact points q

/-- The count of a departure without a release: none for a CANCELLED run, or for a report that does not stamp it. -/
def State.counts (s : State) (i : Nat) (x : Run) (stamps : Bool) : State :=
  if stamps = true ∧ x.state ≠ .cancelled then s.countDeparture i x x.cur else s

theorem counts_leaves (hst : x.stopAt x.cur = some st) (hy : s.runAt i = some y) (stamps : Bool) :
    ∃ b l, s.counts i x stamps = { s with rtb := b } ∧
      (s.counts i x stamps).runAt i = some { y with lateness := l } ∧
      (s.counts i x stamps).runHandle i = s.runHandle i ∧
      b.counters = if stamps = true ∧ x.state ≠ .cancelled ∧ st.halts = true then
        mod1 s.rtb.counters x.route (·.count (lateness s.now (st.schedDep.getD 0))) else s.rtb.counters := by
  unfold State.counts
  split
  · next counted =>
    obtain ⟨b, l, he, run, handles, counters⟩ := countDeparture_leaves hst hy
    exact ⟨b, l, he, run, handles i, by simp [counters, counted]⟩
  · next skipped =>
    refine ⟨s.rtb, y.lateness, rfl, hy, rfl, ?_⟩
    rw [if_neg fun h => skipped ⟨h.1, h.2.1⟩]

/-- The platform after a departure without a release: a PLANNED run has stood at none. -/
def State.clearedBy (s : State) (p h : Nat) (x : Run) : State :=
  if x.state = .planned then s.evalHorizon else s.vacate p h

theorem vacated_clearedBy (s : State) (p h : Nat) (x : Run) : Vacated s (s.clearedBy p h x) := by
  unfold State.clearedBy
  split
  · exact vacated_evalHorizon s
  · exact vacated_vacate ..

theorem apart_clearedBy (high : i ≤ 128) (aside : s.aside i) (p h : Nat) (x : Run) : Apart i s (s.clearedBy p h x) := by
  unfold State.clearedBy
  split
  · exact (Apart.refl i s).evalHorizon
  · exact (Apart.refl i s).vacate high aside p h

/-- A PLANNED run's departure leaves the occupants; another's leaves it the occupant of no platform it departs from. -/
theorem clearedBy_occupant (high : i ≤ 128) (aside : s.aside i) (p : Nat) (x : Run) :
    (x.state = .planned → ∀ q, (s.clearedBy p (s.runHandle i) x).tp q = s.tp q) ∧
    (x.state ≠ .planned → ((s.clearedBy p (s.runHandle i) x).tp p).occupant ≠ some (s.runHandle i)) := by
  unfold State.clearedBy
  refine ⟨fun planned q => ?_, fun other => ?_⟩
  · rw [if_pos planned]
    obtain ⟨n, a, l, watched⟩ := evalHorizon_eq s
    rw [watched]
    rfl
  · rw [if_neg other]
    exact vacate_occupant high aside p

/-- The conflict of a departure without a release (R65). -/
def Run.outboundConflict (x : Run) : ConflictKind :=
  if x.state = .cancelled then .departedAfterCancel else .unreleasedDeparture

theorem departUnreleased_eq (hg : s.segmentAfter x x.cur = g) (room : (s.seg g).queue.length < 8) (p : Nat)
    (stamps : Bool) : s.departUnreleased i x p stamps =
    ((((((s.goneInto i g p x stamps).leaveRegulation i).counts i x stamps).clearedBy p (s.runHandle i) x).queueChanged
      g).conflict (s.runHandle i) p x.outboundConflict) := by
  have free : s.segmentFull g = false := decide_eq_false (Nat.not_le.2 room)
  simp only [State.departUnreleased, State.goneInto, State.counts, State.clearedBy, Run.outbound, Run.outboundConflict,
    hg, free, Bool.false_eq_true, if_false]

/-- A departure without a release, before its conflict is raised. -/
structure GoneUnreleased (i g p : Nat) (x : Run) (stamps : Bool) (st : Stop) (s t : State) : Prop where
  kept : t.kept = s.kept
  handle : t.runHandle i = s.runHandle i
  itb : t.quiet.itb = s.quiet.itb
  free : t.unqueued (s.runHandle i)
  holders : t.holdsNone (s.runHandle i)
  idle : NobodyWaits s → NobodyWaits t
  claim : t.claim i = s.claim i
  run : ∃ y l, t.runAt i = some y ∧ y.quiet = { x.gone s.now with lateness := l }.quiet
  queue : (t.seg g).queue = (s.seg g).queue ++ [s.runHandle i]
  segs : ∀ q, q ≠ g → t.seg q = s.seg q
  lists : ∀ l, t.mergeList l = s.mergeList l
  timer : (t.reg i).releaseTimer = none
  hold : (t.reg i).dispatcherHold = false
  releases : ∀ q, (t.tp q).lr = (s.tp q).lr
  stays : x.state = .planned → ∀ q, (t.tp q).occupant = (s.tp q).occupant
  leaves : x.state ≠ .planned → (t.tp p).occupant ≠ some (s.runHandle i)
  stamped : stamps = true → (t.tp p).ld = some s.now ∧ (t.tp p).lastDeparted = some (s.runHandle i)
  unstamped : stamps = false → (t.tp p).ld = (s.tp p).ld
  counters : t.rtb.counters = if stamps = true ∧ x.state ≠ .cancelled ∧ st.halts = true then
    mod1 s.rtb.counters x.route (·.count (lateness s.now (st.schedDep.getD 0))) else s.rtb.counters

theorem departUnreleased_leaves (hx : s.runAt i = some x) (hst : x.stopAt x.cur = some st)
    (hg : s.segmentAfter x x.cur = g) (room : (s.seg g).queue.length < 8) (gLow : 1 ≤ g) (gHigh : g ≤ 48) (pLow : 1 ≤ p)
    (pHigh : p ≤ 32) (stamps : Bool) : ∃ t, GoneUnreleased i g p x stamps st s t ∧
      s.departUnreleased i x p stamps = t.conflict (s.runHandle i) p x.outboundConflict := by
  refine ⟨_, ?_, departUnreleased_eq hg room p stamps⟩
  obtain ⟨-, high⟩ := runAt_range hx
  obtain ⟨held, dwelling, planned⟩ := outbound_moves x
  obtain ⟨a, ha⟩ : ∃ a, a = s.goneInto i g p x stamps := ⟨_, rfl⟩
  obtain ⟨onA, runA, queue, segs, lists, claimA, points, stamped, unstamped⟩ :=
    goneInto_leaves hx gLow gHigh pLow pHigh stamps ha
  obtain ⟨state, cur, causes, -⟩ := gone_leaves hst s.now
  obtain ⟨onB, mvtB, claimB, ⟨y, hy, quiet⟩, timer, hold, free, holders⟩ :=
    leaveRegulation_leaves runA (by rw [state]; exact held) (by rw [state]; exact dwelling)
  obtain ⟨b, hb⟩ : ∃ b, b = a.leaveRegulation i := ⟨_, rfl⟩
  rw [← ha, ← hb]
  rw [← hb] at onB mvtB claimB hy timer hold free holders
  rw [onA.runHandle] at free holders
  have onward := onA.trans onB
  obtain ⟨r, l, counted, runC, handleC, counters⟩ := counts_leaves hst hy stamps
  obtain ⟨c, hc⟩ : ∃ c, c = b.counts i x stamps := ⟨_, rfl⟩
  rw [← hc] at counted runC handleC ⊢
  have handleC : c.runHandle i = s.runHandle i := handleC.trans (onward.runHandle i)
  have stateC : y.state = x.outbound := (state_of_quiet quiet).trans state
  have asideC : c.aside i := ⟨_, runC, by rw [stateC]; exact planned, by rw [stateC]; exact dwelling,
    by rw [stateC]; exact held⟩
  have vacated := vacated_clearedBy c p (s.runHandle i) x
  have apart := apart_clearedBy high asideC p (s.runHandle i) x
  have occupants := clearedBy_occupant high asideC p x
  rw [handleC] at occupants
  obtain ⟨d, hd⟩ : ∃ d, d = c.clearedBy p (s.runHandle i) x := ⟨_, rfl⟩
  rw [← hd] at vacated apart occupants ⊢
  obtain ⟨z, hz, still⟩ := apart.runAt runC
  have stateD : z.state = x.outbound := (state_of_quiet still).trans stateC
  have rests := not_stands hz (by rw [stateD]; exact held) fun h => absurd (stateD.symm.trans h) dwelling
  have reworked := (Reworked.refl i d).queueChanged g
  obtain ⟨w, hw, same⟩ := reworked.still hz rests
  obtain ⟨e, he⟩ : ∃ e, e = d.queueChanged g := ⟨_, rfl⟩
  rw [← he] at reworked hw ⊢
  have handleD : d.runHandle i = s.runHandle i := (vacated.onward.runHandle i).trans handleC
  have mvtC : c.mvt = a.mvt := by rw [counted]; exact mvtB
  have seg (q : Nat) : e.seg q = a.seg q := by
    rw [State.seg, reworked.mvt, vacated.segs, mvtC]
    rfl
  have tp (q : Nat) : e.tp q = d.tp q := by rw [State.tp, reworked.mvt]; rfl
  have tpA (q : Nat) : c.tp q = a.tp q := by rw [State.tp, mvtC]; rfl
  have itbC : c.quiet.itb = b.quiet.itb := by rw [counted]; rfl
  have lckA : b.now = s.now := congrArg Lck.clock (lck_of_kept onward.kept)
  refine ⟨?_, (reworked.runHandle i).trans handleD, ?_, ?_, ?_, fun nobody => ?_, ?_, ⟨w, l, hw, ?_⟩, ?_,
    fun q hq => ?_, fun k => ?_, ?_, ?_, fun q => ?_, fun h q => ?_, fun h => ?_, fun h => ?_, fun h => ?_, ?_⟩
  · refine reworked.kept.trans (vacated.onward.kept.trans (Eq.trans ?_ onward.kept))
    rw [counted]
    rfl
  · exact reworked.onward.itb.trans (vacated.onward.itb.trans (itbC.trans onward.itb))
  · refine reworked.waits _ (vacated.onward.waits _ ?_)
    rw [counted]
    exact free
  · rw [← handleD]
    refine (reworked.rest rests).2.2 high (holdsNone_of_arbiters vacated.arbiters ?_)
    rw [handleD, counted]
    exact holders
  · refine reworked.idle (vacated.onward.idle ?_)
    rw [counted]
    exact onward.idle nobody
  · rw [State.claim, reworked.claims]
    refine apart.claim.trans (Eq.trans ?_ (claimB.trans claimA))
    rw [counted]
    rfl
  · refine (same.trans still).trans ?_
    exact congrArg (fun r : Run => { r with lateness := l }) quiet
  · rw [seg, queue]
  · rw [seg, segs q hq]
  · rw [State.mergeList, reworked.mvt]
    refine (vacated.mergeList k).trans ?_
    rw [State.mergeList, mvtC]
    exact lists k
  · rw [(reworked.rest rests).2.1, apart.reg, counted]
    exact timer
  · rw [(reworked.rest rests).2.1, apart.reg, counted]
    exact hold
  · rw [tp]
    exact (congrArg TpLive.lr (vacated.tp q) :).trans (by rw [tpA]; exact (points q).2)
  · rw [tp, occupants.1 h, tpA]
    exact (points q).1
  · rw [tp]
    exact occupants.2 h
  · rw [tp]
    have ld : (d.tp p).ld = (c.tp p).ld := (congrArg TpLive.ld (vacated.tp p) :)
    have last : (d.tp p).lastDeparted = (c.tp p).lastDeparted := (congrArg TpLive.lastDeparted (vacated.tp p) :)
    rw [ld, last, tpA]
    exact stamped h
  · rw [tp]
    have ld : (d.tp p).ld = (c.tp p).ld := (congrArg TpLive.ld (vacated.tp p) :)
    rw [ld, tpA, unstamped h]
  · rw [reworked.counters, vacated.onward.counters, counted]
    refine counters.trans ?_
    rw [lckA, onward.counters]

/-! ### The report -/

/-- The run as the stale timer's restart leaves it: where its stops are, and whether it is PLANNED or CANCELLED. -/
theorem tpAt_of_standing (h : y.standing = x.standing) (hst : x.stopAt x.cur = some st) (k : Nat) :
    y.tpAt k = x.tpAt k := by
  unfold Run.tpAt
  by_cases hk : k = x.cur
  · obtain ⟨st', hst', plan⟩ := standing_stop h hst
    rw [hk, hst', hst]
    exact (congrArg Stop.tp plan :)
  · rw [standing_stop_ne h hk]

theorem state_of_standing (h : y.standing = x.standing) (e : RunState) (held : e ≠ .held) (dwelling : e ≠ .dwelling) :
    y.state = e ↔ x.state = e := by
  have state := congrArg Run.state h
  rw [standing_state, standing_state] at state
  split at state <;> split at state <;> simp_all [eq_comm]

/-- The commands that report a departure without a release, by the run's state. -/
def LeavesUnreleased (s : State) (i : Nat) (x : Run) (run : Half) (point : Byte) (c : Instr) : Prop :=
  (c = .departed run point ∧ (x.state = .planned ∨ x.state = .dwelling ∨ x.state = .held ∨
      (x.state = .cancelled ∧ s.queueOf (s.runHandle i) = none))) ∨
    (c = .passed run point ∧ x.state = .planned ∧ x.cur = 1)

theorem settleDeparted_unreleased (here : x.tpAt x.cur = p) (hs : x.state = .planned ∨ x.state = .dwelling ∨
    x.state = .held ∨ (x.state = .cancelled ∧ s.queueOf (s.runHandle i) = none)) :
    s.settleDeparted i x p = s.departUnreleased i x p true := by
  unfold State.settleDeparted
  rcases hs with e | e | e | ⟨e, hq⟩
  · simp only [e, if_pos here]
  · simp only [e, if_pos here]
  · simp only [e, if_pos here]
  · simp only [e, hq, if_pos here]
    rfl

/-- A departure without a release is taken up as one, stamped where it is a DEPARTED report. -/
theorem exec_unreleased {c : Instr} (hr : Reported s run point.toNat i x) (hst : x.stopAt x.cur = some st)
    (here : st.tp = point.toNat) (hc : LeavesUnreleased s i x run point c) :
    ∃ u y stamps, Reworked i (s.received 3).restarted u ∧ u.runAt i = some y ∧ y.standing = x.standing ∧
      (stamps = true ↔ c = .departed run point) ∧
      exec c s = .next ((u.departUnreleased i y point.toNat stamps).serveLeft (s.received 3)).finish := by
  obtain ⟨u, y, taken, hy, standing, -, -, -, departed, passed⟩ := report_taken hr
  have at_ (k : Nat) := tpAt_of_standing standing hst k
  have cur : y.cur = x.cur := cur_of_standing standing
  have there : x.tpAt x.cur = point.toNat := by rw [Run.tpAt, hst]; exact here
  rcases hc with ⟨rfl, hs⟩ | ⟨rfl, planned, first⟩
  · refine ⟨u, y, true, taken, hy, standing, by simp, ?_⟩
    rw [departed, settleDeparted_unreleased (by rw [cur, at_, there])]
    rcases hs with e | e | e | ⟨e, hq⟩
    · exact .inl ((state_of_standing standing _ (by simp) (by simp)).2 e)
    · exact .inr ((waitsAtStop_iff.1 ((waitsAtStop_of_standing standing).trans
        (waitsAtStop_iff.2 (.inl e)))).imp_right .inl)
    · exact .inr ((waitsAtStop_iff.1 ((waitsAtStop_of_standing standing).trans
        (waitsAtStop_iff.2 (.inr e)))).imp_right .inl)
    · refine .inr (.inr (.inr ⟨(state_of_standing standing _ (by simp) (by simp)).2 e, ?_⟩))
      rw [taken_queueOf taken, taken_handle taken, hq]
  · refine ⟨u, y, false, taken, hy, standing, by simp, ?_⟩
    have planned : y.state = .planned := (state_of_standing standing _ (by simp) (by simp)).2 planned
    rw [passed, State.settlePassed, planned]
    simp only [show y.tpAt 1 = point.toNat by rw [at_, ← first, there], if_true]

/-- Settles O38: the departure by its parts, on the run as the stale timer's restart leaves it; the conflict and the
service that end the event leave them. -/
theorem unreleasedDepartures : Obligations.UnreleasedDepartures := by
  intro s run point i g j x st hr hst here hg room hj c hc
  obtain ⟨u, y, stamps, taken, hy, standing, reported, ht⟩ := exec_unreleased hr hst here hc
  obtain ⟨pLow, pHigh⟩ := point_range hr.2.1
  obtain ⟨gLow, gHigh⟩ := mem_ids.1 (List.mem_of_find?_eq_some hg)
  have cur : y.cur = x.cur := cur_of_standing standing
  obtain ⟨sto, hsto, plan⟩ := standing_stop standing hst
  have planned := state_of_standing standing .planned (by simp) (by simp)
  have cancelled := state_of_standing standing .cancelled (by simp) (by simp)
  have route : y.route = x.route := by
    rw [standing_eq, standing_eq] at standing
    exact (congrArg Run.route standing :)
  have segment : u.segmentAfter y y.cur = g := by
    rw [State.segmentAfter, cur, tpAt_of_standing standing hst, tpAt_of_standing standing hst, taken_lds taken, hg]
    rfl
  obtain ⟨d, gone, departed⟩ := departUnreleased_leaves hy (by rw [cur]; exact hsto) segment
    (by rw [taken_seg taken]; exact room) gLow gHigh pLow pHigh stamps
  obtain ⟨z, l, hz, quiet⟩ := gone.run
  have handle := taken_handle taken
  obtain ⟨t, hte⟩ : ∃ t, t = ((d.conflict? (s.runHandle i) point.toNat (some y.outboundConflict)).serveLeft
    (s.received 3)).finish := ⟨_, rfl⟩
  obtain ⟨steady, done, raised⟩ := event_concluded (j := j) (gone.kept.trans (taken.kept.trans rfl))
    (gone.handle.trans handle) (gone.itb.trans taken.onward.itb) (handle ▸ gone.free) hz (fun _ => hj) hte
  obtain ⟨w, hw, same⟩ := done.run z hz
  have now : u.now = s.lck.clock := taken_now taken
  obtain ⟨state, next, causes, others, stop, placement⟩ := gone_leaves (x := y) (by rw [cur]; exact hsto) u.now
  have stops (k : Nat) : w.stopAt k = (y.gone u.now).stopAt k :=
    (concluded_stop same k).trans (congrArg (fun r => r.stopAt k) quiet :)
  rw [departed, handle] at ht
  have dHandle : d.runHandle i = s.runHandle i := gone.handle.trans handle
  have tpLd (q : Nat) : (t.tp q).ld = (d.tp q).ld := (congrArg TpLive.ld (done.points q) :)
  have tpLast (q : Nat) : (t.tp q).lastDeparted = (d.tp q).lastDeparted :=
    (congrArg TpLive.lastDeparted (done.points q) :)
  refine ⟨t, w, _, by rw [ht, hte]; rfl, steady, hw, ?_, ?_, ?_, by rw [stops, ← cur]; exact stop, congrArg some now,
    ?_,
    fun k hk => ?_, fun h => ?_, ?_, fun q hq => ?_, fun h q => ?_, fun h => ?_, fun h => ?_, fun h => ?_, ?_, ?_,
    ?_, ?_, ?_, ?_, ?_, fun nobody => ?_⟩
  · refine (congrArg Run.state same :).trans ((congrArg Run.state quiet :).trans (state.trans ?_))
    unfold Run.outbound
    simp only [cancelled]
  · exact (congrArg Run.cur same :).trans ((congrArg Run.cur quiet :).trans (next.trans (by rw [cur])))
  · exact (congrArg Run.causes same :).trans ((congrArg Run.causes quiet :).trans causes)
  · show (if y.state = .planned then some u.now else sto.actArr) = _
    simp only [planned, now, show sto.actArr = st.actArr from (congrArg Stop.actArr plan :)]
  · rw [stops, others k (by rw [cur]; exact hk), standing_stop_ne standing hk]
  · obtain ⟨timer, waiting⟩ := placement (planned.2 h)
    exact ⟨(congrArg Run.placeTimer same :).trans ((congrArg Run.placeTimer quiet :).trans timer),
      (congrArg Run.placeWaiting same :).trans ((congrArg Run.placeWaiting quiet :).trans waiting)⟩
  · rw [done.seg, gone.queue, taken_seg taken, handle]
  · rw [done.seg, gone.segs q hq, taken_seg taken]
  · rw [done.occupant, gone.stays (planned.2 h), taken_tp taken]
  · rw [done.occupant, ← handle]
    exact gone.leaves fun e => h (planned.1 e)
  · obtain ⟨ld, last⟩ := gone.stamped (reported.2 h)
    rw [tpLd, tpLast, ld, last, now, handle]
    exact ⟨rfl, rfl⟩
  · have unstamped : stamps = false := Bool.eq_false_iff.2 fun e => by
      rw [reported.1 e] at h
      cases h
    rw [tpLd, gone.unstamped unstamped, taken_tp taken]
  · rw [done.reg, gone.timer]
  · rw [done.reg, gone.hold]
  · exact done.waits (by rw [dHandle]; exact handle ▸ gone.free)
  · have holders := done.holders (by rw [dHandle]; exact handle ▸ gone.holders)
    rw [dHandle] at holders
    exact holders
  · rw [done.claim, gone.claim, State.claim, taken.claims]
    rfl
  · have halts : sto.halts = st.halts := (congrArg Stop.halts plan :)
    have sched : sto.schedDep = st.schedDep := (congrArg Stop.schedDep plan :)
    rw [done.counters, gone.counters, halts, sched, route, now, taken.counters]
    simp only [reported, ne_eq, cancelled]
    rfl
  · have kind : y.outboundConflict = if x.state = .cancelled then .departedAfterCancel else .unreleasedDeparture := by
      unfold Run.outboundConflict
      simp only [cancelled]
    rw [← kind]
    exact raised
  · have mvt := done.idle (gone.idle (taken.idle nobody))
    refine ⟨fun q => ?_, fun k => ?_⟩
    · rw [State.tp, mvt]
      exact (gone.releases q).trans (by rw [taken_tp taken])
    · rw [State.mergeList, mvt]
      exact (gone.lists k).trans (taken_mergeList taken k)

end Sys2Proof.Machine
end

/-! ## What an event shows the clients and the boards (R170, R179) -/

section
namespace Sys2Proof.Machine
variable {s t u v : State} {K L : NoticeKind → Prop}

/-! ### The display -/

/-- The description, the boards, which of them are marked, the staleness of the line, and the pending notices. -/
def State.display (s : State) : Lds × Vector (Option Board) 32 × List Nat × Bool × Vector ClientNotices 8 :=
  (s.lds, s.piu.boards, s.piu.dirty, s.mvt.stale, s.crp.notices)

theorem foldl_display {α : Type} {f : State → α → State} (h : ∀ t a, (f t a).display = t.display) (l : List α)
    (s : State) : (l.foldl f s).display = s.display := foldl_same State.display f h l s

theorem ite_display (p : Prop) [Decidable p] (a b : State) :
    (if p then a else b).display = if p then a.display else b.display := by split <;> rfl

@[simp] theorem onRtb_display (s : State) (f : Rtb → Rtb) : (s.onRtb f).display = s.display := rfl
@[simp] theorem onDrg_display (s : State) (f : Drg → Drg) : (s.onDrg f).display = s.display := rfl
@[simp] theorem onItb_display (s : State) (f : Itb → Itb) : (s.onItb f).display = s.display := rfl
@[simp] theorem onFli_display (s : State) (f : Fli → Fli) : (s.onFli f).display = s.display := rfl
@[simp] theorem modRun_display (s : State) (i : Nat) (f : Run → Run) : (s.modRun i f).display = s.display := rfl
@[simp] theorem modReg_display (s : State) (i : Nat) (f : RegRec → RegRec) : (s.modReg i f).display = s.display := rfl
@[simp] theorem modArbiter_display (s : State) (m : Nat) (f : Arbiter → Arbiter) :
    (s.modArbiter m f).display = s.display := rfl
@[simp] theorem modSub_display (s : State) (k : Nat) (f : SubLive → SubLive) : (s.modSub k f).display = s.display := rfl
@[simp] theorem putClaim_display (s : State) (i : Nat) (c : Option Claim) : (s.putClaim i c).display = s.display := rfl
@[simp] theorem modSeg_display (s : State) (g : Nat) (f : SegLive → SegLive) : (s.modSeg g f).display = s.display := rfl
@[simp] theorem modTp_display (s : State) (p : Nat) (f : TpLive → TpLive) : (s.modTp p f).display = s.display := rfl
@[simp] theorem modMergeList_display (s : State) (m : Nat) (f : List Nat → List Nat) :
    (s.modMergeList m f).display = s.display := rfl
@[simp] theorem modAnn_display (s : State) (i : Nat) (f : Announcement → Announcement) :
    (s.modAnn i f).display = s.display := rfl
@[simp] theorem modChan_display (s : State) (c : Nat) (f : Channel → Channel) :
    (s.modChan c f).display = s.display := rfl
@[simp] theorem retireAnn_display (s : State) (i : Nat) : (s.retireAnn i).display = s.display := rfl
@[simp] theorem modInc_display (s : State) (i : Nat) (f : Incident → Incident) :
    (s.modInc i f).display = s.display := rfl
@[simp] theorem order_display (s : State) (o : Order) : (s.order o).display = s.display := rfl

/-! ### Announcements and channels without their endings (R158, R162, R164) -/

@[simp] theorem modAnnOf_display (s : State) (h : Nat) (f : Announcement → Announcement) :
    (s.modAnnOf h f).display = s.display := by
  unfold State.modAnnOf
  split <;> simp

@[simp] theorem enqueue_display (s : State) (h c due : Nat) : (s.enqueue h c due).display = s.display := by
  simp [State.enqueue]

@[simp] theorem sendCut_display (s : State) (c token : Nat) : (s.sendCut c token).display = s.display := rfl

@[simp] theorem play_display (s : State) (c h : Nat) (zones : ZoneSet) : (s.play c h zones).display = s.display := by
  simp [State.play]

@[simp] theorem preempt_display (s : State) (c h old : Nat) (zones : ZoneSet) :
    (s.preempt c h old zones).display = s.display := by
  simp [State.preempt]

@[simp] theorem redirect_display (s : State) (c h : Nat) : (s.redirect c h).display = s.display := by
  simp [State.redirect]

@[simp] theorem unlinkAnn_display (s : State) (inc : Option Nat) (h : Nat) :
    (s.unlinkAnn inc h).display = s.display := by
  unfold State.unlinkAnn State.modIncOf
  split
  · split <;> simp
  · rfl

@[simp] theorem haltChannel_display (s : State) (c : Nat) : (s.haltChannel c).display = s.display := by
  simp only [State.haltChannel, ite_display, modChan_display, ite_self]

@[simp] theorem createAnn_display (s : State) (x : AnnSpec) (o : Owner) (inc run : Option Nat) :
    (s.createAnn x o inc run).1.display = s.display := by
  unfold State.createAnn
  split
  · rfl
  · simp only [ite_display, enqueue_display]
    exact ite_self _

/-! ### Merges, gates and wait queues (R82 to R96, R106 to R112) -/

@[simp] theorem returnClaim_display (s : State) (i : Nat) : (s.returnClaim i).display = s.display := by
  unfold State.returnClaim
  split <;> rfl

@[simp] theorem leaveQueues_display (s : State) (h : Nat) : (s.leaveQueues h).display = s.display :=
  foldl_display (fun t k => modSub_display t k _) _ s

@[simp] theorem nameHolder_display (s : State) (m i : Nat) : (s.nameHolder m i).display = s.display := by
  simp [State.nameHolder, ite_display]

@[simp] theorem chooseHolder_display (s : State) (m : Nat) : (s.chooseHolder m).display = s.display := by
  unfold State.chooseHolder
  split
  · split <;> simp
  · rfl

@[simp] theorem loseHolderAt_display (s : State) (h m : Nat) : (s.loseHolderAt h m).display = s.display := by
  simp [State.loseHolderAt, ite_display]

@[simp] theorem loseHolder_display (s : State) (h : Nat) : (s.loseHolder h).display = s.display :=
  foldl_display (fun t m => loseHolderAt_display t h m) _ s

@[simp] theorem settleMerge_display (s : State) (i : Nat) : (s.settleMerge i).display = s.display := by
  unfold State.settleMerge
  split
  · split
    · split <;> simp
    · rfl
  · rfl

@[simp] theorem settleMerges_display (t s : State) (l : List Nat) : (t.settleMerges s l).display = t.display :=
  foldl_display (fun u i => by simp [ite_display]) _ t

@[simp] theorem evalMerge_display (s : State) (i : Nat) (r : Run) (others : Bool) :
    (s.evalMerge i r others).1.display = s.display := by
  simp only [State.evalMerge]
  (repeat' split) <;> simp

@[simp] theorem gates_display (s : State) (i : Nat) (r : Run) : (s.gates i r).1.display = s.display :=
  evalMerge_display ..

@[simp] theorem holdFor_display (s : State) (i : Nat) (g : Causes) : (s.holdFor i g).display = s.display := by
  simp [State.holdFor]

@[simp] theorem recheckWaiting_display (s : State) (i : Nat) (r : Run) :
    (s.recheckWaiting i r).display = s.display := by
  simp [State.recheckWaiting, ite_display]

@[simp] theorem recheckRun_display (mask : Causes) (s : State) (i : Nat) :
    (State.recheckRun mask s i).display = s.display := by
  simp only [State.recheckRun]
  split
  · rfl
  · (repeat' split) <;> simp

@[simp] theorem recheck_display (s : State) (mask : Causes) (l : List Nat) : (s.recheck mask l).display = s.display :=
  (settleMerges_display ..).trans (foldl_display (recheckRun_display mask) l s)

@[simp] theorem leaveRegulation_display (s : State) (i : Nat) : (s.leaveRegulation i).display = s.display := by
  simp [State.leaveRegulation]

@[simp] theorem recordGrant_display (s : State) (i : Nat) (r : Run) : (s.recordGrant i r).display = s.display := by
  simp only [State.recordGrant]
  split
  · rfl
  · simp [ite_display]

@[simp] theorem completeRelease_display (s : State) (i : Nat) : (s.completeRelease i).display = s.display := by
  unfold State.completeRelease
  split
  · rfl
  · simp

@[simp] theorem grantHead_display (s : State) (k : Nat) (e : WaitEntry) : (s.grantHead k e).display = s.display := by
  unfold State.grantHead
  dsimp only
  split
  · rw [completeRelease_display]
    rfl
  · rfl

theorem serveQueue_display (k n : Nat) (s : State) : (State.serveQueue k n s).display = s.display := by
  induction n generalizing s with
  | zero => rfl
  | succ n ih =>
    unfold State.serveQueue
    split
    · rfl
    · split
      · exact (ih _).trans (grantHead_display ..)
      · rfl

@[simp] theorem serveLeft_display (t s : State) : (t.serveLeft s).display = t.display := by
  refine foldl_display (fun u k => ?_) _ t
  split
  · rfl
  · exact serveQueue_display k _ u

/-! ### The track and the departures (R52, R56, R61, R108) -/

@[simp] theorem leaveMerges_display (s : State) (r : Run) (a b i : Nat) : (s.leaveMerges r a b i).display = s.display :=
  foldl_display (fun t m => by simp [State.leaveMerge, ite_display]) _ s

@[simp] theorem leaveEveryMerge_display (s : State) (i : Nat) : (s.leaveEveryMerge i).display = s.display :=
  (modReg_display ..).trans (foldl_display (fun t m => modMergeList_display t m _) (ids 2) s)

@[simp] theorem reachStop_display (s : State) (i m : Nat) : (s.reachStop i m).display = s.display := rfl

@[simp] theorem departInto_display (s : State) (i k g : Nat) (st : RunState) :
    (s.departInto i k g st).display = s.display := rfl

@[simp] theorem stampDeparture_display (s : State) (p h : Nat) : (s.stampDeparture p h).display = s.display := rfl

@[simp] theorem startClaimTimer_display (s : State) (i : Nat) (r : Run) :
    (s.startClaimTimer i r).display = s.display := by
  unfold State.startClaimTimer
  split <;> rfl

@[simp] theorem countDeparture_display (s : State) (i : Nat) (r : Run) (k : Nat) :
    (s.countDeparture i r k).display = s.display := by
  unfold State.countDeparture
  split
  · rfl
  · split <;> rfl

/-! ### Notices posted -/

theorem posted_trans {l m : List (Notice × Recipients)} (h : Posted s t l) (lds : t.lds = s.lds) (h' : Posted t u m) :
    Posted s u (l ++ m) := fun k x hx => by
  rw [h' k x (lds ▸ hx), h k x hx, Option.map_map]
  congr 1
  funext c
  simp [List.foldl_append]

theorem posted_postTo (s : State) (n : Notice) (c : Nat) : Posted s (s.postTo n c) [(n, ownedBy (.client c))] := by
  intro k x hx
  rw [postTo_notices hx]
  congr 1
  funext y
  by_cases hc : c = k <;> cases hb : x.configured <;> simp [ownedBy, hc]

theorem posted_postWhere (s : State) (n : Notice) (p : Client → Bool) :
    Posted s (s.postWhere n p) [(n, fun _ x => p x)] := fun k x hx => by
  rw [postWhere_notices hx]
  rfl

/-- An event's part posts notices of certain kinds alone; it marks boards but does not change them, and leaves the
description and the staleness. -/
structure Heard (K : NoticeKind → Prop) (s t : State) : Prop where
  lds : t.lds = s.lds
  boards : t.piu.boards = s.piu.boards
  stale : t.mvt.stale = s.mvt.stale
  marked : s.piu.dirty ⊆ t.piu.dirty
  notices : ∃ l, (∀ n ∈ l, K n.1.kind) ∧ Posted s t l

theorem Heard.trans (h : Heard K s t) (h' : Heard K t u) : Heard K s u := by
  obtain ⟨l, kinds, posted⟩ := h.notices
  obtain ⟨m, kinds', posted'⟩ := h'.notices
  exact ⟨h'.lds.trans h.lds, h'.boards.trans h.boards, h'.stale.trans h.stale, fun p hp => h'.marked (h.marked hp),
    l ++ m, fun n hn => (List.mem_append.1 hn).elim (kinds n) (kinds' n), posted_trans posted h.lds posted'⟩

theorem Heard.of_display (h : t.display = s.display) : Heard K s t := by
  have notices : t.crp.notices = s.crp.notices := (congrArg (fun d => d.2.2.2.2) h :)
  have dirty : t.piu.dirty = s.piu.dirty := (congrArg (fun d => d.2.2.1) h :)
  exact ⟨(congrArg (fun d => d.1) h :), (congrArg (fun d => d.2.1) h :), (congrArg (fun d => d.2.2.2.1) h :),
    dirty ▸ List.Subset.refl _, [], by simp, posted_nil notices⟩

theorem Heard.refl (s : State) : Heard K s s := .of_display rfl

/-- A step that shows nothing follows. -/
theorem Heard.still (h : Heard K s t) (hu : u.display = t.display) : Heard K s u := h.trans (.of_display hu)

theorem Heard.mono (h : Heard K s t) (hK : ∀ n, K n → L n) : Heard L s t := by
  obtain ⟨lds, boards, stale, marked, l, kinds, posted⟩ := h
  exact ⟨lds, boards, stale, marked, l, fun n hn => hK _ (kinds n hn), posted⟩

theorem Heard.foldl {α : Type} {f : State → α → State} (hf : ∀ u a, Heard K u (f u a)) (h : Heard K s t)
    (l : List α) : Heard K s (l.foldl f t) := by
  induction l generalizing t with
  | nil => exact h
  | cons a l ih => exact ih (h.trans (hf t a))

theorem heard_markBoard (s : State) (p : Nat) : Heard K s (s.markBoard p) :=
  ⟨rfl, rfl, rfl, List.subset_cons_self _ _, [], by simp, posted_nil rfl⟩

theorem heard_markAllBoards (s : State) : Heard K s s.markAllBoards :=
  ⟨rfl, rfl, rfl, List.subset_append_right _ _, [], by simp, posted_nil rfl⟩

theorem heard_postTo (s : State) {n : Notice} (hn : K n.kind) (c : Nat) : Heard K s (s.postTo n c) := by
  have posted := posted_postTo s n c
  obtain ⟨l, hl⟩ := postTo_onCrp s n c
  rw [hl] at posted ⊢
  exact ⟨rfl, rfl, rfl, List.Subset.refl _, _, by simpa using hn, posted⟩

theorem heard_postWhere (s : State) {n : Notice} (hn : K n.kind) (p : Client → Bool) : Heard K s (s.postWhere n p) := by
  have posted := posted_postWhere s n p
  obtain ⟨l, hl⟩ := postWhere_onCrp s n p
  rw [hl] at posted ⊢
  exact ⟨rfl, rfl, rfl, List.Subset.refl _, _, by simpa using hn, posted⟩

/-! ### The end of announcements, and the service of channels (R151, R162 to R168) -/

/-- The notices of an announcement's end. -/
abbrev EndedOnly (n : NoticeKind) : Prop := n = .ended

theorem heard_markRun (s : State) (i : Nat) (r : Run) : Heard K s (s.markRun i r) := by
  refine Heard.foldl (fun u p => ?_) (heard_markBoard s _) (ids 32)
  split
  · exact heard_markBoard u p
  · exact .refl u

theorem heard_clearAutoDelay (s : State) (h : Nat) : Heard K s (s.clearAutoDelay h) := by
  unfold State.clearAutoDelay
  split
  · exact .refl s
  · split
    · exact .refl s
    · exact (Heard.of_display (modRun_display ..)).trans (heard_markRun ..)

theorem heard_notifyEnded (s : State) (o : Owner) (h : Nat) (why : EndReason) :
    Heard EndedOnly s (s.notifyEnded o h why) := by
  unfold State.notifyEnded
  split
  · exact heard_postTo (K := EndedOnly) s rfl _
  · exact .refl s

theorem heard_endAnn (s : State) (i : Nat) (why : EndReason) : Heard EndedOnly s (s.endAnn i why) := by
  unfold State.endAnn
  dsimp only
  split
  · exact .refl s
  · refine (((Heard.of_display ?_).trans (heard_clearAutoDelay ..)).trans (heard_notifyEnded ..)).still
      (retireAnn_display ..)
    simp [ite_display]

theorem heard_occurrenceDone (s : State) (i : Nat) : Heard EndedOnly s (s.occurrenceDone i) := by
  unfold State.occurrenceDone
  dsimp only
  split
  · exact .refl s
  · next a _ =>
    generalize (if 0 < a.spec.repeatCount then a.remaining - 1 else a.remaining) = left
    split
    · exact .of_display (modAnn_display ..)
    · exact (Heard.of_display (modAnn_display ..)).trans (heard_endAnn ..)

theorem heard_consume (s : State) (c h : Nat) : Heard EndedOnly s (s.consume c h) := by
  unfold State.consume
  dsimp only
  split
  · exact (Heard.of_display (modChan_display ..)).trans (heard_occurrenceDone ..)
  · exact .of_display (modChan_display ..)

theorem heard_fullWindow (s : State) (c h : Nat) (b : Bool) : Heard EndedOnly s (s.fullWindow c h b).1 := by
  unfold State.fullWindow
  dsimp only
  split
  · exact .refl s
  · split
    · exact .refl s
    · split
      · exact .refl s
      · exact .of_display (redirect_display ..)
    · split
      · exact heard_endAnn ..
      · exact .refl s

theorem heard_lookChannel (s : State) (c : Nat) : Heard EndedOnly s (s.lookChannel c).1 := by
  unfold State.lookChannel
  split
  · unfold State.lookEmpty
    dsimp only
    split
    · exact .refl s
    · split
      · exact heard_consume ..
      · split
        · exact heard_fullWindow ..
        · exact .of_display (play_display ..)
  · unfold State.lookBusy
    dsimp only
    split
    · exact .refl s
    · split
      · exact .refl s
      · split
        · exact .of_display (modChan_display ..)
        · split
          · exact heard_consume ..
          · split
            · exact .refl s
            · exact .of_display (preempt_display ..)

theorem heard_serveLoop (c n : Nat) (s : State) (b : Bool) : Heard EndedOnly s (State.serveLoop c n s b).1 := by
  induction n generalizing s b with
  | zero => exact .refl s
  | succ n ih =>
    have looked := heard_lookChannel s c
    unfold State.serveLoop
    split
    · next t e => rw [e] at looked; exact looked
    · next t e => rw [e] at looked; exact looked.trans (ih t b)
    · next t e => rw [e] at looked; exact looked.trans (ih t true)

theorem heard_serveOne (s : State) (c : Nat) : Heard EndedOnly s (s.serveOne c).1 := by
  unfold State.serveOne
  split
  · exact heard_serveLoop ..
  · exact .refl s

theorem heard_serveChannel (s : State) (c : Nat) : Heard EndedOnly s (s.serveChannel c) := by
  have served := heard_serveOne s c
  unfold State.serveChannel
  split
  · next t e => rw [e] at served; exact served.trans (heard_serveOne t 0)
  · next t e => rw [e] at served; exact served

theorem heard_endServing (s : State) (always : List Nat) (i : Nat) (why : EndReason) :
    Heard EndedOnly s (s.endServing always i why) := by
  unfold State.endServing
  dsimp only
  split
  · exact .refl s
  · split
    · exact ((heard_endAnn ..).trans (heard_serveChannel ..)).still (haltChannel_display ..)
    · exact heard_endAnn ..

theorem heard_withdrawServing (always : List Nat) (s : State) (h : Nat) :
    Heard EndedOnly s (State.withdrawServing always s h) := by
  unfold State.withdrawServing
  split
  · exact heard_endServing ..
  · exact .refl s

theorem heard_endRun (s : State) (i : Nat) : Heard EndedOnly s (s.endRun i) := by
  unfold State.endRun
  split
  · exact .refl s
  · exact (Heard.foldl (fun u h => heard_withdrawServing _ u h) (.refl s) _).trans (heard_markRun ..)

/-! ### Delay announcements and release times (R76 to R80, R97, R98) -/

theorem heard_startAnn (s : State) (h : Nat) : Heard EndedOnly s (s.startAnn h) := by
  unfold State.startAnn
  split
  · split
    · exact heard_serveChannel ..
    · exact .refl s
  · exact .refl s

theorem heard_postDelay (s : State) (i : Nat) (r : Run) : Heard EndedOnly s (s.postDelay i r) := by
  have created : Heard EndedOnly s _ :=
    .of_display (createAnn_display s (s.delaySpec (s.runHandle i)) .engine none (some (s.runHandle i)))
  simp only [State.postDelay]
  split
  · exact .refl s
  · split
    · next t a made =>
      rw [made] at created
      exact ((created.still (modRun_display ..)).trans (heard_markRun ..)).trans (heard_startAnn ..)
    · next t made =>
      rw [made] at created
      exact created

theorem heard_compareDelay (s : State) (i : Nat) (late : Int) : Heard EndedOnly s (s.compareDelay i late) := by
  unfold State.compareDelay
  split
  · exact .refl s
  · split
    · split
      · exact heard_postDelay ..
      · exact .refl s
    · split
      · exact heard_withdrawServing ..
      · exact .refl s

theorem heard_applyRelease (s : State) (i : Nat) (r : Run) (n : Nat) : Heard EndedOnly s (s.applyRelease i r n) := by
  have written : Heard EndedOnly s ((s.modRun i fun x => x.withRelease n).modReg i fun x =>
      { x with releaseTimer := some n }) := .of_display rfl
  exact (written.trans (heard_markBoard ..)).trans (heard_compareDelay ..)

theorem heard_computeRelease (s : State) (i : Nat) : Heard EndedOnly s (s.computeRelease i) := by
  unfold State.computeRelease
  split
  · split
    · exact heard_applyRelease ..
    · exact .refl s
  · exact .refl s

theorem heard_recomputeRun (s : State) (i : Nat) : Heard EndedOnly s (s.recomputeRun i) := by
  unfold State.recomputeRun State.returnToDwelling
  dsimp only
  split
  · exact .refl s
  · split
    · exact .refl s
    · split
      · exact heard_applyRelease ..
      · split
        · exact .refl s
        · exact (Heard.of_display (by simp)).trans (heard_applyRelease ..)
      · exact .refl s

theorem heard_recompute (s : State) (l : List Nat) : Heard EndedOnly s (s.recompute l) :=
  Heard.foldl heard_recomputeRun (.refl s) l

theorem heard_queueChanged (s : State) (g : Nat) : Heard EndedOnly s (s.queueChanged g) :=
  ((Heard.of_display (recheck_display ..)).trans (heard_recompute ..)).trans (heard_markBoard ..)

end Sys2Proof.Machine
end

/-! ## Reports that name nothing or repeat a step, and the stale line (R58, R61, R63, R66, R71, R143, R170, R179) -/

section
namespace Sys2Proof.Machine
variable {s t u v : State} {i j p g h m n : Nat} {x y : Run} {run : Half} {point : Byte} {c : Instr} {b : Board}

/-! ### What a movement report shows -/

/-- Every notice but LINE_EVENT. -/
abbrev NotLine (n : NoticeKind) : Prop := n ≠ .lineEvent

/-- What posts ends of announcements alone posts no LINE_EVENT. -/
theorem Heard.notLine (h : Heard EndedOnly s t) : Heard NotLine s t := h.mono fun _ e => by rw [e]; decide

theorem heard_evalHorizon (s : State) : Heard NotLine s s.evalHorizon := by
  unfold State.evalHorizon
  dsimp only
  split
  · split
    · split
      · exact (Heard.of_display (onRtb_display ..)).trans (heard_postWhere _ (by simp) _)
      · exact .of_display (onRtb_display ..)
    · exact .of_display (onRtb_display ..)
  · exact .refl s

theorem heard_placeRun (s : State) (i : Nat) : Heard NotLine s (s.placeRun i) := by
  unfold State.placeRun
  split
  · exact .refl s
  · next r _ =>
    have stood : Heard NotLine s ((s.modRun i fun y => y.leavePlanned.arriveAt 1 s.now).occupy (r.tpAt 1)
      (s.runHandle i)) := .of_display rfl
    exact (stood.trans (heard_computeRelease _ i).notLine).trans (heard_evalHorizon _)

theorem heard_vacate (s : State) (p h : Nat) : Heard NotLine s (s.vacate p h) := by
  have cleared : Heard NotLine s (s.modTp p fun z => { z with occupant := none }) := .of_display rfl
  unfold State.vacate
  split
  · unfold State.clearOccupant
    dsimp only
    split
    · exact cleared.trans (heard_placeRun ..)
    · exact cleared
  · exact .refl s

theorem heard_lowerReleased (s : State) : Heard NotLine s s.lowerReleased := by
  unfold State.lowerReleased
  dsimp only
  have lowered : Heard NotLine s (s.onDrg fun d => { d with releasedCount := d.releasedCount - 1 }) :=
    .of_display (onDrg_display ..)
  split
  · exact (lowered.still (onDrg_display ..)).trans (heard_postWhere _ (by simp) _)
  · exact lowered

/-- A raise posts the DESK notice of its incident (R132). -/
theorem raiseIn_posted (hj : s.freeInc = some j) (y : RaiseSpec) : ∃ z, (s.raiseIn j y).incAt j = some z ∧
    Posted s (s.raiseIn j y) [deskNotice (s.incHandle j) z.desk] := by
  obtain ⟨z, hz, -⟩ := freeInc_eq_some hj
  obtain ⟨number, hn⟩ : ∃ number, number = s.freeNumber 48 s.itb.nextNumber := ⟨_, rfl⟩
  obtain ⟨w, hw⟩ : ∃ w : State, w = (s.onItb fun b => { b with
    slots := mod1 b.slots j fun y' => { y' with inc := some (s.newIncident y number) }
    nextNumber := nextNumber number }).placeOnDesk (s.newIncident y number).desk (s.incHandle j) := ⟨_, rfl⟩
  have raised : s.raiseIn j y = w.postDesk (s.newIncident y number).desk (s.incHandle j) := by
    rw [hw, hn]
    rfl
  obtain ⟨l, hl⟩ := postWhere_onCrp w ⟨.desk, s.incHandle j, (s.newIncident y number).desk⟩ fun c =>
    c.desk == some (s.newIncident y number).desk
  refine ⟨s.newIncident y number, ?_, ?_⟩
  · rw [raised]
    show (State.postWhere ..).incAt j = _
    rw [hl]
    show (w.incAt j) = _
    rw [hw]
    show (get1 (mod1 s.itb.slots j _) j).bind _ = _
    rw [get1_mod1_self, hz]
    rfl
  · have posted := posted_postWhere w ⟨.desk, s.incHandle j, (s.newIncident y number).desk⟩ fun c =>
      c.desk == some (s.newIncident y number).desk
    have lds : w.lds = s.lds := by rw [hw]; rfl
    have crp : w.crp = s.crp := by rw [hw]; rfl
    intro k x hx
    rw [raised, ← crp]
    exact posted k x (lds ▸ hx)

theorem heard_raiseIn (s : State) (j : Nat) (y : RaiseSpec) : Heard NotLine s (s.raiseIn j y) := by
  unfold State.raiseIn State.postDesk
  dsimp only
  refine Heard.trans (.of_display ?_) (heard_postWhere _ (by simp) _)
  exact (onItb_display ..).trans (onItb_display ..)

theorem heard_raiseAuto (s : State) (j : Nat) (a : AutoCause) (d : AutoDetail) (n : Nat) :
    Heard NotLine s (s.raiseAuto j a d n) := by
  have raised := heard_raiseIn s j ⟨a.kind, a.severity, .engine, some a, some d, n⟩
  unfold State.raiseAuto
  dsimp only
  split
  · split
    · exact raised.still rfl
    · exact raised
  · exact raised

theorem heard_conflict (s : State) (h p : Nat) (k : ConflictKind) : Heard NotLine s (s.conflict h p k) := by
  unfold State.conflict State.requestAuto
  split
  · exact .refl s
  · split
    · exact heard_raiseAuto ..
    · exact .of_display (onItb_display ..)

theorem heard_conflict? (s : State) (h p : Nat) (k : Option ConflictKind) : Heard NotLine s (s.conflict? h p k) := by
  unfold State.conflict?
  split
  · exact heard_conflict ..
  · exact .refl s

theorem heard_arriveDwelling (s : State) (i m : Nat) (r : Run) : Heard NotLine s (s.arriveDwelling i m r) := by
  unfold State.arriveDwelling
  dsimp only
  refine Heard.trans (Heard.trans (.of_display ?_) (heard_computeRelease ..).notLine) (heard_queueChanged ..).notLine
  rw [returnClaim_display]
  exact leaveMerges_display s r r.cur m i

theorem heard_arriveTerminal (s : State) (i m : Nat) (r : Run) : Heard NotLine s (s.arriveTerminal i m r) := by
  unfold State.arriveTerminal
  dsimp only
  have ended : Heard NotLine s ((((s.leaveEveryMerge i).reachStop i m).modRun i fun x =>
      { x with state := .terminated }).returnClaim i) := by
    refine .of_display ?_
    rw [returnClaim_display]
    exact leaveEveryMerge_display s i
  split
  · exact ended.trans (heard_queueChanged ..).notLine
  · exact (ended.trans (heard_queueChanged ..).notLine).trans (heard_endRun ..).notLine

theorem heard_passThrough (s : State) (i m : Nat) (r : Run) : Heard NotLine s (s.passThrough i m r) := by
  unfold State.passThrough
  dsimp only
  refine Heard.trans (Heard.trans (.of_display ?_) (heard_queueChanged ..).notLine) (heard_queueChanged ..).notLine
  rw [returnClaim_display]
  exact leaveMerges_display (s.leaveSegment ((s.queueOf (s.runHandle i)).getD 0) (s.runHandle i)) r r.cur m i

theorem heard_departReleased (s : State) (i : Nat) (r : Run) (p : Nat) : Heard NotLine s (s.departReleased i r p) := by
  unfold State.departReleased
  dsimp only
  split
  · exact heard_conflict ..
  · refine Heard.trans (Heard.trans ?_ (heard_vacate ..)) (heard_queueChanged ..).notLine
    refine Heard.still (Heard.still (Heard.trans (.of_display ?_) (heard_lowerReleased _)) (startClaimTimer_display ..))
      (countDeparture_display ..)
    rfl

theorem goneInto_display (s : State) (i g p : Nat) (r : Run) (b : Bool) :
    (s.goneInto i g p r b).display = s.display := by
  unfold State.goneInto
  simp only [ite_display, stampDeparture_display, modRun_display, departInto_display, ite_self]

theorem counts_display (s : State) (i : Nat) (r : Run) (b : Bool) : (s.counts i r b).display = s.display := by
  unfold State.counts
  simp only [ite_display, countDeparture_display, ite_self]

theorem heard_clearedBy (s : State) (p h : Nat) (r : Run) : Heard NotLine s (s.clearedBy p h r) := by
  unfold State.clearedBy
  split
  · exact heard_evalHorizon s
  · exact heard_vacate ..

theorem heard_departUnreleased (s : State) (i : Nat) (r : Run) (p : Nat) (b : Bool) :
    Heard NotLine s (s.departUnreleased i r p b) := by
  by_cases room : (s.seg (s.segmentAfter r r.cur)).queue.length < 8
  · rw [departUnreleased_eq rfl room]
    refine Heard.trans (Heard.trans (Heard.trans (.of_display ?_) (heard_clearedBy ..)) (heard_queueChanged ..).notLine)
      (heard_conflict ..)
    rw [counts_display, leaveRegulation_display, goneInto_display]
  · unfold State.departUnreleased
    simp only [segmentFull_iff.2 (Nat.not_lt.1 room), if_true]
    exact heard_conflict ..

theorem heard_arrivedOnTrack (s : State) (i : Nat) (r : Run) (p : Nat) : Heard NotLine s (s.arrivedOnTrack i r p) := by
  unfold State.arrivedOnTrack
  dsimp only
  split
  · split
    · exact .refl s
    · exact heard_conflict ..
  · split
    · exact (heard_arriveTerminal ..).trans (heard_conflict? ..)
    · split
      · exact heard_conflict ..
      · exact (heard_arriveDwelling ..).trans (heard_conflict? ..)

theorem heard_settleArrived (s : State) (i : Nat) (r : Run) (p : Nat) : Heard NotLine s (s.settleArrived i r p) := by
  have unexpected := heard_conflict s (s.runHandle i) p .unexpectedPoint
  unfold State.settleArrived
  dsimp only
  split
  · unfold State.arrivedPlanned
    dsimp only
    split
    · exact unexpected
    · split
      · exact heard_conflict ..
      · exact heard_placeRun ..
  iterate 3
    · split
      · exact .refl s
      · exact unexpected
  · exact heard_arrivedOnTrack ..
  · split
    · exact heard_arrivedOnTrack ..
    · exact unexpected
  · exact unexpected

theorem heard_departedOnTrack (s : State) (i : Nat) (r : Run) (p : Nat) :
    Heard NotLine s (s.departedOnTrack i r p) := by
  unfold State.departedOnTrack
  split
  · exact .refl s
  · exact heard_conflict ..

theorem heard_settleDeparted (s : State) (i : Nat) (r : Run) (p : Nat) : Heard NotLine s (s.settleDeparted i r p) := by
  have unexpected := heard_conflict s (s.runHandle i) p .unexpectedPoint
  unfold State.settleDeparted
  dsimp only
  split
  iterate 3
    · split
      · exact heard_departUnreleased ..
      · exact unexpected
  · split
    · exact heard_departReleased ..
    · exact unexpected
  · exact heard_departedOnTrack ..
  · split
    · exact heard_departedOnTrack ..
    · split
      · exact heard_departUnreleased ..
      · exact unexpected
  · split
    · exact .refl s
    · exact unexpected

theorem heard_passedOnTrack (s : State) (i : Nat) (r : Run) (p : Nat) : Heard NotLine s (s.passedOnTrack i r p) := by
  unfold State.passedOnTrack
  dsimp only
  split
  · split
    · exact .refl s
    · exact heard_conflict ..
  · split
    · exact (heard_arriveTerminal ..).trans (heard_conflict? ..)
    · split
      · exact heard_conflict ..
      · exact (heard_passThrough ..).trans (heard_conflict? ..)

theorem heard_settlePassed (s : State) (i : Nat) (r : Run) (p : Nat) : Heard NotLine s (s.settlePassed i r p) := by
  have unexpected := heard_conflict s (s.runHandle i) p .unexpectedPoint
  unfold State.settlePassed
  dsimp only
  split
  · split
    · exact heard_departUnreleased ..
    · exact unexpected
  · exact heard_passedOnTrack ..
  · split
    · exact heard_passedOnTrack ..
    · exact unexpected
  all_goals exact unexpected

/-- The settlements of the three reports. -/
def settlement : Instr → State → Nat → Run → Nat → State
  | .arrived _ _ => State.settleArrived
  | .departed _ _ => State.settleDeparted
  | _ => State.settlePassed

theorem heard_settlement (c : Instr) (s : State) (i : Nat) (r : Run) (p : Nat) :
    Heard NotLine s (settlement c s i r p) := by
  unfold settlement
  split
  · exact heard_settleArrived ..
  · exact heard_settleDeparted ..
  · exact heard_settlePassed ..

theorem exec_report (hc : c ∈ [Instr.arrived run point, Instr.departed run point, Instr.passed run point]) (s : State) :
    exec c s = .next ((s.received 3).takeMovement run.toNat point.toNat (settlement c)).finish := by
  simp only [List.mem_cons, List.not_mem_nil, or_false] at hc
  rcases hc with rfl | rfl | rfl <;> rfl

/-! ### Reports that name nothing, or repeat a step -/

/-- A report that repeats a step already taken settles nothing. -/
theorem settlement_repeats (hc : c ∈ [Instr.arrived run point, Instr.departed run point, Instr.passed run point])
    (hr : Repeats s i x p c) : settlement c s i x p = s := by
  simp only [List.mem_cons, List.not_mem_nil, or_false] at hc
  rcases hc with rfl | rfl | rfl
  · show s.settleArrived i x p = s
    unfold State.settleArrived
    obtain ⟨hs, here⟩ | ⟨hs, passed, left⟩ := hr
    · rcases hs with e | e | e <;> simp only [e, if_pos here]
    · have onTrack : s.arrivedOnTrack i x p = s := by simp only [State.arrivedOnTrack, passed, if_pos left]
      rcases hs with e | ⟨e, hq⟩
      · simp only [e, onTrack]
      · simp only [e, Option.isSome_iff_ne_none.2 hq, if_true, onTrack]
  · show s.settleDeparted i x p = s
    unfold State.settleDeparted
    obtain ⟨e, here⟩ | ⟨hs, left⟩ := hr
    · simp only [e, if_pos here]
    · have onTrack : s.departedOnTrack i x p = s := by simp only [State.departedOnTrack, if_pos left]
      rcases hs with e | ⟨e, hq⟩
      · simp only [e, onTrack]
      · simp only [e, Option.isSome_iff_ne_none.2 hq, if_true, onTrack]
  · show s.settlePassed i x p = s
    unfold State.settlePassed
    obtain ⟨hs, passed, left⟩ := hr
    have onTrack : s.passedOnTrack i x p = s := by simp only [State.passedOnTrack, passed, if_pos left]
    rcases hs with e | ⟨e, hq⟩
    · simp only [e, onTrack]
    · simp only [e, Option.isSome_iff_ne_none.2 hq, if_true, onTrack]

theorem restarted_eq (fresh : s.mvt.stale = false) : (s.received n).restarted = { s with
    mvt := { s.mvt with staleTimer := some (min (s.lck.clock + s.lds.params.tStale) 107999) }
    fli := s.fli.received n } := by
  have clear : ({ s.mvt with
      staleTimer := some (min (s.lck.clock + s.lds.params.tStale) 107999), stale := false } : Mvt) =
      { s.mvt with staleTimer := some (min (s.lck.clock + s.lds.params.tStale) 107999) } := by rw [← fresh]
  exact congrArg (fun m => ({ s with mvt := m, fli := s.fli.received n } : State)) clear

/-- A report that names no timing point or no run number is counted unmatched (R187). -/
theorem exec_unknown (he : BetweenEvents s)
    (hc : c ∈ [Instr.arrived run point, Instr.departed run point, Instr.passed run point])
    (unknown : s.point point.toNat = none ∨ run.toNat = 0 ∨ 9999 < run.toNat) : exec c s = .next { s with
      fli := { s.fli.received 3 with unmatched := satInc s.fli.unmatched }.startFrame } := by
  rw [exec_report hc, State.takeMovement, if_pos, finish_clean (s.received 3).countUnmatched he,
    ← received_unmatched s 3]
  · rfl
  · rcases unknown with h | h | h
    · exact .inl (by rw [show (s.received 3).point = s.point from rfl, h]; rfl)
    · exact .inr (.inl (by omega))
    · exact .inr (.inr h)

/-- A report settled for the run with a number, or counted unmatched where there is none. -/
def State.settleFor (u : State) (f : State → Nat → Run → Nat → State) (n p : Nat) : State :=
  match u.runNumbered n with
  | none => u.countUnmatched
  | some (i, r) => f u i r p

theorem settleFor_none (h : u.runNumbered n = none) (f : State → Nat → Run → Nat → State) (p : Nat) :
    u.settleFor f n p = u.countUnmatched := by rw [State.settleFor, h]

theorem settleFor_some (h : u.runNumbered n = some (i, x)) (f : State → Nat → Run → Nat → State) (p : Nat) :
    u.settleFor f n p = f u i x p := by rw [State.settleFor, h]

theorem heard_settleFor (c : Instr) (u : State) (n p : Nat) : Heard NotLine u (u.settleFor (settlement c) n p) := by
  unfold State.settleFor
  split
  · exact .of_display (onFli_display ..)
  · exact heard_settlement ..

/-- A report with a known timing point and a run number in range restarts the stale timer and is settled (R58, R71). -/
theorem exec_known (hc : c ∈ [Instr.arrived run point, Instr.departed run point, Instr.passed run point])
    (known : s.point point.toNat ≠ none) (low : 1 ≤ run.toNat) (high : run.toNat ≤ 9999) : exec c s =
    .next (((s.received 3).restartStale.settleFor (settlement c) run.toNat point.toNat).serveLeft
      (s.received 3)).finish := by
  have there : ¬ (((s.received 3).point point.toNat).isNone = true ∨ run.toNat < 1 ∨ 9999 < run.toNat) := by
    rw [Option.isNone_iff_eq_none]
    simp only [not_or]
    exact ⟨known, by omega, by omega⟩
  rw [exec_report hc, State.takeMovement, if_neg there]
  rfl

/-- A report for no live run is counted unmatched after the stale timer has started again (R58). -/
theorem exec_noRun (he : BetweenEvents s)
    (hc : c ∈ [Instr.arrived run point, Instr.departed run point, Instr.passed run point])
    (known : s.point point.toNat ≠ none) (low : 1 ≤ run.toNat) (high : run.toNat ≤ 9999) (fresh : s.mvt.stale = false)
    (none : ∀ i x, s.runAt i = some x → x.number ≠ run.toNat) : exec c s = .next { s with
      mvt := { s.mvt with staleTimer := some (min (s.lck.clock + s.lds.params.tStale) 107999) }
      fli := { s.fli.received 3 with unmatched := satInc s.fli.unmatched }.startFrame } := by
  have idle : (s.received 3).restarted.runNumbered run.toNat = .none := runNumbered_eq_none.2 none
  rw [exec_known hc known low high, restartStale_fresh (s := s.received 3) fresh, settleFor_none idle,
    serveLeft_of_tpc (t := (s.received 3).restarted.countUnmatched) (s := s.received 3) rfl,
    finish_clean (s.received 3).restarted.countUnmatched he, restarted_eq fresh, ← received_unmatched s 3]
  rfl

/-- A report that repeats a step restarts the stale timer alone (R61, R63, R66). -/
theorem exec_repeats (hc : c ∈ [Instr.arrived run point, Instr.departed run point, Instr.passed run point])
    (hr : Reported s run point.toNat i x) (fresh : s.mvt.stale = false) (repeats : Repeats s i x point.toNat c) :
    exec c s = .next { s with
      mvt := { s.mvt with staleTimer := some (min (s.lck.clock + s.lds.params.tStale) 107999) }
      fli := (s.fli.received 3).startFrame } := by
  obtain ⟨he, known, low, high, numbered⟩ := hr
  have settled : settlement c (s.received 3).restarted i x point.toNat = (s.received 3).restarted := by
    refine settlement_repeats hc ?_
    simp only [List.mem_cons, List.not_mem_nil, or_false] at hc
    rcases hc with rfl | rfl | rfl <;> exact repeats
  rw [exec_known hc known low high, restartStale_fresh (s := s.received 3) fresh,
    settleFor_some (u := (s.received 3).restarted) (x := x) (i := i) numbered, settled,
    serveLeft_of_tpc (t := (s.received 3).restarted) (s := s.received 3) rfl,
    finish_clean (s.received 3).restarted he, restarted_eq fresh]

/-! ### The line goes STALE, or ceases to be (R71, R170, R179) -/

/-- A change of the STALE mark posts LINE_EVENT before the ends of announcements that its computations bring; every
board is marked. -/
theorem staleChanged_heard (s : State) (e : LineEvent) : (s.staleChanged e).lds = s.lds ∧
    (s.staleChanged e).piu.boards = s.piu.boards ∧ (s.staleChanged e).mvt.stale = s.mvt.stale ∧
    ids 32 ⊆ (s.staleChanged e).piu.dirty ∧
    ∃ ended, (∀ n ∈ ended, n.1.kind = .ended) ∧ Posted s (s.staleChanged e) (lineNotice e :: ended) := by
  have posted := posted_postWhere s ⟨.lineEvent, 0, e.detail⟩ fun _ => true
  obtain ⟨l, hl⟩ := postWhere_onCrp s ⟨.lineEvent, 0, e.detail⟩ fun _ => true
  obtain ⟨u, hu⟩ : ∃ u, u = s.postLineEvent e := ⟨_, rfl⟩
  have made : s.staleChanged e = u.recomputeAll.markAllBoards := by rw [hu]; rfl
  have left : u = s.onCrp fun c => { c with notices := l } := hu.trans hl
  obtain ⟨lds, boards, stale, -, ended, kinds, later⟩ :=
    (heard_recompute u (u.runSlots Run.waitsAtStop)).trans (heard_markAllBoards _)
  have first : Posted s u [lineNotice e] := hu ▸ posted
  rw [made]
  refine ⟨lds.trans (by rw [left]; rfl), boards.trans (by rw [left]; rfl), stale.trans (by rw [left]; rfl),
    List.subset_append_left _ _, ended, kinds, ?_⟩
  exact posted_trans first (by rw [left]; rfl) later

/-- The boards that the end of an event forms anew, where every board is marked. -/
theorem finish_boards (marked : ids 32 ⊆ u.piu.dirty) (hb : look u.piu.boards p = some b) :
    look u.finish.piu.boards p = some (u.boardNow p b) := by
  obtain ⟨v, hv, shown⟩ := finish_eq u
  have here : p ∈ u.piu.dirty := marked (mem_ids.2 (look_some_range hb))
  rw [hv]
  show look v p = _
  rw [shown, if_pos here, hb]
  rfl

/-- A report that ends STALE (R71). -/
theorem exec_report_stale (hc : c ∈ [Instr.arrived run point, Instr.departed run point, Instr.passed run point])
    (stale : s.mvt.stale = true) (known : s.point point.toNat ≠ none) (low : 1 ≤ run.toNat) (high : run.toNat ≤ 9999) :
    ∃ t others, exec c s = .next t ∧ t.mvt.stale = false ∧ (∀ n ∈ others, n.1.kind ≠ .lineEvent) ∧
      Posted s t (lineNotice .staleCleared :: others) ∧
      ∀ p b, look s.piu.boards p = some b → look t.piu.boards p = some (t.boardContent p) := by
  obtain ⟨u, hu⟩ : ∃ u, u = (s.received 3).restartStale := ⟨_, rfl⟩
  have changed : u = (s.received 3).restarted.staleChanged .staleCleared := by
    rw [hu, State.restartStale, if_pos (c := (s.received 3).mvt.stale = true) stale]
    rfl
  obtain ⟨lds, boards, fresh, marked, ended, kinds, posted⟩ :=
    staleChanged_heard (s.received 3).restarted .staleCleared
  rw [← changed] at lds boards fresh marked posted
  obtain ⟨v, hv⟩ : ∃ v, v = (u.settleFor (settlement c) run.toNat point.toNat).serveLeft (s.received 3) := ⟨_, rfl⟩
  have taken : exec c s = .next v.finish := by rw [exec_known hc known low high, hv, hu]
  obtain ⟨-, boards', fresh', marked', others, kinds', posted'⟩ : Heard NotLine u v :=
    hv ▸ (heard_settleFor ..).still (serveLeft_display ..)
  have same := sameBlocks_finish v
  have shows : v.mvt.stale = false := fresh'.trans (fresh.trans rfl)
  refine ⟨v.finish, ended ++ others, taken, by rw [same.mvt]; exact shows, fun n hn => ?_, ?_,
    fun p b hb => ?_⟩
  · rcases List.mem_append.1 hn with hn | hn
    · rw [kinds n hn]
      decide
    · exact kinds' n hn
  · have all := posted_trans posted lds posted'
    intro k x hx
    rw [finish_crp]
    exact all k x hx
  · have hb : look v.piu.boards p = some b := by rw [boards', boards]; exact hb
    rw [finish_boards (fun q hq => marked' (marked hq)) hb, State.boardNow, if_neg (by simp [shows]),
      boardContent_of_eq same.lds same.lck same.rtb same.mvt]

/-! ### The stale timer (R71, R143) -/

/-- The line marked STALE and the timer stopped. -/
def State.staled (s : State) : State := s.onMvt fun m => { m with staleTimer := none, stale := true }

/-- What going STALE does before the incident is asked for. -/
def State.wentStale (s : State) : State := if s.mvt.stale then s.staled else s.staled.staleChanged .staleSet

theorem reworked_wentStale (s : State) : Reworked 0 s.staled s.wentStale := by
  unfold State.wentStale
  split
  · exact .refl 0 _
  · exact (Reworked.refl 0 s.staled).staleChanged _

theorem incAt_of_itb (h : t.quiet.itb = s.quiet.itb) (i : Nat) :
    (t.incAt i).map (fun z => { z with anns := [] }) = (s.incAt i).map fun z => { z with anns := [] } := by
  have read (u : State) : (u.incAt i).map (fun z => { z with anns := [] }) =
      (get1 u.quiet.itb.slots i).bind IncSlot.inc := by
    show _ = (get1 (u.itb.slots.map IncSlot.quiet) i).bind IncSlot.inc
    rw [get1_map]
    unfold State.incAt
    cases get1 u.itb.slots i <;> rfl
  rw [read, h, ← read]

theorem incHandle_of_itb (h : t.quiet.itb = s.quiet.itb) (i : Nat) : t.incHandle i = s.incHandle i := by
  have read (u : State) : u.incHandle i = mkHandle ((get1 u.quiet.itb.slots i).elim 0 IncSlot.gen) i := by
    show _ = mkHandle ((get1 (u.itb.slots.map IncSlot.quiet) i).elim 0 IncSlot.gen) i
    rw [get1_map]
    unfold State.incHandle
    cases get1 u.itb.slots i <;> rfl
  rw [read, h, ← read]

theorem staleStands_iff : s.staleStands = true ↔
    ∃ i z, s.incAt i = some z ∧ z.auto = some .describerStale ∧ z.state ≠ .cleared := by
  simp only [State.staleStands, List.any_eq_true, Prod.exists, mem_liveIncs, Bool.and_eq_true, beq_iff_eq, bne_iff_ne]

theorem staleStands_of_itb (h : t.quiet.itb = s.quiet.itb) : t.staleStands = s.staleStands := by
  have carried {u v : State} (h : v.quiet.itb = u.quiet.itb) (hu : u.staleStands = true) : v.staleStands = true := by
    obtain ⟨i, z, hz, auto, stands⟩ := staleStands_iff.1 hu
    have same := incAt_of_itb h i
    rw [hz] at same
    obtain ⟨w, hw, e⟩ := Option.map_eq_some_iff.1 same
    exact staleStands_iff.2 ⟨i, w, hw, (congrArg Incident.auto e :).trans auto,
      fun c => stands ((congrArg Incident.state e :).symm.trans c)⟩
  exact Bool.eq_iff_iff.2 ⟨carried h.symm, carried h⟩

/-- The request for a DESCRIBER_STALE incident: nothing while one stands, else a raise in the free slot (R143, R144). -/
theorem requestStale (s : State) : ∃ b l, s.requestAuto .describerStale .nothing =
      { s with itb := b, crp := { s.crp with notices := l } } ∧
    (s.staleStands = true → s.requestAuto .describerStale .nothing = s) ∧
    (s.staleStands = false → ∀ j, s.freeInc = some j → ∃ z, (s.requestAuto .describerStale .nothing).incAt j = some z ∧
      z.auto = some .describerStale ∧ z.kind = .signalData ∧ z.severity = 2 ∧ z.state = .raised ∧ z.source = .engine ∧
      Posted s (s.requestAuto .describerStale .nothing) [deskNotice (s.incHandle j) z.desk]) ∧
    (s.freeInc = none → (s.requestAuto .describerStale .nothing).crp = s.crp) := by
  cases hs : s.staleStands with
  | true =>
    have same : s.requestAuto .describerStale .nothing = s := by rw [State.requestAuto, if_pos ⟨rfl, hs⟩]
    rw [same]
    exact ⟨s.itb, s.crp.notices, rfl, fun _ => rfl, by simp, fun _ => rfl⟩
  | false =>
    have new : ¬ (AutoCause.describerStale = .describerStale ∧ s.staleStands = true) := by simp [hs]
    cases hj : s.freeInc with
    | none =>
      have asked : s.requestAuto .describerStale .nothing = s.enterPending .describerStale .nothing := by
        rw [State.requestAuto, if_neg new, hj]
      rw [asked]
      exact ⟨_, s.crp.notices, rfl, by simp, by simp, fun _ => rfl⟩
    | some j =>
      have asked : s.requestAuto .describerStale .nothing = s.raiseAuto j .describerStale .nothing 1 := by
        rw [State.requestAuto, if_neg new, hj]
      obtain ⟨b, l, z, raised, hz, auto, -, kind, severity, state, source⟩ := raiseIn_raised hj
        ⟨.signalData, 2, .engine, some .describerStale, some .nothing, 1⟩
      obtain ⟨w, hw, posted⟩ := raiseIn_posted hj ⟨.signalData, 2, .engine, some .describerStale, some .nothing, 1⟩
      obtain rfl : z = w := Option.some.inj (hz.symm.trans hw)
      rw [asked]
      refine ⟨b, l, raised, by simp, fun _ k hk => ?_, by simp⟩
      obtain rfl : j = k := Option.some.inj hk
      exact ⟨z, hz, auto, kind, severity, state, source, posted⟩

/-- The event of a due stale timer. -/
def State.expired (s : State) : State := (s.wentStale.requestAuto .describerStale .nothing).serveLeft s

theorem exec_describerStaleTimerExpiry (due : s.reached s.mvt.staleTimer = true) :
    exec .describerStaleTimerExpiry s = .next s.expired.finish := by
  show Host.Outcome.next (if s.reached s.mvt.staleTimer = true then _ else _) = _
  rw [if_pos due]
  rfl

theorem expired_kept (s : State) : s.expired.kept = s.kept :=
  (serveLeft_kept ..).trans (staleExpiry_kept s)

/-- The track, the counters and the incident table after a due stale timer. -/
theorem expired_leaves (s : State) : s.expired.mvt.stale = true ∧ s.expired.mvt.staleTimer = none ∧
    s.expired.mvt.segs = s.mvt.segs ∧ s.expired.rtb.counters = s.rtb.counters ∧
    s.expired.itb = (s.wentStale.requestAuto .describerStale .nothing).itb := by
  obtain ⟨b, l, asked, -⟩ := requestStale s.wentStale
  have spared := serveLeft_unserved (s.wentStale.requestAuto .describerStale .nothing) s
  have mvt : (s.wentStale.requestAuto .describerStale .nothing).mvt = s.staled.mvt := by
    rw [asked]
    exact (reworked_wentStale s).mvt
  have counters : (s.wentStale.requestAuto .describerStale .nothing).rtb.counters = s.rtb.counters := by
    rw [asked]
    exact (reworked_wentStale s).counters
  exact ⟨(congrArg (fun z => z.2.2.2.stale) spared :).trans (congrArg Mvt.stale mvt),
    (congrArg (fun z => z.2.2.2.staleTimer) spared :).trans (congrArg Mvt.staleTimer mvt),
    (congrArg (fun z => z.2.2.2.segs) spared :).trans ((congrArg Mvt.segs mvt).trans rfl),
    (congrArg (fun z => z.2.2.1) spared :).trans counters, (congrArg Prod.fst spared :)⟩

theorem expired_display (s : State) :
    s.expired.display = (s.wentStale.requestAuto .describerStale .nothing).display := serveLeft_display ..

/-- The incident that reports the STALE line. -/
theorem expired_incident (s : State) : (s.staleStands = false → ∀ j, s.freeInc = some j → ∃ z,
      s.expired.incAt j = some z ∧ z.auto = some .describerStale ∧ z.kind = .signalData ∧ z.severity = 2 ∧
      z.state = .raised ∧ z.source = .engine ∧ Posted s.wentStale s.expired [deskNotice (s.incHandle j) z.desk]) ∧
    (s.staleStands = true ∨ s.freeInc = none → Posted s.wentStale s.expired []) ∧
    (s.staleStands = true → s.expired.itb.nextNumber = s.itb.nextNumber) := by
  have itb : s.wentStale.quiet.itb = s.quiet.itb := (reworked_wentStale s).onward.itb
  obtain ⟨-, -, -, stood, raised, full⟩ := requestStale s.wentStale
  obtain ⟨-, -, -, -, table⟩ := expired_leaves s
  have notices : s.expired.crp.notices = (s.wentStale.requestAuto .describerStale .nothing).crp.notices :=
    (congrArg (fun d => d.2.2.2.2) (expired_display s) :)
  rw [staleStands_of_itb itb] at stood raised
  rw [freeInc_of_itb itb] at raised full
  refine ⟨fun hs j hj => ?_, fun hs => posted_nil ?_, fun hs => ?_⟩
  · obtain ⟨z, hz, auto, kind, severity, state, source, posted⟩ := raised hs j hj
    refine ⟨z, ?_, auto, kind, severity, state, source, fun k x hx => ?_⟩
    · unfold State.incAt at hz ⊢
      rw [table]
      exact hz
    · rw [notices, ← incHandle_of_itb itb]
      exact posted k x hx
  · rw [notices]
    rcases hs with hs | hs
    · rw [stood hs]
    · rw [full hs]
  · rw [table, stood hs]
    exact nextNumber_of_itb itb

/-- Going STALE posts LINE_EVENT first, then ends of announcements alone. -/
theorem wentStale_posted (s : State) : ∃ ended, (∀ n ∈ ended, n.1.kind = .ended) ∧ (s.mvt.stale = true → ended = []) ∧
    Posted s s.wentStale ((if s.mvt.stale then [] else [lineNotice .staleSet]) ++ ended) := by
  unfold State.wentStale
  cases hs : s.mvt.stale with
  | true => exact ⟨[], by simp, fun _ => rfl, posted_nil rfl⟩
  | false =>
    obtain ⟨-, -, -, -, ended, kinds, posted⟩ := staleChanged_heard s.staled .staleSet
    exact ⟨ended, kinds, by simp, posted⟩

/-- The notices of a due stale timer, in their order. -/
theorem expired_posted (s : State) : ∃ ended, (∀ n ∈ ended, n.1.kind = .ended) ∧ (s.mvt.stale = true → ended = []) ∧
    Posted s s.expired ((if s.mvt.stale then [] else [lineNotice .staleSet]) ++ ended ++
      if s.staleStands then [] else s.freeInc.elim [] fun j =>
        (s.expired.incAt j).elim [] fun z => [deskNotice (s.incHandle j) z.desk]) := by
  obtain ⟨ended, kinds, none, first⟩ := wentStale_posted s
  obtain ⟨raised, quiet, -⟩ := expired_incident s
  have lds : s.wentStale.lds = s.lds := (lds_of_kept (reworked_wentStale s).kept).trans rfl
  refine ⟨ended, kinds, none, posted_trans first lds ?_⟩
  cases hs : s.staleStands with
  | true => exact quiet (.inl hs)
  | false =>
    cases hj : s.freeInc with
    | none => exact quiet (.inr hj)
    | some j =>
      obtain ⟨z, hz, -, -, -, -, -, posted⟩ := raised hs j hj
      simpa [hz] using posted

/-- Going STALE marks every board and changes none. -/
theorem expired_boards (s : State) (fresh : s.mvt.stale = false) :
    s.expired.piu.boards = s.piu.boards ∧ ids 32 ⊆ s.expired.piu.dirty := by
  obtain ⟨b, l, asked, -⟩ := requestStale s.wentStale
  have display := expired_display s
  have went : s.wentStale = s.staled.staleChanged .staleSet := by rw [State.wentStale, fresh]; rfl
  obtain ⟨-, boards, -, marked, -⟩ := staleChanged_heard s.staled .staleSet
  rw [asked, went] at display
  have dirty : s.expired.piu.dirty = (s.staled.staleChanged .staleSet).piu.dirty :=
    (congrArg (fun d => d.2.2.1) display :)
  exact ⟨(congrArg (fun d => d.2.1) display :).trans boards, dirty ▸ marked⟩

/-- A board held while the line is STALE shows DELAY on every line that shows a run. -/
theorem hold_lines {old new : BoardLine} (h : (old, new) ∈ [(b.line1, b.hold.line1), (b.line2, b.hold.line2)]) :
    new.run = old.run ∧ new.minutes = old.minutes ∧ new.notStopping = old.notStopping ∧
      (new.delay = true ↔ old.delay = true ∨ old.run ≠ none) := by
  have held : new = old.hold := by
    simp only [List.mem_cons, Prod.mk.injEq, List.not_mem_nil, or_false] at h
    rcases h with ⟨rfl, rfl⟩ | ⟨rfl, rfl⟩ <;> rfl
  rw [held]
  refine ⟨rfl, rfl, rfl, ?_⟩
  simp [BoardLine.hold, Option.isSome_iff_ne_none]

/-- Settles O39: the reports by what they name, the stale timer by the incident,
the boards and the notices of its event, and the report that ends STALE. -/
theorem reportsDiscardedAndStale : Obligations.ReportsDiscardedAndStale := by
  refine ⟨fun s run point c he hc => ⟨exec_unknown he hc, exec_noRun he hc, fun i x hr => exec_repeats hc hr⟩,
    fun s due => ?_, fun s he due fresh => ?_, fun s he due => ?_,
    fun s run point c he hc stale known low high => exec_report_stale hc stale known low high⟩
  · obtain ⟨stale, timer, segs, counters, -⟩ := expired_leaves s
    obtain ⟨raised, -, stood⟩ := expired_incident s
    have same := sameBlocks_finish s.expired
    refine ⟨_, exec_describerStaleTimerExpiry due, steadyTimer_of_kept (expired_kept s), by rw [same.mvt]; exact stale,
      by rw [same.mvt]; exact timer, fun g => ?_, by rw [same.rtb]; exact counters, fun j hs hj => ?_, fun hs => ?_⟩
    · rw [same.seg, State.seg, segs]
      rfl
    · obtain ⟨z, hz, auto, kind, severity, state, source, -⟩ := raised hs j hj
      refine ⟨z, ?_, auto, kind, severity, state, source⟩
      rw [State.incAt, same.itb]
      exact hz
    · rw [same.itb]
      exact stood hs
  · obtain ⟨boards, marked⟩ := expired_boards s fresh
    obtain ⟨stale, -⟩ := expired_leaves s
    refine ⟨_, exec_describerStaleTimerExpiry due, fun p b hb => ⟨b.hold, ?_, fun old new h => hold_lines h⟩⟩
    rw [finish_boards marked (boards ▸ hb), State.boardNow, if_pos stale]
  · obtain ⟨ended, kinds, none, posted⟩ := expired_posted s
    refine ⟨_, ended, exec_describerStaleTimerExpiry due, kinds, none, fun k x hx => ?_⟩
    have incAt (j : Nat) : s.expired.finish.incAt j = s.expired.incAt j := by
      rw [State.incAt, (sameBlocks_finish s.expired).itb]
      rfl
    rw [finish_crp]
    simp only [incAt]
    exact posted k x hx

end Sys2Proof.Machine
end
